-- ==== Sys2Proof/Word.lean ====
section
/-! DEFINITION. The words and the numbers of things that the KS48 specification names. -/

namespace Sys2Proof

/-- One byte of a frame, of the image, of a transfer or of the take store. -/
abbrev Byte := BitVec 8

/-- A 16-bit word: the line word, the line check, the levels of the input lines. -/
abbrev Word16 := BitVec 16

/-- One 32-bit word of the take store (R147). -/
abbrev Word32 := BitVec 32

/-- Stations are numbered 0 to 7 (00_scope.md section 7.4). -/
abbrev StationNo := Fin 8

/-- Axes are numbered 0 to 3 within a station. -/
abbrev AxisNo := Fin 4

/-- Input lines are IN0 to IN15. -/
abbrev LineNo := Fin 16

/-- Line-word slots are numbered 0 to 15. -/
abbrev SlotNo := Fin 16

/-- Output lines are OUT0 to OUT7. -/
abbrev OutNo := Fin 8

/-- Handwheel inputs are HW0 to HW3. -/
abbrev WheelNo := Fin 4

/-- Zones are numbered 0 to 7 (R114). -/
abbrev ZoneNo := Fin 8

/-- CREW-TRIP groups are numbered 0 to 3 (R45). -/
abbrev GroupNo := Fin 4

/-- Directory entries are numbered 0 to 15 (R150). -/
abbrev EntryNo := Fin 16

/-- Every station number, in ascending order. -/
def allStations : List StationNo := [0, 1, 2, 3, 4, 5, 6, 7]

/-- Every axis number, in ascending order. -/
def allAxes : List AxisNo := [0, 1, 2, 3]

/-- Every index of a table of sixteen, in ascending order. -/
def allSixteen : List (Fin 16) := [0, 1, 2, 3, 4, 5, 6, 7, 8, 9, 10, 11, 12, 13, 14, 15]

/-- Every index of a table of eight, in ascending order. -/
def allEight : List (Fin 8) := [0, 1, 2, 3, 4, 5, 6, 7]

end Sys2Proof
end

