-- ==== Sys2Proof/Config.lean ====
section
/-! DEFINITION. The settings of a station (what the configuration image tells it) and the free value of R60. The
settings in force are a field of State: they change at every load (R183). -/

namespace Sys2Proof

/-- The kind of an axis (R49). -/
inductive AxisKind where
  | unused | motion | lens
deriving DecidableEq, Repr

/-- The stop categories, HOLD < BRAKE < CUT (R129). -/
inductive Category where
  | hold | brake | cut
deriving DecidableEq, Repr

/-- The function of an input line (R44). LIMIT names an axis and whether it marks the high end. -/
inductive LineFunction where
  | noFunction
  | estop
  | crewTrip
  | crewWarn
  | limit (axis : AxisNo) (highEnd : Bool)
  | driveFault (axis : AxisNo)
  | stopButton
  | goButton
  | haltButton
  | resumeButton
  | enable
  | publish
deriving DecidableEq, Repr

/-- The internal sources of a line-word slot or of an output (R46). -/
inductive InternalSource where
  | running | takeRunning | atTarget | fixed0 | fixed1
deriving DecidableEq, Repr

/-- The mapping of an output line (2.9): a slot of a station's line word, an internal source, or a fixed level. -/
inductive OutMapping where
  | slot (station : StationNo) (slot : SlotNo)
  | source (src : InternalSource)
  | level (high : Bool)
deriving DecidableEq, Repr

/-- The value an output takes while its mapped station is not PRESENT (R47). -/
inductive Fallback where
  | low | high | hold
deriving DecidableEq, Repr

/-- The configured part of an axis: the fields of R49, the encoder link settings of 5.1, the brake delay of R129, the
take tolerance of R166, and the calibration settings and table of a LENS axis (6.4, R100). -/
structure AxisCfg where
  kind : AxisKind := .unused
  softLow : Int := 0
  softHigh : Int := 0
  vmax : Nat := 0
  a : Nat := 0
  ad : Nat := 0
  followLimit : Nat := 0
  crewSpeed : Nat := 0
  prerollSpeed : Nat := 0
  calSpeed : Nat := 0
  liveSource : Option StationNo := none
  enableLine : Option (StationNo × SlotNo) := none
  deadband : Nat := 0
  demandTimeout : Nat := 0
  takeable : Bool := false
  positionBits : Nat := 0
  clockCode : Nat := 0
  origin : Nat := 0
  floorDelay : Nat := 0
  badThreshold : Nat := 0
  alertThreshold : Nat := 0
  brakeDelay : Nat := 0
  tolerance : Nat := 0
  guardBand : Nat := 0
  minSpan : Nat := 0
  maxSpan : Nat := 0
  stallThreshold : Nat := 0
  autoCalibrate : Bool := false
  table : List (Nat × Nat) := []
deriving DecidableEq, Repr

/-- The configured part of an input line (2.7). -/
structure LineCfg where
  function : LineFunction := .noFunction
  activeHigh : Bool := false
  qualTime : Nat := 0
  group : GroupNo := 0
  published : Option SlotNo := none
deriving DecidableEq, Repr

/-- The qualifier of a zone (R114). -/
structure Qualifier where
  station : StationNo
  axis : AxisNo
  qlo : Int
  qhi : Int
deriving DecidableEq, Repr

/-- The configured part of a zone record (R114). -/
structure ZoneCfg where
  inUse : Bool := false
  axis : AxisNo := 0
  lo : Int := 0
  hi : Int := 0
  qualifier : Option Qualifier := none
  gateLine : Option (StationNo × SlotNo) := none
  tolerance : Nat := 0
deriving DecidableEq, Repr

/-- The configured part of an output line (2.9). -/
structure OutCfg where
  mapping : OutMapping := .level false
  fallback : Fallback := .low
deriving DecidableEq, Repr

/-- A handwheel record (3.4). -/
structure WheelCfg where
  target : Option (StationNo × AxisNo) := none
  lens : Bool := false
  gain : Int := 0
  start : Nat := 0
deriving DecidableEq, Repr

/-- All that the configuration image tells a station (12.6). The default is the content of a station that has loaded
nothing (log 8). -/
structure Settings where
  slowRate : Bool := false
  own : StationNo := 0
  roster : Byte := 0
  statusPeriod : Nat := 0
  axisPeriod : Nat := 0
  demandPeriod : Nat := 0
  liveness : Nat := 0
  skewWindow : Nat := 0
  holdLimit : Nat := 0
  estopCategory : Category := .cut
  peerLossCategory : Category := .brake
  groupCategory : Vector Category 4 := Vector.replicate 4 .brake
  checkThreshold : Nat := 0
  axes : Vector AxisCfg 4 := Vector.replicate 4 {}
  zones : Vector ZoneCfg 8 := Vector.replicate 8 {}
  lines : Vector LineCfg 16 := Vector.replicate 16 {}
  sources : Vector InternalSource 16 := Vector.replicate 16 .fixed0
  outs : Vector OutCfg 8 := Vector.replicate 8 {}
  wheels : Vector WheelCfg 4 := Vector.replicate 4 {}
  warnSlots : Vector (Option (StationNo × SlotNo)) 4 := Vector.replicate 4 none
deriving DecidableEq, Repr

/-- R60 counts a phase change "+1 or −1 by the phase order" and does not say which order counts up. Free value: whether
a handwheel turning with phase A leading phase B counts up (log 6). -/
opaque Config.phaseALeadsUp : Bool

end Sys2Proof
end

