-- ==== Sys2Proof/Syntax.lean ====
section
/-! DEFINITION. The commands of the block: one constructor of Instr for each row of spec/opcode_table.json. The table
gives no row any field; the operands below are what the rows' rules let the outside decide (log 4). -/

namespace Sys2Proof

/-- A received frame after its start cell, less the class that its row names (R3, 12.1): sender, index, length code,
payload bytes, the 16 check cells as read, and whether an idle cell came before the acknowledge cell (R2). -/
structure Wire where
  sender : StationNo
  index : Fin 4
  length : Fin 16
  payload : List Byte
  check : Word16
  idleInside : Bool
deriving DecidableEq, Repr

/-- The steps of the station, one constructor for each row of the table of operations and events. -/
inductive Instr where
  | powerOnReset
  /-- The reset pin held low for this many microseconds (R182). -/
  | pinReset (lowMicros : Nat)
  | resetRelease
  | configReadStart
  /-- The 1024 bytes read (R183) and the raw levels of the input lines at that event (R40), line k in bit k. -/
  | configReadDone (image : List Byte) (levels : Word16)
  /-- The raw levels sampled at the start of the control period (R39), line k in bit k. -/
  | controlPeriodBoundary (levels : Word16)
  | qualifiedEdge (line : LineNo)
  /-- A raw level of an ESTOP line as it now stands (R40). -/
  | estopEdge (line : LineNo) (level : Bool)
  /-- The two phases of a handwheel as now observed (R60). -/
  | handwheelCount (wheel : WheelNo) (phaseA phaseB : Bool)
  | demandPeriodBoundary
  | statusPeriod
  | axisPeriod
  /-- A cell boundary of the station's own timing, with the idle count there (R2, R14). -/
  | frameStart (idleCells : Nat)
  /-- Every cell of the own frame as read back, from the start cell to the end of the frame on the line (R5 to R8). -/
  | attemptEnd (cells : List Bool)
  | probeDue
  | statusEscalation
  | checkWindowEnd
  | stopFrame (w : Wire)
  /-- Class 1 (STATUS-URGENT) when urgent is set, class 5 otherwise (R4). -/
  | statusFrame (urgent : Bool) (w : Wire)
  | demandFrame (w : Wire)
  | axisFrame (w : Wire)
  /-- Class 7 when seven is set, class 6 otherwise (R4). -/
  | unknownClass (seven : Bool) (w : Wire)
  | armRecord (w : Wire)
  | armPlay (w : Wire)
  | go (w : Wire)
  | halt (w : Wire)
  | disarm (w : Wire)
  | resume (w : Wire)
  | erase (w : Wire)
  | calibrate (w : Wire)
  | livenessTimeout (station : StationNo)
  | demandTimeout (axis : AxisNo)
  | reportStale (station : StationNo) (axis : AxisNo)
  /-- The samples of one clock burst, in order (R83). -/
  | encoderRead (axis : AxisNo) (samples : List Bool)
  | dwellEnd (axis : AxisNo)
  | windowEnd (axis : AxisNo)
  | seekStall (axis : AxisNo)
  | blocked (axis : AxisNo)
  | brakeTimer (axis : AxisNo)
  | driveOnBoundary
  | releaseTimer (axis : AxisNo)
  | holdLimit
  | endReached
  | sampleAppend
  | readStation
  | readPeer (station : Byte)
  | readAxis (axis : Byte)
  | readInputs
  | readCounters
  | readTakedir
  | takeRead (number : Byte) (block : Word16)
  | takeCreate (number mask period : Byte) (length : BitVec 24)
  | takeWrite (number : Byte) (block : Word16) (words : List Word32)
  | takeClose (number : Byte)
  | takeErase (number : Byte)
  | lensTableWrite (axis count : Byte) (pairs : List (Word16 × Word16))
  | lensTableRead (axis : Byte)
  | sendCue (kind number mask parameter : Byte)
  | readRequests
  | clearRequests (bits : Word16)
  | writeEnables (mask : Word16)
  | readSnapshot
  | badCommand (command : Byte)
  /-- Select rose during the response (the command stands executed) or before the last argument byte (R187). -/
  | shortTransfer (duringResponse : Bool)
deriving DecidableEq, Repr

end Sys2Proof
end

