-- ==== Sys2Proof/Machine/State.lean ====
section
/-! DEFINITION. The state of a KS48 station as plain data, block by block (00_scope.md section 3), and State.reset, the
state right after a power-on start begins. Every default below is the value after a reset that the field's rule gives. -/

namespace Sys2Proof.Machine

/-! ## Names of states, causes, kinds and results -/

/-- The load state of the Configuration Loader (R183). -/
inductive LoadState where
  | loading | runReady | configFault
deriving DecidableEq, Repr

/-- The presence of a peer entry (R25). -/
inductive Presence where
  | absent | joining | present | lost
deriving DecidableEq, Repr

/-- The stop state (R131). -/
inductive StopState where
  | run | stopping | stopped | resuming
deriving DecidableEq, Repr

/-- The stop causes, in the order of their codes 1 to 14 (R130). -/
inductive Cause where
  | estop | crewTrip | zoneBreach | limit | follow | encLost | driveFault | peerLost | peerRestart | lineMute
  | duplicate | powerUp | resetPin | operator
deriving DecidableEq, Repr

/-- The take states, in the order of their codes 0 to 8 (R166). -/
inductive TakeState where
  | idle | armed | preroll | ready | running | waiting | ended | aborted | refused
deriving DecidableEq, Repr

/-- The mode of a take (R166). -/
inductive TakeMode where
  | record | play
deriving DecidableEq, Repr

/-- Why an ARM was refused (R166). -/
inductive RefusalReason where
  | stopped | badNumber | notRoster | noAxis | takeExists | dirFull | noTake | notCalibrated | bounds
deriving DecidableEq, Repr

/-- How a take ended (R166). -/
inductive EndKind where
  | endReached | halted | storeFull
deriving DecidableEq, Repr

/-- How a take was aborted (R166). -/
inductive AbortKind where
  | byStop | withoutStop
deriving DecidableEq, Repr

/-- The demand owner of an axis (R50). -/
inductive Owner where
  | hold | live | take | cal | stop
deriving DecidableEq, Repr

/-- The live gate of an axis (R55). -/
inductive Gate where
  | opened | closedEnable | closedSource | closedStale | zeroWait
deriving DecidableEq, Repr

/-- The mode of a profiler computation (R66). -/
inductive ProfilerMode where
  | velocity | position
deriving DecidableEq, Repr

/-- The state of an encoder link (R82). -/
inductive LinkState where
  | search | locked | lost | fault
deriving DecidableEq, Repr

/-- The calibration state of a LENS axis (R104). -/
inductive CalState where
  | uncalibrated | seekLow | seekHigh | calibrated | calFault
deriving DecidableEq, Repr

/-- Why a calibration failed (R104). -/
inductive CalReason where
  | spanShort | spanLong | noEnd | blocked
deriving DecidableEq, Repr

/-- The qualifier reading of a zone (R114). -/
inductive QualReading where
  | noQualifier | inside | outside | unknown
deriving DecidableEq, Repr

/-- The mute states of the Line Interface (R21, R23). -/
inductive Mute where
  | off | lineMute | permanent
deriving DecidableEq, Repr

/-- The cue kinds, in the order of their codes 1 to 8 (R163, 12.2). -/
inductive CueKind where
  | armRecord | armPlay | go | halt | disarm | resume | erase | calibrate
deriving DecidableEq, Repr

/-- The state of a directory entry (R150). -/
inductive EntryState where
  | empty | recording | complete | truncated
deriving DecidableEq, Repr

/-- The result codes of the service port other than OK (R188). -/
inductive Result where
  | badCommand | badArgs | busy | takeExists | dirFull | noSpace | badTable | queueFull
deriving DecidableEq, Repr

/-- Where the drive-on boundary of a resume stands (R144): not awaited, awaited, or passed with its work still to do. -/
inductive DriveOnPhase where
  | idle | awaited | due
deriving DecidableEq, Repr

/-! ## Messages (chapter 12) -/

/-- The content of a STATUS (R32). -/
structure StatusMsg where
  startFlag : Bool
  resumeBlocked : Bool
  encodersLocked : Bool
  lensCalibrated : Bool
  stop : StopState
  category : Option Category
  take : TakeState
  number : Byte
  time : Nat
  word : Word16
deriving DecidableEq, Repr

/-- The content of a CUE (R163). -/
structure CueMsg where
  kind : CueKind
  seq : Byte
  number : Byte
  mask : Byte
  parameter : Byte
deriving DecidableEq, Repr

/-- The content of a DEMAND (R63). -/
structure DemandMsg where
  station : StationNo
  axis : AxisNo
  lens : Bool
  seq : BitVec 4
  value : Int
deriving DecidableEq, Repr

/-- The content of an AXIS message (R38). -/
structure AxisMsg where
  position : Int
  velocity : Int
  valid : Bool
  atTarget : Bool
  driveOn : Bool
deriving DecidableEq, Repr

/-- The content of a STOP (R134, R135). -/
structure StopMsg where
  category : Category
  cause : Cause
  origin : StationNo
  copy : Nat
  seq : Byte
deriving DecidableEq, Repr

/-- A frame as received, with its class (R3, R4). -/
structure Frame where
  cls : Fin 8
  wire : Wire
deriving DecidableEq, Repr

/-! ## Line Interface (chapter 1) -/

/-- The occupied STOP slot: its content, the copies remaining 1..3 and the index of the next copy (R11, R16). -/
structure StopSlot where
  category : Category
  cause : Cause
  seq : Byte
  copies : Nat
  nextIndex : Nat
deriving DecidableEq, Repr

/-- An entry of the CUE FIFO (R13, R17). -/
structure CueSlot where
  cue : CueMsg
  attempts : Nat
deriving DecidableEq, Repr

/-- The slot that a frame on the line came from; a probe is a STATUS sent in LINE-MUTE (R22). -/
inductive Slot where
  | stop | status | cue | demand (i : Fin 4) | axis (i : Fin 4) | probe
deriving DecidableEq, Repr

/-- The station's own frame on the line; renewed is set when new content was placed in its slot meanwhile (R12, R16). -/
structure TxFrame where
  slot : Slot
  cls : Fin 8
  index : Fin 4
  payload : List Byte
  renewed : Bool
deriving DecidableEq, Repr

/-- The state of the Line Interface (R11, R19 to R24). -/
structure Lif where
  stop : Option StopSlot := none
  status : Option StatusMsg := none
  statusAge : Nat := 0
  statusUrgent : Bool := false
  lastPlaced : Option StatusMsg := none
  cues : List CueSlot := []
  demand : Vector (Option DemandMsg) 4 := Vector.replicate 4 none
  axis : Vector (Option AxisMsg) 4 := Vector.replicate 4 none
  onLine : Option TxFrame := none
  rx : Option Frame := none
  ackDriven : Bool := false
  idle : Nat := 0
  slowRate : Bool := false
  checkFailures : Nat := 0
  formatErrors : Nat := 0
  unknownClass : Nat := 0
  arbitrationLosses : Nat := 0
  bitErrors : Nat := 0
  unacknowledged : Nat := 0
  droppedCues : Nat := 0
  windowCount : Nat := 0
  thresholdFlag : Bool := false
  failures : Nat := 0
  mute : Mute := .off
  probeTimer : Nat := 0
  probeDue : Bool := false
deriving DecidableEq, Repr

/-! ## Peer Table (chapter 2) -/

/-- An axis report of a peer entry (R25); arrival none is an age of 65535. -/
structure AxisReport where
  position : Int := 0
  velocity : Int := 0
  valid : Bool := false
  atTarget : Bool := false
  driveOn : Bool := false
  arrival : Option Nat := none
deriving DecidableEq, Repr

/-- A peer entry (R25). -/
structure PeerEntry where
  presence : Presence := .absent
  count : Nat := 0
  last : Option StatusMsg := none
  arrival : Nat := 0
  marker : Bool := false
  reports : Vector AxisReport 4 := Vector.replicate 4 {}
  cueSeq : Option Byte := none
  demandSeq : Vector (Option (BitVec 4)) 4 := Vector.replicate 4 none
  gaps : Vector Nat 4 := Vector.replicate 4 0
deriving DecidableEq, Repr

/-- The last-ARM context record (R37); the sample period is none for ARM-PLAY. -/
structure ArmContext where
  record : Bool
  number : Byte
  mask : Byte
  period : Option Nat
  sender : StationNo
deriving DecidableEq, Repr

/-! ## Input/Output Lines (chapter 2) -/

/-- The running part of an input line (2.7): qualified none before the first qualification (R42). -/
structure LineState where
  raw : Bool := false
  qualified : Option Bool := none
  hold : Nat := 0
  latch : Bool := false
deriving DecidableEq, Repr

/-! ## The parts of an axis (chapters 3 to 8) -/

/-- The running part of the Demand Selector's axis record (R50): liveVel is the live target of a MOTION axis, liveUnit
that of a LENS axis. -/
structure Dsl where
  owner : Owner := .stop
  gate : Gate := .zeroWait
  latch : Bool := true
  liveVel : Int := 0
  liveUnit : Option Nat := none
  fresh : Nat := 65535
  held : Option Int := none
deriving DecidableEq, Repr

/-- The state of the Motion Profiler for an axis (R66); reseed is set when a seek has ended, and with it the
owner CAL, since the last computation (R80). -/
structure Mpr where
  p : Int := 0
  v : Int := 0
  mode : ProfilerMode := .velocity
  atTarget : Bool := false
  atRest : Bool := true
  count : Int := 0
  reseed : Bool := false
deriving DecidableEq, Repr

/-- An encoder link record (R82). The position is valid while the state is locked (R84). -/
structure Link where
  state : LinkState := .search
  delay : Nat := 0
  pass : Nat := 0
  dwell : Nat := 0
  dwellBad : Nat := 0
  window : Nat := 0
  windowBad : Nat := 0
  measured : Option Int := none
  lastGood : Option Int := none
  warning : Bool := false
  frameErrors : Nat := 0
  alert : Bool := false
  following : Option Int := none
deriving DecidableEq, Repr

/-- A channel of the drive port (R95); word is the last setpoint word sent (12.3). -/
structure Drive where
  enable : Bool := false
  released : Bool := false
  lastCount : Int := 0
  word : BitVec 40 := 0
deriving DecidableEq, Repr

/-- The calibration record of a LENS axis less its timers (R104). -/
structure Cal where
  state : CalState := .uncalibrated
  low : Option Int := none
  high : Option Int := none
  span : Option Int := none
  reason : Option CalReason := none
  seekStart : Option Int := none
  autoPending : Bool := false
deriving DecidableEq, Repr

/-- The Lens Map Unit's state for an axis (R99, R100, R104). -/
structure Lens where
  cal : Cal := {}
  stall : Nat := 0
  blocked : Nat := 0
  table : List (Nat × Nat) := []
  fromPort : Bool := false
  lastUnit : Option Nat := none
deriving DecidableEq, Repr

/-- All the running state of one axis: the Demand Selector's, the profiler's, the link, the drive channel, the lens
record, the cap (R123), the brake and release timers (R136; none is stopped) and the measured position at the last axis
period, none where it was invalid (R38). -/
structure AxisState where
  dsl : Dsl := {}
  mpr : Mpr := {}
  link : Link := {}
  drive : Drive := {}
  lens : Lens := {}
  cap : Nat := 0
  brakeTimer : Option Nat := none
  releaseTimer : Option Nat := none
  prevPos : Option Int := none
deriving DecidableEq, Repr

/-- The running state of a handwheel input (R60, R62, R63). -/
structure WheelState where
  phaseA : Bool := false
  phaseB : Bool := false
  count : Int := 0
  acc : Int := 0
  seq : BitVec 4 := 0
deriving DecidableEq, Repr

/-! ## Zones, stops, takes -/

/-- The running part of a zone record (R114); the gate reading is none for NONE. -/
structure ZoneState where
  qualifier : QualReading := .noQualifier
  gate : Option Bool := none
  active : Bool := false
  breached : Bool := false
deriving DecidableEq, Repr

/-- The stop record less the last sequences seen (R131). The cause set is held as the codes with a local mark and the
codes with a remote mark, each in code order. -/
structure StopRecord where
  state : StopState := .stopped
  category : Option Category := some .brake
  localMarks : List Cause := [.powerUp]
  remoteMarks : List Cause := []
  first : Option (Cause × StationNo × Nat) := some (.powerUp, 0, 0)
  origin : Option StationNo := some 0
  seq : Byte := 0
  resumeBlocked : Bool := false
  blocking : Option Cause := none
deriving DecidableEq, Repr

/-- Minimum, maximum and first sample of a listed axis (R150). -/
structure AxisStat where
  minimum : Int
  maximum : Int
  firstSample : Int
deriving DecidableEq, Repr

/-- A directory entry (R150). stats is none while the per-axis values are none, else one value per listed axis. -/
structure DirEntry where
  number : Byte := 0
  state : EntryState := .empty
  uploaded : Bool := false
  period : Nat := 10
  axes : List AxisNo := []
  length : Nat := 0
  first : Option Nat := none
  last : Option Nat := none
  blocks : Nat := 0
  stats : Option (List AxisStat) := none
deriving DecidableEq, Repr

/-- The numbers from k on, n of them. -/
def countFrom : Nat → Nat → List Nat
  | _, 0 => []
  | k, n + 1 => k :: countFrom (k + 1) n

/-- The Take Store (R147 to R150, R157, R158). mem lists the bytes that are not 0; links lists the links that are not
END; upload is the number and the written count of the open upload. -/
structure Tks where
  mem : List Host.Cell := []
  links : List (Nat × Nat) := []
  free : List Nat := countFrom 0 2048
  dir : Vector DirEntry 16 := Vector.replicate 16 {}
  upload : Option (Byte × Nat) := none
  eraseIgnored : Nat := 0
deriving DecidableEq, Repr

/-- The Take Sequencer's record (R166), its own cue sequence (R163), the target count handed for each claimed axis (R53)
and whether an append of this period is still to be made (R173). -/
structure Tkq where
  state : TakeState := .idle
  mode : Option TakeMode := none
  number : Byte := 0
  mask : Byte := 0
  period : Nat := 10
  axes : List AxisNo := []
  length : Nat := 0
  t : Nat := 0
  reason : Option RefusalReason := none
  endKind : Option EndKind := none
  abortKind : Option AbortKind := none
  arrived : Vector Bool 4 := Vector.replicate 4 false
  lag : Vector Bool 4 := Vector.replicate 4 false
  holdTimer : Nat := 0
  armIgnored : Nat := 0
  goDeclined : Nat := 0
  cueSeq : Byte := 0
  goal : Vector (Option Int) 4 := Vector.replicate 4 none
  appendDue : Bool := false
deriving DecidableEq, Repr

/-! ## Service port (chapter 11) -/

/-- A filled snapshot (R193). -/
structure Snapshot where
  time : Nat
  flags : Word16
  stop : StopState
  category : Option Category
  first : Option (Cause × StationNo × Nat)
  localMarks : List Cause
  remoteMarks : List Cause
  take : TakeState
  number : Byte
  t : Nat
  presence : Vector Presence 8
deriving DecidableEq, Repr

/-- What READ-STATION returns, in the order of R189. -/
structure StationReport where
  load : LoadState
  fault : Option (Nat × Option Nat)
  own : StationNo
  time : Nat
  stop : StopRecord
  take : TakeState
  mode : Option TakeMode
  number : Byte
  t : Nat
  reason : Option RefusalReason
  endKind : Option EndKind
  abortKind : Option AbortKind
  lastArm : Option ArmContext
  mute : Mute
  zones : Vector (Bool × Bool) 8
  crewWarn : Bool
  word : Word16
  outputs : Vector (Bool × Bool) 8
deriving DecidableEq, Repr

/-- What READ-AXIS returns (R189): the fields of chapters 3 to 7. -/
structure AxisView where
  kind : AxisKind
  dsl : Dsl
  mpr : Mpr
  cap : Nat
  link : Link
  positionValid : Bool
  driveFault : Bool
  enable : Bool
  released : Bool
  cal : Cal
  lastUnit : Option Nat
deriving DecidableEq, Repr

/-- What READ-COUNTERS returns, in the order of R190. -/
structure CounterReport where
  line : List Nat
  mismatched : Nat
  foreign : Nat
  frameErrors : List Nat
  calIgnored : Nat
  eraseIgnored : Nat
  armIgnored : Nat
  goDeclined : Nat
  shortTransfers : Nat
  badCommands : Nat
  thresholdFlag : Bool
  alerts : List Bool
deriving DecidableEq, Repr

/-- A response of the service port (R187, R188): a result code alone, or OK with the data of its command. -/
inductive Response where
  | refused (code : Result)
  | ok
  | station (r : StationReport)
  | peer (e : PeerEntry)
  | axis (v : AxisView)
  | inputs (levels unqualified latches : Word16)
  | counters (r : CounterReport)
  | takedir (entries : Vector DirEntry 16) (freeCount : Nat) (freeHead : Option Nat)
  | block (words : List Word32)
  | table (count : Nat) (fromPort : Bool) (pairs : List (Nat × Nat))
  | requests (flags enables : Word16)
  | snapshot (s : Option Snapshot)
deriving DecidableEq, Repr

/-- The Service Port (R187, R191 to R193). Request flag k is bit k (12.4); START is bit 0. -/
structure Svp where
  flags : Word16 := 1
  enables : Word16 := 0
  attention : Bool := false
  snapArmed : Bool := true
  snap : Option Snapshot := none
  shortTransfers : Nat := 0
  badCommands : Nat := 0
  response : Option Response := none
  responseCut : Bool := false
deriving DecidableEq, Repr

/-! ## Start (chapter 11) -/

/-- What holds the part in reset, and whether the supply has risen since the last start began (R182). -/
structure ResetSources where
  supply : Bool := false
  pin : Bool := false
  supplyRose : Bool := false
deriving DecidableEq, Repr

/-- The Configuration Loader (R183, R185); sent holds the bytes of the read command once the read has begun. -/
structure Cfl where
  load : LoadState := .loading
  fault : Option (Nat × Option Nat) := none
  image : List Byte := []
  sent : List Byte := []
deriving DecidableEq, Repr

/-- The work of the present period that has not been done yet: the periodic work whose station time has come (R20, R33, R38,
R60), and each link's one read of the control period (R83; log 2). -/
structure PeriodWork where
  status : Bool := false
  axis : Bool := false
  demand : Bool := false
  window : Bool := false
  reads : Vector Bool 4 := Vector.replicate 4 false
deriving DecidableEq, Repr

end Sys2Proof.Machine

namespace Sys2Proof.Machine

/-- The state of the station, with the queue of the commands that wait (first in, first out). -/
structure State where
  hold : ResetSources := {}
  cfl : Cfl := {}
  cfg : Settings := {}
  time : Nat := 0
  due : PeriodWork := {}
  lif : Lif := {}
  peers : Vector PeerEntry 8 := Vector.replicate 8 {}
  lastArm : Option ArmContext := none
  lines : Vector LineState 16 := Vector.replicate 16 {}
  groups : Vector Bool 4 := Vector.replicate 4 false
  word : Word16 := 0
  outputs : Vector Bool 8 := Vector.replicate 8 false
  axes : Vector AxisState 4 := Vector.replicate 4 {}
  mismatched : Nat := 0
  foreign : Nat := 0
  wheels : Vector WheelState 4 := Vector.replicate 4 {}
  zones : Vector ZoneState 8 := Vector.replicate 8 {}
  crewWarn : Bool := true
  calIgnored : Nat := 0
  stop : StopRecord := {}
  stopSeen : Vector (Option Byte) 8 := Vector.replicate 8 none
  driveOn : DriveOnPhase := .idle
  tks : Tks := {}
  tkq : Tkq := {}
  svp : Svp := {}
  pending : List Instr := []
deriving DecidableEq, Repr

/-- The reasons a step can stop with a fault: none. The specification gives the block no step that stops it; a load that
fails is the state CONFIG-FAULT (R185), and a command that cannot act is answered, counted or passed over. -/
inductive Fault where
deriving DecidableEq, Repr

/-- The reasons a step can be refused. -/
inductive Refusal where
  /-- Raised by the dispatcher alone, for a row without a meaning; safe. No row is without one. -/
  | notModelled (mnemonic : String)
deriving DecidableEq, Repr

/-- The machine right after a power-on start has begun (R182, R183): every block at the values of its chapter, the image
still to be read, and nothing waiting. -/
def State.reset : State := {}

end Sys2Proof.Machine
end

