-- ==== Sys2Proof/Machine/Arith.lean ====
section
/-! DEFINITION. Arithmetic that several blocks share: saturating counters, clamps, the integer square root, bit and byte
order (R194) and the two cyclic checks (R195). -/

namespace Sys2Proof.Machine

/-- One step of a 16-bit saturating counter (R19, R36, R64, R92). -/
def satInc (n : Nat) : Nat := min (n + 1) 65535

/-- x clamped into lo..hi. -/
def clampInt (x lo hi : Int) : Int := max lo (min x hi)

/-- The bits of the square root from bit k - 1 down, added to r while the square stays within n. -/
def isqrtFrom (n : Nat) : Nat → Nat → Nat
  | 0, r => r
  | k + 1, r => isqrtFrom n k (if (r + 2 ^ k) * (r + 2 ^ k) ≤ n then r + 2 ^ k else r)

/-- The integer floor square root of a number below 2^64 (00_scope.md section 7.2). -/
def isqrt (n : Nat) : Nat := isqrtFrom n 32 0

/-- The lower of two optional bounds, none being no bound. -/
def minOpt (x y : Option Int) : Option Int :=
  match x, y with
  | none, y => y
  | x, none => x
  | some a, some b => some (min a b)

/-- The higher of two optional bounds, none being no bound. -/
def maxOpt (x y : Option Int) : Option Int :=
  match x, y with
  | none, y => y
  | x, none => x
  | some a, some b => some (max a b)

/-- The low width bits of n, most significant first (R194). -/
def natBits : Nat → Nat → List Bool
  | 0, _ => []
  | w + 1, n => n.testBit w :: natBits w n

/-- The number that bits spell, most significant first. -/
def bitsNat (bits : List Bool) : Nat := bits.foldl (fun n b => 2 * n + b.toNat) 0

/-- The bits of bytes in the order sent, each byte from bit 7 down (R194). -/
def bytesBits (bytes : List Byte) : List Bool := bytes.flatMap fun b => natBits 8 b.toNat

/-- The number that bytes spell, most significant byte first (R194). -/
def bytesNat (bytes : List Byte) : Nat := bytes.foldl (fun n b => 256 * n + b.toNat) 0

/-- n as count bytes, most significant byte first (R194). -/
def natBytes : Nat → Nat → List Byte
  | 0, _ => []
  | k + 1, n => BitVec.ofNat 8 (n / 256 ^ k) :: natBytes k n

/-- The two's complement value of the low width bits of n (R194). -/
def signedOf (width n : Nat) : Int := (BitVec.ofNat width n).toInt

/-- The low width bits of x in two's complement, as a number (R194). -/
def unsignedOf (width : Nat) (x : Int) : Nat := (BitVec.ofInt width x).toNat

/-- Bytes grouped from bits, most significant bit first; bits that do not fill a byte are dropped. -/
def groupBytes : Nat → List Bool → List Byte
  | 0, _ => []
  | n + 1, bits => BitVec.ofNat 8 (bitsNat (bits.take 8)) :: groupBytes n (bits.drop 8)

/-- One bit of the CRC-16 of R195. -/
def crc16Step (r : Word16) (bit : Bool) : Word16 :=
  if r.msb != bit then (r <<< 1) ^^^ 0x1021#16 else r <<< 1

/-- The CRC-16 of R195 over bits in the order sent. -/
def crc16 (bits : List Bool) : Word16 := bits.foldl crc16Step 0xFFFF#16

/-- One bit of the CRC-6 of R195. -/
def crc6Step (r : BitVec 6) (bit : Bool) : BitVec 6 :=
  if r.msb != bit then (r <<< 1) ^^^ 0x03#6 else r <<< 1

/-- The CRC-6 of R195 over bits in the order read. -/
def crc6 (bits : List Bool) : BitVec 6 := bits.foldl crc6Step 0#6

/-- Whether a mask names the station or axis k (12.2: bit k for station k or axis k). -/
def names (mask : Byte) (k : Nat) : Bool := mask.getLsbD k

end Sys2Proof.Machine
end

