-- ==== Sys2Proof/Machine/Flags.lean ====
section
/-! DEFINITION. The request flags of the service port, the attention output and the snapshot (R191 to R193, 12.4). -/

namespace Sys2Proof.Machine

/-! The bit of each request flag (12.4). -/

def flagStart : Nat := 0
def flagStopEnter : Nat := 1
def flagStopClear : Nat := 2
def flagResumeBlocked : Nat := 3
def flagTakeChange : Nat := 4
def flagPeerChange : Nat := 5
def flagEncChange : Nat := 6
def flagCalDone : Nat := 7
def flagCueFail : Nat := 8
def flagCounterAlert : Nat := 9

/-- The bits of a flag word that name a request flag; bits 10 to 15 are ignored (R196). -/
def flagMask : Word16 := 0x03FF#16

/-- An event sets a request flag; a flag already set stays set (R191). -/
def Svp.raise (flag : Nat) (p : Svp) : Svp := { p with flags := p.flags ||| BitVec.twoPow 16 flag }

/-- An event sets a request flag where cond holds. -/
def Svp.raiseIf (cond : Bool) (flag : Nat) (p : Svp) : Svp :=
  { p with flags := if cond then p.flags ||| BitVec.twoPow 16 flag else p.flags }

/-- At least one flag is both set and enabled (R192). -/
def Svp.calling (p : Svp) : Bool := p.flags &&& p.enables != 0

/-- The values that a snapshot latches (R193). -/
def snapshotOf (s : State) : Snapshot :=
  { time := s.time, flags := s.svp.flags &&& s.svp.enables, stop := s.stop.state, category := s.stop.category,
    first := s.stop.first, localMarks := s.stop.localMarks, remoteMarks := s.stop.remoteMarks,
    take := s.tkq.state, number := s.tkq.number, t := s.tkq.t, presence := Vector.ofFn fun i => s.peers[i].presence }

/-- The attention output is formed again, and a rise fills an armed snapshot and disarms it (R192, R193). -/
def formAttention (s : State) : State :=
  let rises := s.svp.calling && !s.svp.attention && s.svp.snapArmed
  { s with svp := { s.svp with
      attention := s.svp.calling
      snapArmed := s.svp.snapArmed && !rises
      snap := if rises then some (snapshotOf s) else s.svp.snap } }

end Sys2Proof.Machine
end

