-- ==== Sys2Proof/Machine/Formats.lean ====
section
/-! DEFINITION. The payload layouts and codes of chapter 12, and the cells of a frame (R3, R4, 12.1, 12.2). A parse
answers none exactly for the contents that R196 refuses. -/

namespace Sys2Proof.Machine

/-! ## Codes -/

/-- The code of a category (12.2); none is 0. -/
def categoryCode : Option Category → Nat
  | none => 0
  | some .hold => 1
  | some .brake => 2
  | some .cut => 3

/-- The category of a code (12.2). -/
def categoryOf : Nat → Option Category
  | 1 => some .hold
  | 2 => some .brake
  | 3 => some .cut
  | _ => none

/-- The rank of a held category: none ranks below HOLD < BRAKE < CUT (R129). -/
def categoryRank (c : Option Category) : Nat := categoryCode c

/-- The code of a stop cause (R130). -/
def causeCode : Cause → Nat
  | .estop => 1
  | .crewTrip => 2
  | .zoneBreach => 3
  | .limit => 4
  | .follow => 5
  | .encLost => 6
  | .driveFault => 7
  | .peerLost => 8
  | .peerRestart => 9
  | .lineMute => 10
  | .duplicate => 11
  | .powerUp => 12
  | .resetPin => 13
  | .operator => 14

/-- The stop cause of a code 1 to 14 (R130). -/
def causeOf : Nat → Option Cause
  | 1 => some .estop
  | 2 => some .crewTrip
  | 3 => some .zoneBreach
  | 4 => some .limit
  | 5 => some .follow
  | 6 => some .encLost
  | 7 => some .driveFault
  | 8 => some .peerLost
  | 9 => some .peerRestart
  | 10 => some .lineMute
  | 11 => some .duplicate
  | 12 => some .powerUp
  | 13 => some .resetPin
  | 14 => some .operator
  | _ => none

/-- The code of a take state (R166). -/
def takeStateCode : TakeState → Nat
  | .idle => 0
  | .armed => 1
  | .preroll => 2
  | .ready => 3
  | .running => 4
  | .waiting => 5
  | .ended => 6
  | .aborted => 7
  | .refused => 8

/-- The take state of a code 0 to 8 (R166). -/
def takeStateOf : Nat → Option TakeState
  | 0 => some .idle
  | 1 => some .armed
  | 2 => some .preroll
  | 3 => some .ready
  | 4 => some .running
  | 5 => some .waiting
  | 6 => some .ended
  | 7 => some .aborted
  | 8 => some .refused
  | _ => none

/-- The code of a stop state (12.2). -/
def stopStateCode : StopState → Nat
  | .run => 0
  | .stopping => 1
  | .stopped => 2
  | .resuming => 3

/-- The stop state of a two-bit code (12.2). -/
def stopStateOf : Nat → StopState
  | 0 => .run
  | 1 => .stopping
  | 2 => .stopped
  | _ => .resuming

/-- The code of a cue kind (12.2). -/
def cueKindCode : CueKind → Nat
  | .armRecord => 1
  | .armPlay => 2
  | .go => 3
  | .halt => 4
  | .disarm => 5
  | .resume => 6
  | .erase => 7
  | .calibrate => 8

/-- The cue kind of a code 1 to 8 (12.2). -/
def cueKindOf : Nat → Option CueKind
  | 1 => some .armRecord
  | 2 => some .armPlay
  | 3 => some .go
  | 4 => some .halt
  | 5 => some .disarm
  | 6 => some .resume
  | 7 => some .erase
  | 8 => some .calibrate
  | _ => none

/-- The sample period in ms of a code 0 to 2 (12.2). -/
def periodOf : Nat → Option Nat
  | 0 => some 5
  | 1 => some 10
  | 2 => some 20
  | _ => none

/-! ## Payloads (12.2) -/

/-- Byte k of a payload; a byte that is not there reads 0. -/
def payloadByte (payload : List Byte) (k : Nat) : Nat := (payload.getD k 0).toNat

/-- Bits hi..lo of a byte. -/
def field (b hi lo : Nat) : Nat := b / 2 ^ lo % 2 ^ (hi - lo + 1)

/-- The 8 payload bytes of a STATUS. -/
def statusPayload (m : StatusMsg) : List Byte :=
  [BitVec.ofNat 8 (128 * m.startFlag.toNat + 64 * m.resumeBlocked.toNat + 32 * m.encodersLocked.toNat
      + 16 * m.lensCalibrated.toNat + 4 * stopStateCode m.stop + categoryCode m.category),
    BitVec.ofNat 8 (16 * takeStateCode m.take), m.number] ++ natBytes 3 m.time ++ natBytes 2 m.word.toNat

/-- The STATUS that a payload carries; none for a take state 9..15 (R196). -/
def parseStatus (payload : List Byte) : Option StatusMsg :=
  (takeStateOf (field (payloadByte payload 1) 7 4)).map fun take =>
    let b := payloadByte payload 0
    { startFlag := b.testBit 7, resumeBlocked := b.testBit 6, encodersLocked := b.testBit 5,
      lensCalibrated := b.testBit 4, stop := stopStateOf (field b 3 2), category := categoryOf (field b 1 0),
      take := take, number := payload.getD 2 0, time := bytesNat ((payload.drop 3).take 3),
      word := BitVec.ofNat 16 (bytesNat ((payload.drop 6).take 2)) }

/-- The 3 payload bytes of a STOP. -/
def stopPayload (m : StopMsg) : List Byte :=
  [BitVec.ofNat 8 (64 * categoryCode (some m.category) + causeCode m.cause),
    BitVec.ofNat 8 (32 * m.origin.val + m.copy), m.seq]

/-- The STOP that a payload carries; none for category 0, cause 0 or 15..31, or copy index 3 (R196). -/
def parseStop (payload : List Byte) : Option StopMsg :=
  match categoryOf (field (payloadByte payload 0) 7 6), causeOf (field (payloadByte payload 0) 4 0) with
  | some c, some k =>
    if field (payloadByte payload 1) 1 0 = 3 then none
    else some { category := c, cause := k, origin := Fin.ofNat 8 (field (payloadByte payload 1) 7 5),
                copy := field (payloadByte payload 1) 1 0, seq := payload.getD 2 0 }
  | _, _ => none

/-- The 5 payload bytes of a CUE. -/
def cuePayload (m : CueMsg) : List Byte :=
  [BitVec.ofNat 8 (cueKindCode m.kind), m.seq, m.number, m.mask, m.parameter]

/-- The CUE that a payload carries; none for kind 0 or 9..255, or an ARM-RECORD with parameter 3..255 (R196). -/
def parseCue (payload : List Byte) : Option CueMsg :=
  (cueKindOf (payloadByte payload 0)).bind fun kind =>
    if kind = .armRecord ∧ payloadByte payload 4 > 2 then none
    else some { kind := kind, seq := payload.getD 1 0, number := payload.getD 2 0, mask := payload.getD 3 0,
                parameter := payload.getD 4 0 }

/-- The 6 payload bytes of a DEMAND. -/
def demandPayload (m : DemandMsg) : List Byte :=
  [BitVec.ofNat 8 (32 * m.station.val + 8 * m.axis.val + 4 * m.lens.toNat), BitVec.ofNat 8 m.seq.toNat]
    ++ natBytes 4 (unsignedOf 32 m.value)

/-- The DEMAND that a payload carries. -/
def parseDemand (payload : List Byte) : DemandMsg :=
  { station := Fin.ofNat 8 (field (payloadByte payload 0) 7 5), axis := Fin.ofNat 4 (field (payloadByte payload 0) 4 3),
    lens := (payloadByte payload 0).testBit 2, seq := BitVec.ofNat 4 (payloadByte payload 1),
    value := signedOf 32 (bytesNat ((payload.drop 2).take 4)) }

/-- The 7 payload bytes of an AXIS message. -/
def axisPayload (m : AxisMsg) : List Byte :=
  natBytes 4 (unsignedOf 32 m.position) ++ natBytes 2 (unsignedOf 16 m.velocity)
    ++ [BitVec.ofNat 8 (128 * m.valid.toNat + 64 * m.atTarget.toNat + 32 * m.driveOn.toNat)]

/-- The AXIS message that a payload carries. -/
def parseAxis (payload : List Byte) : AxisMsg :=
  { position := signedOf 32 (bytesNat (payload.take 4)), velocity := signedOf 16 (bytesNat ((payload.drop 4).take 2)),
    valid := (payloadByte payload 6).testBit 7, atTarget := (payloadByte payload 6).testBit 6,
    driveOn := (payloadByte payload 6).testBit 5 }

/-- The fixed payload length of a class (12.2); none for the unassigned classes. -/
def classLength : Fin 8 → Option Nat
  | 0 => some 3
  | 1 => some 8
  | 2 => some 5
  | 3 => some 6
  | 4 => some 7
  | 5 => some 8
  | _ => none

/-! ## Cells (R3, R4, R7) -/

/-- The value of an identifier: class x 32 + sender x 4 + index (R4). -/
def identifier (cls : Fin 8) (sender : StationNo) (index : Fin 4) : Nat := cls.val * 32 + sender.val * 4 + index.val

/-- The bits that the line check covers: identifier, length and payload (R7). -/
def checkedBits (cls : Fin 8) (sender : StationNo) (index : Fin 4) (length : Nat) (payload : List Byte) : List Bool :=
  natBits 8 (identifier cls sender index) ++ natBits 4 length ++ bytesBits payload

/-- The check of a frame (R7, R195). -/
def lineCheck (cls : Fin 8) (sender : StationNo) (index : Fin 4) (length : Nat) (payload : List Byte) : Word16 :=
  crc16 (checkedBits cls sender index length payload)

/-- The cells of an own frame as sent, the acknowledge cell as 1 (R3). -/
def frameCells (own : StationNo) (f : TxFrame) : List Bool :=
  false :: checkedBits f.cls own f.index f.payload.length f.payload
    ++ natBits 16 (lineCheck f.cls own f.index f.payload.length f.payload).toNat ++ [true]

/-- The frame that cells read from the start cell on spell, up to its check (12.1); idleInside is set when the cells end
before the acknowledge cell. -/
def frameOfCells (cells : List Bool) : Frame :=
  let length := bitsNat ((cells.drop 9).take 4)
  { cls := Fin.ofNat 8 (bitsNat ((cells.drop 1).take 3)),
    wire := { sender := Fin.ofNat 8 (bitsNat ((cells.drop 4).take 3)), index := Fin.ofNat 4 (bitsNat ((cells.drop 7).take 2)),
              length := Fin.ofNat 16 length, payload := groupBytes length (cells.drop 13),
              check := BitVec.ofNat 16 (bitsNat ((cells.drop (13 + 8 * length)).take 16)),
              idleInside := decide (cells.length < 30 + 8 * length) } }

/-- The check of a received frame agrees with the cells it covers (R7). -/
def checkPasses (f : Frame) : Bool :=
  lineCheck f.cls f.wire.sender f.wire.index f.wire.length.val f.wire.payload == f.wire.check

end Sys2Proof.Machine
end

