-- ==== Sys2Proof/Machine/LineQueue.lean ====
section
/-! DEFINITION. The transmit queue of the Line Interface: placement of content (R11 to R13, R16) and what the mutes do to
it (R21, R23). Placing content into the slot whose frame is on the line marks that frame as renewed, which is how the
content takes effect at the end of the attempt (R12, R16; log 18). -/

namespace Sys2Proof.Machine

/-- Marks the frame on the line as renewed when it came from the slot (R12). -/
def Lif.renew (slot : Slot) (l : Lif) : Option TxFrame :=
  l.onLine.map fun f => if f.slot = slot then { f with renewed := true } else f

/-- STOP content is placed with three copies remaining and copy index 0 (R16). Permanent mute discards it (R23). -/
def Lif.placeStop (category : Category) (cause : Cause) (seq : Byte) (l : Lif) : Lif :=
  { l with
    stop := if l.mute = .permanent then l.stop
      else some { category := category, cause := cause, seq := seq, copies := 3, nextIndex := 0 }
    onLine := if l.mute = .permanent then l.onLine else l.renew .stop }

/-- STATUS content is placed; an occupied slot keeps its age and class (R12). A probe carries the content of this slot
(R22), so it is renewed too. Permanent mute discards the content (R23). -/
def Lif.placeStatus (m : StatusMsg) (l : Lif) : Lif :=
  { l with
    status := if l.mute = .permanent then l.status else some m
    lastPlaced := if l.mute = .permanent then l.lastPlaced else some m
    onLine := if l.mute = .permanent then l.onLine
      else ({ l with onLine := l.renew .status } : Lif).renew .probe }

/-- The CUE FIFO takes a cue: fewer than 4 entries and no mute (R13, R21, R23). -/
def Lif.takesCue (l : Lif) : Bool := decide (l.cues.length < 4) && decide (l.mute = .off)

/-- A cue joins the tail with attempts used 0, where the FIFO takes it (R13). -/
def Lif.placeCue (c : CueMsg) (l : Lif) : Lif :=
  { l with cues := if l.takesCue then l.cues ++ [{ cue := c, attempts := 0 }] else l.cues }

/-- DEMAND content is placed; both mutes discard it (R12, R21, R23). -/
def Lif.placeDemand (i : Fin 4) (m : DemandMsg) (l : Lif) : Lif :=
  { l with
    demand := if l.mute = .off then l.demand.set i (some m) else l.demand
    onLine := if l.mute = .off then l.renew (.demand i) else l.onLine }

/-- AXIS content is placed; both mutes discard it (R12, R21, R23). -/
def Lif.placeAxis (i : Fin 4) (m : AxisMsg) (l : Lif) : Lif :=
  { l with
    axis := if l.mute = .off then l.axis.set i (some m) else l.axis
    onLine := if l.mute = .off then l.renew (.axis i) else l.onLine }

/-- A button cue that is refused, or a cue dropped, is counted (R19). -/
def Lif.countDropped (n : Nat) (l : Lif) : Lif := { l with droppedCues := min (l.droppedCues + n) 65535 }

/-- Entry to LINE-MUTE: the CUE, DEMAND and AXIS slots are emptied, each cue counted as dropped, STOP and STATUS stay,
and the probe timer starts at 0 (R21). -/
def Lif.enterLineMute (l : Lif) : Lif :=
  { l with
    droppedCues := min (l.droppedCues + l.cues.length) 65535
    cues := []
    demand := Vector.replicate 4 none
    axis := Vector.replicate 4 none
    mute := .lineMute
    probeTimer := 0
    probeDue := false }

/-- Entry to permanent mute: all 14 slots are emptied, each cue counted as dropped, and probing stops (R23). -/
def Lif.enterPermanentMute (l : Lif) : Lif :=
  { l with
    droppedCues := min (l.droppedCues + l.cues.length) 65535
    stop := none
    status := none
    statusAge := 0
    statusUrgent := false
    cues := []
    demand := Vector.replicate 4 none
    axis := Vector.replicate 4 none
    onLine := none
    mute := .permanent
    probeTimer := 0
    probeDue := false }

end Sys2Proof.Machine
end

