-- ==== Sys2Proof/Machine/Ops.lean ====
section
/-! DEFINITION. Operations that every block shares: reading axes, peers and settings, the line word, take claims, and the
composing of the station's own STATUS. -/

namespace Sys2Proof.Machine

/-! ## Reset and load -/

/-- The part is held in reset (R182). -/
def State.inReset (s : State) : Bool := s.hold.supply || s.hold.pin

/-- The station is in operation: released and RUN-READY (R186). -/
def State.operating (s : State) : Bool := !s.inReset && decide (s.cfl.load = .runReady)

/-! ## Axes -/

/-- The axis's kind is MOTION or LENS. -/
def State.used (s : State) (i : AxisNo) : Bool := decide (s.cfg.axes[i].kind ≠ .unused)

/-- The axis is a LENS axis. -/
def State.isLens (s : State) (i : AxisNo) : Bool := decide (s.cfg.axes[i].kind = .lens)

/-- One axis changed. -/
def State.modAxis (i : AxisNo) (f : AxisState → AxisState) (s : State) : State :=
  { s with axes := s.axes.set i (f s.axes[i]) }

/-- Every axis changed. -/
def State.mapAxes (f : AxisNo → AxisState → AxisState) (s : State) : State :=
  { s with axes := Vector.ofFn fun i => f i s.axes[i] }

/-- The position is valid while the link state is LOCKED (R84). -/
def Link.valid (l : Link) : Bool := decide (l.state = .locked)

/-- The measured position where it is valid. -/
def Link.validPosition (l : Link) : Option Int := if l.state = .locked then l.measured else none

/-- The axis is in SEEK-LOW or SEEK-HIGH. -/
def AxisState.seeking (a : AxisState) : Bool :=
  decide (a.lens.cal.state = .seekLow) || decide (a.lens.cal.state = .seekHigh)

/-! ## Peers -/

/-- The station's entry is PRESENT. -/
def State.present (s : State) (st : StationNo) : Bool := decide (s.peers[st].presence = .present)

/-- One peer entry changed. -/
def State.modPeer (st : StationNo) (f : PeerEntry → PeerEntry) (s : State) : State :=
  { s with peers := s.peers.set st (f s.peers[st]) }

/-- The time since the last STATUS (R25). -/
def State.timeSince (s : State) (st : StationNo) : Nat := s.time - s.peers[st].arrival

/-- The age of an axis report, saturating at 65535, and 65535 without an arrival time (R25). -/
def State.reportAge (s : State) (st : StationNo) (i : AxisNo) : Nat :=
  match s.peers[st].reports[i].arrival with
  | none => 65535
  | some a => min (s.time - a) 65535

/-- The take state that an entry reports: IDLE without a STATUS (R25). -/
def PeerEntry.takeState (e : PeerEntry) : TakeState := (e.last.map StatusMsg.take).getD .idle

/-- The take number that an entry reports. -/
def PeerEntry.takeNumber (e : PeerEntry) : Byte := (e.last.map StatusMsg.number).getD 0

/-- The take time that an entry reports: 0 without a STATUS (R25). -/
def PeerEntry.takeTime (e : PeerEntry) : Nat := (e.last.map StatusMsg.time).getD 0

/-- The line word that an entry reports: 16 zeros without a STATUS (R25). -/
def PeerEntry.lineWord (e : PeerEntry) : Word16 := (e.last.map StatusMsg.word).getD 0

/-- The take-time estimate of an entry (R35). -/
def State.estimate (s : State) (st : StationNo) : Nat :=
  let e := s.peers[st]
  min (if e.takeState = .running then e.takeTime + s.timeSince st else e.takeTime) 16777215

/-- A slot of a station's line word, absentValue while a peer's entry is not PRESENT; the own station reads its current
own line word (R59, R116, R122). -/
def State.readSlot (s : State) (absentValue : Bool) (line : StationNo × SlotNo) : Bool :=
  if line.1 = s.cfg.own then s.word.getLsbD line.2.val
  else if s.present line.1 then s.peers[line.1].lineWord.getLsbD line.2.val
  else absentValue

/-! ## Input lines -/

/-- The active state of a line: its qualified level equals its active level (R39). -/
def State.lineActive (s : State) (k : LineNo) : Bool := decide (s.lines[k].qualified = some s.cfg.lines[k].activeHigh)

/-- A line is active, or not yet qualified: the conservative reading of R42. -/
def State.lineActiveOrUnqualified (s : State) (k : LineNo) : Bool :=
  s.lineActive k || decide (s.lines[k].qualified = none)

/-- The LIMIT line of an axis and end is qualified active. -/
def State.limitActive (s : State) (i : AxisNo) (highEnd : Bool) : Bool :=
  allSixteen.any fun k => decide (s.cfg.lines[k].function = .limit i highEnd) && s.lineActive k

/-! ## Take claims -/

/-- The Take Sequencer holds a take claim on the axis (R52). -/
def State.claims (s : State) (i : AxisNo) : Bool :=
  decide (s.tkq.mode = some .play) && s.tkq.axes.contains i && s.cfg.axes[i].takeable
    && (match s.tkq.state with
      | .preroll | .ready | .running | .waiting | .ended => true
      | .aborted => decide (s.tkq.abortKind = some .withoutStop)
      | _ => false)

/-- The other participants of the take: the stations of its mask less the own. -/
def State.otherParticipants (s : State) : List StationNo :=
  allStations.filter fun st => names s.tkq.mask st.val && decide (st ≠ s.cfg.own)

/-! ## The line word (R46) -/

/-- The value of an internal source (R46). -/
def State.sourceValue (s : State) : InternalSource → Bool
  | .running => decide (s.stop.state = .run)
  | .takeRunning => decide (s.tkq.state = .running)
  | .atTarget => allAxes.all fun i => !s.used i || s.axes[i].mpr.atTarget
  | .fixed0 => false
  | .fixed1 => true

/-- The value of a slot: the naming lines where there are any, else the internal source (R46). -/
def State.slotValue (s : State) (k : SlotNo) : Bool :=
  let naming := allSixteen.filter fun j => decide (s.cfg.lines[j].published = some k)
  if naming.isEmpty then s.sourceValue s.cfg.sources[k] else naming.any fun j => s.lineActive j

/-- The line word as its sources now stand (R46). -/
def State.formWord (s : State) : Word16 := BitVec.ofFnLE fun k => s.slotValue k

/-! ## The station's own STATUS (R26, R32, R33) -/

/-- Every axis that is not UNUSED has its link LOCKED (R32). -/
def State.encodersLocked (s : State) : Bool := allAxes.all fun i => !s.used i || s.axes[i].link.valid

/-- Every LENS axis is CALIBRATED (R32). -/
def State.lensesCalibrated (s : State) : Bool :=
  allAxes.all fun i => !s.isLens i || decide (s.axes[i].lens.cal.state = .calibrated)

/-- The STATUS composed from the current state of its owners (R32, R35). -/
def State.statusNow (s : State) : StatusMsg :=
  { startFlag := decide (s.time < s.cfg.liveness), resumeBlocked := s.stop.resumeBlocked,
    encodersLocked := s.encodersLocked, lensCalibrated := s.lensesCalibrated, stop := s.stop.state,
    category := if s.stop.state = .run then none else s.stop.category, take := s.tkq.state,
    number := s.tkq.number, time := min s.tkq.t 16777215, word := s.formWord }

/-- The own entry mirrors a composed STATUS (R26). -/
def PeerEntry.mirror (m : StatusMsg) (now : Nat) (e : PeerEntry) : PeerEntry :=
  { e with last := some m, arrival := now, marker := m.startFlag }

/-- A STATUS is composed: placed in the STATUS slot and mirrored in the own entry (R26, R33). -/
def composeStatus (s : State) : State :=
  { s with
    lif := s.lif.placeStatus s.statusNow
    peers := s.peers.set s.cfg.own (s.peers[s.cfg.own].mirror s.statusNow s.time) }

/-- The line word, the stop state, the stop category or the take state differs from the STATUS last composed (R33); before
the first composition there is none to differ from (DESIGN CHOICE, log 14). -/
def State.statusDiffers (s : State) : Bool :=
  match s.peers[s.cfg.own].last with
  | none => false
  | some m => decide (m.word ≠ s.statusNow.word) || decide (m.stop ≠ s.statusNow.stop)
      || decide (m.category ≠ s.statusNow.category) || decide (m.take ≠ s.statusNow.take)

/-- The change-triggered STATUS: composed at once where one of its four fields has changed (R33). -/
def announce (s : State) : State :=
  { s with
    lif := if s.statusDiffers then (composeStatus s).lif else s.lif
    peers := if s.statusDiffers then (composeStatus s).peers else s.peers }

end Sys2Proof.Machine
end

