-- ==== Sys2Proof/Machine/Lens.lean ====
section
/-! DEFINITION. The Lens Map Unit (chapter 6): the mapping of lens units to counts, and the calibration of a LENS axis. -/

namespace Sys2Proof.Machine

/-! ## The mapping (R102, R103) -/

/-- The shaped unit m of a lens unit u: within a segment the fraction is truncated toward zero, and at or above the last
pair it is that pair's m (R102). -/
def shapeUnit : List (Nat × Nat) → Nat → Int
  | (u0, m0) :: (u1, m1) :: rest, u =>
    if u < u1 then (m0 : Int) + (((u : Int) - u0) * ((m1 : Int) - m0)).tdiv ((u1 : Int) - u0)
    else shapeUnit ((u1, m1) :: rest) u
  | [(_, m)], _ => m
  | [], _ => 0

/-- The target count of a shaped unit: low + guard plus the floor of m times the usable span over 65535 (R103). -/
def scaleUnit (low high : Int) (guardBand : Nat) (m : Int) : Int :=
  (low + guardBand) + m * ((high - guardBand) - (low + guardBand)) / 65535

/-- The target count of a lens unit; none while the axis is not CALIBRATED (6.2). -/
def mapUnit (c : AxisCfg) (l : Lens) (u : Nat) : Option Int :=
  match l.cal.state, l.cal.low, l.cal.high with
  | .calibrated, some low, some high => some (scaleUnit low high c.guardBand (shapeUnit l.table u))
  | _, _, _ => none

/-- The soft limits that the profiler honours: the configured ones, none while seeking, low + guard and high - guard for
a CALIBRATED LENS axis (R67, R104). -/
def softLimits (c : AxisCfg) (a : AxisState) : Option Int × Option Int :=
  if c.kind = .lens then
    match a.lens.cal.state with
    | .seekLow | .seekHigh => (none, none)
    | .calibrated => (a.lens.cal.low.map (· + (c.guardBand : Int)), a.lens.cal.high.map (· - (c.guardBand : Int)))
    | _ => (some c.softLow, some c.softHigh)
  else (some c.softLow, some c.softHigh)

/-! ## The end of a calibration (R111) -/

/-- How a span is judged (R111). -/
def judgeSpan (c : AxisCfg) : Option Int → CalState × Option CalReason
  | none => (.calFault, some .spanShort)
  | some span =>
    if span < c.minSpan then (.calFault, some .spanShort)
    else if span > c.maxSpan then (.calFault, some .spanLong)
    else (.calibrated, none)

/-- The record after the high seek has ended at a position: high and span recorded, and the span judged (R111). -/
def Cal.finish (c : AxisCfg) (pos : Option Int) (r : Cal) : Cal :=
  let span := match pos, r.low with
    | some h, some l => some (h - l)
    | _, _ => none
  { r with high := pos, span := span, state := (judgeSpan c span).1, reason := (judgeSpan c span).2 }

/-- The record after the low seek has ended at a position: low recorded, and the high seek started there (R111). -/
def Cal.turn (pos : Option Int) (r : Cal) : Cal := { r with low := pos, state := .seekHigh, seekStart := pos }

/-- The seek in the present direction ends at a position, by a stall or by an end input (R108, R109, R111): from SEEK-LOW
the high seek starts, and ends at once where the high-end LIMIT line is active. -/
def Lens.endDirection (c : AxisCfg) (highActive : Bool) (pos : Option Int) (l : Lens) : Lens :=
  match l.cal.state with
  | .seekLow =>
    { l with cal := if highActive then (l.cal.turn pos).finish c pos else l.cal.turn pos, stall := 0, blocked := 0 }
  | .seekHigh => { l with cal := l.cal.finish c pos }
  | _ => l

/-- The record at the start of a seek (R107). -/
def Lens.seekFrom (measured : Option Int) (l : Lens) : Lens :=
  { l with
    cal := { l.cal with
      state := .seekLow, low := none, high := none, span := none, reason := none, seekStart := measured }
    stall := 0
    blocked := 0 }

/-- A calibration state in which a calibration has ended. -/
def CalState.done (c : CalState) : Bool := decide (c = .calibrated) || decide (c = .calFault)

/-- An axis with a new lens record: where that ends its seek, the first computation after it starts from the measured
position at rest (R80), even where the owner field has not been formed as CAL since the seek began. -/
def AxisState.withLens (l : Lens) (a : AxisState) : AxisState :=
  { a with
    lens := l
    mpr := { a.mpr with reseed := a.mpr.reseed || (a.seeking && !({ a with lens := l } : AxisState).seeking) } }

/-- The seek of an axis ends in its present direction at the measured position; an end of the calibration sets CAL-DONE
(R111). -/
def endDirection (i : AxisNo) (s : State) : State :=
  let l := s.axes[i].lens.endDirection s.cfg.axes[i] (s.limitActive i true) s.axes[i].link.measured
  { s with
    axes := s.axes.set i (s.axes[i].withLens l)
    svp := s.svp.raiseIf (s.axes[i].seeking && l.cal.state.done) flagCalDone }

/-- The calibration of a seeking axis ends in CAL-FAULT (R108, R110, R111). -/
def failSeek (i : AxisNo) (reason : CalReason) (s : State) : State :=
  let a := s.axes[i]
  { s with
    axes := s.axes.set i (if a.seeking then
      a.withLens { a.lens with cal := { a.lens.cal with state := .calFault, reason := some reason } } else a)
    svp := s.svp.raiseIf a.seeking flagCalDone }

/-- A seek starts (R107): the held target count becomes none, and the low seek ends at once where the low-end LIMIT line
is active. -/
def startSeek (i : AxisNo) (s : State) : State :=
  let a := s.axes[i]
  let s' := s.modAxis i fun a => { a with lens := a.lens.seekFrom a.link.measured, dsl := { a.dsl with held := none } }
  { s' with
    axes := if s.limitActive i false then (endDirection i s').axes else s'.axes
    svp := if s.limitActive i false then (endDirection i s').svp else s'.svp }

/-- When the stop state leaves RUN, every seeking axis returns to UNCALIBRATED and CAL-DONE is set (R112). -/
def Lens.cancel (l : Lens) : Lens :=
  if l.cal.state = .seekLow ∨ l.cal.state = .seekHigh then
    { l with
      cal := { l.cal with state := .uncalibrated, low := none, high := none, span := none, seekStart := none }
      stall := 0
      blocked := 0 }
  else l

/-- The seeks of every axis cancelled, each starting its STOP ramp from the measured position (R112). -/
def cancelSeeks (s : State) : State :=
  { s with
    axes := Vector.ofFn fun i => s.axes[i].withLens s.axes[i].lens.cancel
    svp := s.svp.raiseIf (allAxes.any fun i => s.axes[i].seeking) flagCalDone }

end Sys2Proof.Machine
end

