-- ==== Sys2Proof/Machine/Store.lean ====
section
/-! DEFINITION. The Take Store (chapter 9): bytes, links, free list, directory, and what its requests do. -/

namespace Sys2Proof.Machine

/-! ## Sparse tables in canonical form -/

/-- The value listed at a key. -/
def look {α : Type} : List (Nat × α) → Nat → Option α
  | [], _ => none
  | (k, v) :: rest, a => if k = a then some v else look rest a

/-- A key without its entry. -/
def drop {α : Type} (l : List (Nat × α)) (a : Nat) : List (Nat × α) := l.filter fun c => decide (c.1 ≠ a)

/-- A value put at a key, in key order. -/
def put {α : Type} : List (Nat × α) → Nat → α → List (Nat × α)
  | [], a, v => [(a, v)]
  | (k, w) :: rest, a, v =>
    if a < k then (a, v) :: (k, w) :: rest else if a = k then (a, v) :: rest else (k, w) :: put rest a v

/-- The canonical form of the store's bytes: addresses strictly rising, and no listed byte 0, which is what an unlisted
byte reads as (R147; log 23). -/
abbrev Memory.wf (m : List Host.Cell) : Prop := m.Pairwise (fun a b => a.1 < b.1) ∧ ∀ c ∈ m, c.2 ≠ 0

/-- A byte of the store; an unlisted one is 0 (R147). -/
def readByte (m : List Host.Cell) (a : Nat) : Byte := (look m a).getD 0

/-- A byte written to the store. -/
def writeByte (m : List Host.Cell) (a : Nat) (v : Byte) : List Host.Cell := if v = 0 then drop m a else put m a v

/-- The byte address of word w of block b (R147). -/
def wordAt (b w : Nat) : Nat := 256 * b + 4 * w

/-- A word of the store, most significant byte first (R194). -/
def readWord (m : List Host.Cell) (b w : Nat) : Word32 :=
  let a := wordAt b w
  readByte m a ++ readByte m (a + 1) ++ readByte m (a + 2) ++ readByte m (a + 3)

/-- A word written to the store, most significant byte first (R194). -/
def writeWord (m : List Host.Cell) (b w : Nat) (v : Word32) : List Host.Cell :=
  let a := wordAt b w
  writeByte (writeByte (writeByte (writeByte m a (v.extractLsb' 24 8)) (a + 1) (v.extractLsb' 16 8)) (a + 2)
    (v.extractLsb' 8 8)) (a + 3) (v.extractLsb' 0 8)

/-- Words written from word w of block b on. -/
def writeWords (m : List Host.Cell) (b : Nat) : Nat → List Word32 → List Host.Cell
  | _, [] => m
  | w, v :: rest => writeWords (writeWord m b w v) b (w + 1) rest

/-- All 64 words of a block set to 0 (R149). -/
def zeroBlock (m : List Host.Cell) (b : Nat) : List Host.Cell :=
  m.filter fun c => decide (c.1 < 256 * b) || decide (256 * b + 256 ≤ c.1)

/-! ## Blocks and chains (R148, R149, R151) -/

/-- Samples per block for n listed axes (R151). -/
def samplesPerBlock (n : Nat) : Nat := 64 / n

/-- The blocks that length samples of n axes need: the quotient rounded up (R149). -/
def blocksFor (length n : Nat) : Nat := (length + samplesPerBlock n - 1) / samplesPerBlock n

/-- The chain from a block on, at most n blocks (R148). -/
def chainFrom (links : List (Nat × Nat)) : Nat → Nat → List Nat
  | 0, _ => []
  | n + 1, b => b :: match look links b with
    | none => []
    | some c => chainFrom links n c

/-- The chain of a take (R148). -/
def Tks.chain (t : Tks) (e : DirEntry) : List Nat :=
  match e.first with
  | none => []
  | some b => chainFrom t.links e.blocks b

/-- Blocks released: appended to the tail of the free list in the order given, each link set to END (R148, R149). -/
def Tks.release (bs : List Nat) (t : Tks) : Tks :=
  { t with free := t.free ++ bs, links := bs.foldl drop t.links }

/-- Blocks chained in the order given. -/
def chainUp (links : List (Nat × Nat)) : List Nat → List (Nat × Nat)
  | a :: b :: rest => chainUp (put links a b) (b :: rest)
  | _ => links

/-! ## The directory (R150) -/

/-- The lowest non-EMPTY entry with a take number. -/
def Tks.find (t : Tks) (number : Byte) : Option EntryNo :=
  allSixteen.find? fun i => decide (t.dir[i].state ≠ .empty) && decide (t.dir[i].number = number)

/-- The EMPTY entry with the lowest number. -/
def Tks.lowestEmpty (t : Tks) : Option EntryNo := allSixteen.find? fun i => decide (t.dir[i].state = .empty)

/-- How many entries are EMPTY. -/
def Tks.emptyCount (t : Tks) : Nat := (allSixteen.filter fun i => decide (t.dir[i].state = .empty)).length

/-- One directory entry replaced. -/
def Tks.setEntry (i : EntryNo) (e : DirEntry) (t : Tks) : Tks := { t with dir := t.dir.set i e }

/-! ## Samples (R151, R156) -/

/-- The words of sample k of a take. -/
def Tks.sample (t : Tks) (e : DirEntry) (k : Nat) : List Word32 :=
  let n := e.axes.length
  let b := (t.chain e).getD (k / samplesPerBlock n) 0
  (countFrom 0 n).map fun j => readWord t.mem b (k % samplesPerBlock n * n + j)

/-- The value of listed axis j in sample k; at or above the length, the last sample (R156). -/
def Tks.sampleValue (t : Tks) (e : DirEntry) (k j : Nat) : Int :=
  ((t.sample e (min k (e.length - 1))).getD j 0).toInt

/-- The per-axis values updated with a further sample (R153). -/
def AxisStat.add (x : Int) (s : AxisStat) : AxisStat :=
  { s with minimum := min s.minimum x, maximum := max s.maximum x }

/-- The per-axis values after sample k with the given values (R153). -/
def statsAfter (k : Nat) (values : List Int) (old : Option (List AxisStat)) : Option (List AxisStat) :=
  if k = 0 then some (values.map fun x => { minimum := x, maximum := x, firstSample := x })
  else old.map fun l => (l.zip values).map fun p => p.1.add p.2

/-- The per-axis values formed over samples 0 to n - 1 (R160, R162). -/
def Tks.statsOver (t : Tks) (e : DirEntry) : Nat → Option (List AxisStat)
  | 0 => none
  | n + 1 => statsAfter n ((t.sample e n).map BitVec.toInt) (t.statsOver e n)

/-! ## Recording (R153 to R155) -/

/-- An append of one sample to an entry (R153). The mark tells a store-full end (R154). -/
def Tks.append (i : EntryNo) (values : List Int) (t : Tks) : Tks × Bool :=
  let e := t.dir[i]
  let n := e.axes.length
  let k := e.length
  let place := k % samplesPerBlock n * n
  let words := values.map (BitVec.ofInt 32)
  let grown := { e with length := k + 1, stats := statsAfter k values e.stats }
  if e.state ≠ .recording then (t, false)
  else if k % samplesPerBlock n = 0 then
    match t.free with
    | [] => (t.setEntry i { e with state := .truncated }, true)
    | b :: rest =>
      ({ t with
          mem := writeWords (zeroBlock t.mem b) b place words
          free := rest
          links := match e.last with
            | none => t.links
            | some l => put t.links l b
          dir := t.dir.set i { grown with first := if k = 0 then some b else e.first, last := some b, blocks := e.blocks + 1 } },
        false)
  else ({ t with mem := writeWords t.mem (e.last.getD 0) place words, dir := t.dir.set i grown }, false)

/-- An open request with sample 0 (R153); the mark tells STORE-FULL. -/
def Tks.openTake (number : Byte) (period : Nat) (axes : List AxisNo) (values : List Int) (t : Tks) : Tks × Bool :=
  match t.free, t.lowestEmpty with
  | [], _ => (t, true)
  | _, none => (t, true)
  | _ :: _, some i =>
    (t.setEntry i { number := number, state := .recording, uploaded := false, period := period, axes := axes }).append i values

/-- An end request: a recorded entry in RECORDING becomes COMPLETE or TRUNCATED; any other stays (R155). -/
def Tks.endRecording (number : Byte) (complete : Bool) (t : Tks) : Tks :=
  match t.find number with
  | none => t
  | some i =>
    if t.dir[i].state = .recording ∧ t.dir[i].uploaded = false then
      t.setEntry i { t.dir[i] with state := if complete then .complete else .truncated }
    else t

/-- An append for a take number: the store after it and whether it was a store-full end (R153, R154). -/
def Tks.appendTo (number : Byte) (values : List Int) (t : Tks) : Tks × Bool :=
  match t.find number with
  | none => (t, false)
  | some i => t.append i values

/-! ## Erase, upload and download (R157 to R161) -/

/-- A take number that a take can have (R150). -/
def validNumber (number : Byte) : Bool := decide (1 ≤ number.toNat) && decide (number.toNat ≤ 250)

/-- A take erased: its blocks go to the free list in chain order, the entry becomes EMPTY, and an open upload of it is
closed (R157). -/
def Tks.eraseEntry (i : EntryNo) (t : Tks) : Tks :=
  { (t.release (t.chain t.dir[i])).setEntry i {} with
    upload := if t.upload.map Prod.fst = some t.dir[i].number then none else t.upload }

/-- The axes that a mask names, ascending; bits 4 to 7 are not assigned (R158, R194). -/
def maskAxes (mask : Byte) : List AxisNo := allAxes.filter fun i => names mask i.val

/-- TAKE-CREATE on OK: blocks allocated from the head of the free list and chained, the lowest EMPTY entry RECORDING, the
upload open (R158). -/
def Tks.create (i : EntryNo) (number : Byte) (axes : List AxisNo) (period length : Nat) (t : Tks) : Tks :=
  let n := blocksFor length axes.length
  let bs := t.free.take n
  let e : DirEntry :=
    { number := number, state := .recording, uploaded := true, period := period, axes := axes, length := length,
      first := bs.head?, last := bs.getLast?, blocks := n, stats := none }
  { t with
    mem := bs.foldl zeroBlock t.mem
    links := chainUp t.links bs
    free := t.free.drop n
    dir := t.dir.set i e
    upload := some (number, 0) }

/-- TAKE-WRITE on OK: 64 words stored in block j of the chain, and the written count raised where j equals it (R159). -/
def Tks.writeBlock (i : EntryNo) (number : Byte) (written j : Nat) (words : List Word32) (t : Tks) : Tks :=
  { t with
    mem := writeWords t.mem ((t.chain t.dir[i]).getD j 0) 0 (words.take 64)
    upload := some (number, if j = written then written + 1 else written) }

/-- TAKE-CLOSE on OK: the per-axis values are formed and the entry becomes COMPLETE (R160). -/
def Tks.closeUpload (i : EntryNo) (t : Tks) : Tks :=
  { t.setEntry i { t.dir[i] with state := .complete, stats := t.statsOver t.dir[i] t.dir[i].length } with upload := none }

/-- The 64 words of block j of a take's chain (R161). -/
def Tks.blockWords (t : Tks) (e : DirEntry) (j : Nat) : List Word32 :=
  (countFrom 0 64).map fun w => readWord t.mem ((t.chain e).getD j 0) w

/-- Every sample of the entry passes a test of each listed axis (R160). -/
def Tks.samplesAll (t : Tks) (e : DirEntry) (ok : AxisNo → Int → Bool) : Nat → Bool
  | 0 => true
  | n + 1 => ((e.axes.zip (t.sample e n)).all fun p => ok p.1 p.2.toInt) && t.samplesAll e ok n

/-! ## A reset-pin start (R162) -/

/-- One entry at a reset-pin start: a recorded take in RECORDING becomes TRUNCATED, an upload in RECORDING is cut to its
written blocks, or emptied where it has none (R162). -/
def Tks.truncateEntry (t : Tks) (i : EntryNo) : Tks :=
  let e := t.dir[i]
  if e.state ≠ .recording then t
  else if e.uploaded = false then t.setEntry i { e with state := .truncated }
  else
    let written := (t.upload.map Prod.snd).getD 0
    let length := min e.length (written * samplesPerBlock e.axes.length)
    let keep := blocksFor length e.axes.length
    let bs := t.chain e
    if length = 0 then (t.release bs).setEntry i {}
    else
      let t' := t.release (bs.drop keep)
      let last := bs.getD (keep - 1) 0
      let e' : DirEntry :=
        { e with state := .truncated, length := length, blocks := keep, last := some last, stats := t.statsOver e length }
      { t' with links := drop t'.links last, dir := t'.dir.set i e' }

/-- The store at a reset-pin start: kept, each entry in RECORDING ended, no upload open (R162). -/
def Tks.pinStart (t : Tks) : Tks :=
  { allSixteen.foldl Tks.truncateEntry t with upload := none, eraseIgnored := 0 }

/-- A reset-pin start changes the state of an entry (R162, R191). -/
def Tks.pinStartChanges (t : Tks) : Bool := allSixteen.any fun i => decide (t.dir[i].state = .recording)

end Sys2Proof.Machine
end

