-- ==== Sys2Proof/Machine/Stop.lean ====
section
/-! DEFINITION. The Stop Controller's stops (8.1 to 8.5): taking a cause, the sequences of the three categories, and what
the other blocks do when the stop state leaves RUN. -/

namespace Sys2Proof.Machine

/-! ## Setpoint words and drive switching (R95, R96, 12.3) -/

/-- A setpoint word: bit 39 the enable, bits 31..0 the count (12.3). -/
def setpointWord (enable : Bool) (count : Int) : BitVec 40 :=
  (if enable then BitVec.twoPow 40 39 else 0) ||| (BitVec.ofInt 32 count).setWidth 40

/-- A drive switched off: where it was on, an extra word with enable 0 and the last count is sent at once (R96). -/
def Drive.off (d : Drive) : Drive :=
  { d with enable := false, word := if d.enable then setpointWord false d.lastCount else d.word }

/-! ## The sequences of the categories (R137 to R139) -/

/-- An axis of a BRAKE stop at rest with its drive on: a released brake is engaged and its timer started; with the brake
already engaged and no timer running, the drive is switched off at once; a delay of 0 is reached at once (R136, R138). -/
def AxisState.brake (c : AxisCfg) (a : AxisState) : AxisState :=
  if c.kind ≠ .unused ∧ a.mpr.atRest = true ∧ a.drive.enable = true then
    if a.drive.released then
      if c.brakeDelay = 0 then { a with drive := { a.drive.off with released := false }, brakeTimer := none }
      else { a with drive := { a.drive with released := false }, brakeTimer := some 0 }
    else if a.brakeTimer = none then { a with drive := a.drive.off }
    else a
  else a

/-- Every drive switched off, every brake engaged and every timer stopped (R139). -/
def AxisState.cut (a : AxisState) : AxisState :=
  { a with drive := { a.drive.off with released := false }, brakeTimer := none, releaseTimer := none }

/-- What the sequence of the held category does to an axis at this moment (R137 to R139). -/
def AxisState.sequence (category : Option Category) (c : AxisCfg) (a : AxisState) : AxisState :=
  match category with
  | some .brake => a.brake c
  | some .cut => a.cut
  | _ => a

/-- The sequence of the held category is complete (R140). -/
def sequenceComplete (category : Option Category) (cfg : Settings) (axes : Vector AxisState 4) : Bool :=
  allAxes.all fun i =>
    decide (cfg.axes[i].kind = .unused)
      || (axes[i].mpr.atRest && (decide (category ≠ some .brake) || (!axes[i].drive.enable && !axes[i].drive.released)))

/-- The sequence of the held category acts on every axis (R137 to R139). -/
def applySequence (s : State) : State :=
  { s with axes := Vector.ofFn fun i => s.axes[i].sequence s.stop.category s.cfg.axes[i] }

/-- STOPPING becomes STOPPED when the sequence is complete (R140). -/
def judgeStopped (s : State) : State :=
  announce { s with stop := { s.stop with
    state := if s.stop.state = .stopping ∧ sequenceComplete s.stop.category s.cfg s.axes = true then .stopped
      else s.stop.state } }

/-! ## What a stop does to a take (R155, R180) -/

/-- A change of the take record; a change of take state sets TAKE-CHANGE and may cause a STATUS (R33, R166). -/
def setTake (q : Tkq) (s : State) : State :=
  announce { s with tkq := q, svp := s.svp.raiseIf (decide (q.state ≠ s.tkq.state)) flagTakeChange }

/-- A change of the store; a change of an entry's state sets TAKE-CHANGE (R150). -/
def setStore (t : Tks) (s : State) : State :=
  { s with
    tks := t
    svp := s.svp.raiseIf (allSixteen.any fun i => decide (t.dir[i].state ≠ s.tks.dir[i].state)) flagTakeChange }

/-- The recording of the take is in progress. -/
def Tkq.recording (q : Tkq) : Bool := decide (q.mode = some .record) && decide (q.state = .running)

/-- The recording in progress is ended: closed or truncated (R155). -/
def endRecordingNow (complete : Bool) (s : State) : State :=
  setStore (if s.tkq.recording then s.tks.endRecording s.tkq.number complete else s.tks) s

/-- When the stop state leaves RUN, a take in any state other than IDLE becomes ABORTED BY-STOP, and a recording in
progress is truncated; an append that was still due is dropped (R180; log 2). -/
def abortByStop (s : State) : State :=
  let s' := endRecordingNow false s
  setTake (if s.tkq.state = .idle then s.tkq
    else { s.tkq with state := .aborted, abortKind := some .byStop, appendDue := false }) s'

/-! ## Taking a cause (R132, R133, R135, R145) -/

/-- A cause joined to a set in code order; one already there leaves the set unchanged (R133). -/
def insertCause (k : Cause) : List Cause → List Cause
  | [] => [k]
  | j :: rest =>
    if causeCode k < causeCode j then k :: j :: rest else if k = j then j :: rest else j :: insertCause k rest

/-- The stop record of a stop that begins (R132, R135, R145). -/
def StopRecord.begin (loc : Bool) (origin : StationNo) (now : Nat) (k : Cause) (c : Category) (r : StopRecord) : StopRecord :=
  { r with
    state := .stopping
    category := some c
    localMarks := if loc then [k] else []
    remoteMarks := if loc then [] else [k]
    first := some (k, origin, now)
    origin := some origin
    seq := if loc then r.seq + 1 else r.seq }

/-- The stop record after a cause has joined the set (R133, R135). -/
def StopRecord.join (loc : Bool) (k : Cause) (r : StopRecord) : StopRecord :=
  { r with
    localMarks := if loc then insertCause k r.localMarks else r.localMarks
    remoteMarks := if loc then r.remoteMarks else insertCause k r.remoteMarks }

/-- The stop record after an escalation, before the new sequence is judged (R133, R135). -/
def StopRecord.escalate (loc : Bool) (origin : StationNo) (k : Cause) (c : Category) (r : StopRecord) : StopRecord :=
  { r.join loc k with category := some c, origin := some origin, seq := if loc then r.seq + 1 else r.seq }

/-- A burst is requested, with the held category, the cause and the own stop sequence as raised (R134). -/
def requestBurst (k : Cause) (s : State) : State :=
  { s with lif := match s.stop.category with
      | some c => s.lif.placeStop c k s.stop.seq
      | none => s.lif }

/-- A burst is requested where the cause is the station's own (R134, R135). -/
def requestBurstIf (loc : Bool) (k : Cause) (s : State) : State :=
  { s with lif := if loc then (requestBurst k s).lif else s.lif }

/-- A stop begins (R132, R145): the record is set, the burst requested, the release timers stopped, seeks cancelled, the
take aborted, STOP-ENTER set, and the sequence of the category begun. A stop that begins in RESUMING aborts a take in any
state other than IDLE too, which can only be a REFUSED one (R180; DESIGN CHOICE, log 32). -/
def beginStop (loc : Bool) (origin : StationNo) (k : Cause) (c : Category) (s : State) : State :=
  let s1 := requestBurstIf loc k { s with
    stop := s.stop.begin loc origin s.time k c
    driveOn := .idle
    axes := Vector.ofFn fun i => { s.axes[i] with releaseTimer := none }
    svp := s.svp.raise flagStopEnter }
  judgeStopped (applySequence (abortByStop (announce (cancelSeeks s1))))

/-- A stop escalates (R133): the new category's sequence begins, and the stop state is STOPPING unless that sequence is
complete at the same moment (R140). -/
def escalateStop (loc : Bool) (origin : StationNo) (k : Cause) (c : Category) (s : State) : State :=
  let s1 := applySequence (requestBurstIf loc k { s with stop := s.stop.escalate loc origin k c })
  announce { s1 with stop := { s1.stop with
    state := if sequenceComplete s1.stop.category s1.cfg s1.axes then .stopped else .stopping } }

/-- A cause is taken, local or received, with its category and origin (R132, R133, R135, R145). -/
def takeCause (loc : Bool) (origin : StationNo) (k : Cause) (c : Category) (s : State) : State :=
  match s.stop.state with
  | .run | .resuming => beginStop loc origin k c s
  | .stopping | .stopped =>
    if categoryRank s.stop.category < categoryRank (some c) then escalateStop loc origin k c s
    else { s with stop := s.stop.join loc k }

/-- A local cause: its origin is the own station (R130). -/
def giveCause (k : Cause) (c : Category) (s : State) : State := takeCause true s.cfg.own k c s

/-- A local cause given where cond holds. -/
def giveCauseIf (cond : Bool) (k : Cause) (c : Category) (s : State) : State := if cond then giveCause k c s else s

/-- The drive of an axis is on while its link is not LOCKED, the condition of cause ENC-LOST (R91). -/
def AxisState.lostWithDriveOn (a : AxisState) : Bool := a.drive.enable && !a.link.valid

end Sys2Proof.Machine
end

