-- ==== Sys2Proof/Machine/Zones.lean ====
section
/-! DEFINITION. The Zone Monitor (chapter 7): readings, activation and breach of the zones, the edges for the profiler,
the crew warning and the caps. -/

namespace Sys2Proof.Machine

/-! ## Readings (R115, R116) -/

/-- Where a position lies against a qualifier's range (R115). -/
def Qualifier.judge (q : Qualifier) (x : Int) : QualReading := if q.qlo ≤ x ∧ x ≤ q.qhi then .inside else .outside

/-- A peer's axis report is usable: its station PRESENT, its age within the liveness timeout, its valid flag set (R115). -/
def State.reportUsable (s : State) (st : StationNo) (i : AxisNo) : Bool :=
  s.present st && decide (s.reportAge st i ≤ s.cfg.liveness) && s.peers[st].reports[i].valid

/-- The qualifier reading of a zone (R115): the own station's axis is read from the Feedback Unit. -/
def State.qualReading (s : State) (c : ZoneCfg) : QualReading :=
  match c.qualifier with
  | none => .noQualifier
  | some q =>
    if q.station = s.cfg.own then
      match s.axes[q.axis].link.validPosition with
      | none => .unknown
      | some x => Qualifier.judge q x
    else if s.reportUsable q.station q.axis then Qualifier.judge q s.peers[q.station].reports[q.axis].position
    else .unknown

/-- The gate reading of a zone, none for NONE; a slot of a station that is not PRESENT reads 1 (R116). -/
def State.gateReading (s : State) (c : ZoneCfg) : Option Bool := c.gateLine.map (s.readSlot true)

/-! ## Activation and breach (R117, R119) -/

/-- The breach test finds a position inside lo..hi and deeper than the tolerance (R119). -/
def breachTest (c : ZoneCfg) (m : Int) : Bool :=
  decide (c.lo ≤ m ∧ m ≤ c.hi ∧ min (m - c.lo) (c.hi - m) > (c.tolerance : Int))

/-- The breach test of an active zone against a valid position; the flag keeps its value where no test is made (R119). -/
def ZoneState.test (c : ZoneCfg) (position : Option Int) (z : ZoneState) : ZoneState :=
  { z with breached := match position with
      | some m => if z.active then breachTest c m else z.breached
      | none => z.breached }

/-- A zone with new readings: active as R117 states, tested at the change to active, its breached flag cleared at the
change to inactive. -/
def ZoneState.evaluate (c : ZoneCfg) (qualifier : QualReading) (gate : Option Bool) (position : Option Int)
    (z : ZoneState) : ZoneState :=
  let active := decide (qualifier ≠ .outside) && decide (gate ≠ some false)
  let z' : ZoneState := { z with qualifier := qualifier, gate := gate, active := active }
  if active && !z.active then z'.test c position
  else { z' with breached := z.breached && active }

/-- The zone as an evaluation of its readings now leaves it; a zone not in use never changes (R114, R117). -/
def State.zoneNow (s : State) (z : ZoneNo) : ZoneState :=
  let c := s.cfg.zones[z]
  if c.inUse then s.zones[z].evaluate c (s.qualReading c) (s.gateReading c) s.axes[c.axis].link.validPosition
  else s.zones[z]

/-- The zone records replaced, and cause ZONE-BREACH given once for each zone whose breached flag was set by it (R120). -/
def setZones (new : Vector ZoneState 8) (s : State) : State :=
  allEight.foldl (fun t z => giveCauseIf (new[z].breached && !s.zones[z].breached) .zoneBreach .brake t)
    { s with zones := new }

/-- The zones that are selected re-formed (R117). -/
def reformZones (selected : ZoneNo → Bool) (s : State) : State :=
  setZones (Vector.ofFn fun z => if selected z then s.zoneNow z else s.zones[z]) s

/-- The breach tests made at the end of an encoder read of the guarded axis (R119). -/
def testZones (i : AxisNo) (s : State) : State :=
  setZones (Vector.ofFn fun z =>
    if s.cfg.zones[z].inUse && decide (s.cfg.zones[z].axis = i) then
      s.zones[z].test s.cfg.zones[z] s.axes[i].link.validPosition
    else s.zones[z]) s

/-- The zones that a STATUS of a station, or a change of its presence, can change (R117). -/
def State.zonesOfStation (s : State) (presenceChanged : Bool) (st : StationNo) (z : ZoneNo) : Bool :=
  decide (s.cfg.zones[z].gateLine.map Prod.fst = some st)
    || (presenceChanged && decide (s.cfg.zones[z].qualifier.map Qualifier.station = some st))

/-- The zones that qualify on an axis of a station (R117). -/
def State.zonesOfAxis (s : State) (st : StationNo) (i : AxisNo) (z : ZoneNo) : Bool :=
  decide (s.cfg.zones[z].qualifier.map (fun q => (q.station, q.axis)) = some (st, i))

/-- The zones whose gate names the own station (R117). -/
def State.zonesOfOwnWord (s : State) (z : ZoneNo) : Bool :=
  decide (s.cfg.zones[z].gateLine.map Prod.fst = some s.cfg.own)

/-! ## Edges for the profiler (R118) -/

/-- A zone in use guards the axis and is active. -/
def State.guards (s : State) (i : AxisNo) (z : ZoneNo) : Bool :=
  s.cfg.zones[z].inUse && decide (s.cfg.zones[z].axis = i) && s.zones[z].active

/-- The upward zone edge of an axis at a commanded position: the lowest lo that p touches or lies below (R71, R118). -/
def State.zoneUp (s : State) (i : AxisNo) (p : Int) : Option Int :=
  allEight.foldl (fun e z =>
    if s.guards i z && decide (p ≤ s.cfg.zones[z].lo * 256) then minOpt e (some s.cfg.zones[z].lo) else e) none

/-- The downward zone edge of an axis at a commanded position: the highest hi that p touches or lies above (R71, R118). -/
def State.zoneDown (s : State) (i : AxisNo) (p : Int) : Option Int :=
  allEight.foldl (fun e z =>
    if s.guards i z && decide (s.cfg.zones[z].hi * 256 ≤ p) then maxOpt e (some s.cfg.zones[z].hi) else e) none

/-! ## Crew warning and caps (R122, R123) -/

/-- A source of the crew warning reads active (R122). -/
def State.crewWarning (s : State) : Bool :=
  (allSixteen.any fun k => decide (s.cfg.lines[k].function = .crewWarn) && s.lineActiveOrUnqualified k)
    || (allAxes.any fun k => match s.cfg.warnSlots[k] with
        | none => false
        | some line => s.readSlot true line)

/-- The cap of an axis, the smallest of the terms that apply, under a crew-warn state and an owner (R123). An UNUSED axis has no
cap by the rule; the settings of one hold speed 0, so the field and READ-AXIS read 0 for it (DESIGN CHOICE, log 36). -/
def State.capOf (s : State) (warn : Bool) (owner : Owner) (i : AxisNo) : Nat :=
  let c := s.cfg.axes[i]
  let crew := if warn then min c.vmax c.crewSpeed else c.vmax
  let preroll := if s.tkq.state = .preroll ∧ s.claims i = true then min crew c.prerollSpeed else crew
  if owner = .cal then min preroll c.calSpeed else preroll

end Sys2Proof.Machine
end

