-- ==== Sys2Proof/Machine/Demand.lean ====
section
/-! DEFINITION. The Demand Selector (chapter 3): owners, live gates, received demands, goals, and the handwheels. -/

namespace Sys2Proof.Machine

/-! ## The live gate (R55 to R57) -/

/-- The enable line of an axis reads 0 (R59). -/
def State.enableOpen (s : State) (i : AxisNo) : Bool :=
  match s.cfg.axes[i].enableLine with
  | none => false
  | some line => !s.readSlot false line

/-- The first state of the list of R55 that holds, for a latch and a freshness timer; an axis without a live source shows
CLOSED-SOURCE. -/
def State.gateFor (s : State) (i : AxisNo) (latch : Bool) (fresh : Nat) : Gate :=
  match s.cfg.axes[i].liveSource with
  | none => .closedSource
  | some st =>
    if !s.present st then .closedSource
    else if s.enableOpen i then .closedEnable
    else if fresh > s.cfg.axes[i].demandTimeout then .closedStale
    else if latch then .zeroWait
    else .opened

/-- CLOSED-ENABLE, CLOSED-SOURCE or CLOSED-STALE. -/
def Gate.closed : Gate → Bool
  | .closedEnable | .closedSource | .closedStale => true
  | .zeroWait | .opened => false

/-- The gate of an axis re-evaluated; for a MOTION axis a change into a closed state from one that is not closed sets the
latch (R55, R56). -/
def State.regate (s : State) (i : AxisNo) (d : Dsl) : Dsl :=
  let g := s.gateFor i d.latch d.fresh
  { d with gate := g, latch := d.latch || (decide (s.cfg.axes[i].kind = .motion) && g.closed && !d.gate.closed) }

/-- The gates of the axes that are selected re-evaluated (R55). -/
def reformGates (selected : AxisNo → Bool) (s : State) : State :=
  s.mapAxes fun i a => if selected i then { a with dsl := s.regate i a.dsl } else a

/-- The axes whose gate a STATUS of a station, or a change of its presence, can change (R55). -/
def State.gatesOfStation (s : State) (presenceChanged : Bool) (st : StationNo) (i : AxisNo) : Bool :=
  decide (s.cfg.axes[i].enableLine.map Prod.fst = some st)
    || (presenceChanged && decide (s.cfg.axes[i].liveSource = some st))

/-- The axes whose enable line names the own station (R55). -/
def State.gatesOfOwnWord (s : State) (i : AxisNo) : Bool :=
  decide (s.cfg.axes[i].enableLine.map Prod.fst = some s.cfg.own)

/-! ## The owner (R49, R51, R54) -/

/-- The owner that the table of R51 gives an axis; an UNUSED axis has STOP while the stop state is not RUN, else HOLD. -/
def State.ownerOf (s : State) (i : AxisNo) : Owner :=
  if s.stop.state ≠ .run then .stop
  else if !s.used i then .hold
  else if s.axes[i].seeking then .cal
  else if s.claims i then .take
  else if s.cfg.axes[i].liveSource.isSome then .live
  else .hold

/-- An axis under its owner: a change into LIVE sets the latch of a MOTION axis and re-evaluates the gate (R54, R55). -/
def State.ownAxis (s : State) (i : AxisNo) (owner : Owner) (a : AxisState) : AxisState :=
  let entersLive := decide (owner = .live) && decide (a.dsl.owner ≠ .live)
  let d : Dsl := { a.dsl with
    owner := owner, latch := a.dsl.latch || (entersLive && decide (s.cfg.axes[i].kind = .motion)) }
  { a with dsl := if entersLive then s.regate i d else d }

/-! ## Receiving a DEMAND (R64, R65) -/

/-- The stored form of a demand value: a velocity clamped to the axis's vmax (R65). -/
def liveVelocity (c : AxisCfg) (value : Int) : Int := clampInt value (-(c.vmax : Int)) c.vmax

/-- The stored form of a lens demand value (R65). -/
def liveLensUnit (value : Int) : Nat := (clampInt value 0 65535).toNat

/-- The latch after a demand has been taken with none of conditions 1 to 3 of R55 holding: a LENS demand clears it, a
VELOCITY demand clears it within the deadband, judged before the clamp (R56). -/
def latchAfter (c : AxisCfg) (closed : Bool) (value : Int) (latch : Bool) : Bool :=
  latch && (closed || (decide (c.kind = .motion) && decide (value.natAbs > c.deadband)))

/-- A DEMAND taken for an axis (R65). -/
def State.takeDemandOn (s : State) (i : AxisNo) (value : Int) (d : Dsl) : Dsl :=
  let c := s.cfg.axes[i]
  s.regate i { d with
    fresh := 0
    liveVel := if c.kind = .motion then liveVelocity c value else d.liveVel
    liveUnit := if c.kind = .lens then some (liveLensUnit value) else d.liveUnit
    latch := latchAfter c (s.gateFor i false 0).closed value d.latch }

/-- The demand's kind is the one of its target axis (R64). -/
def kindMatches : AxisKind → Bool → Bool
  | .motion, lens => !lens
  | .lens, lens => lens
  | .unused, _ => false

/-- The tests of R64 and the taking of R65, for a DEMAND heard from a sender. -/
def receiveDemand (sender : StationNo) (m : DemandMsg) (s : State) : State :=
  if m.station ≠ s.cfg.own then s
  else if !kindMatches s.cfg.axes[m.axis].kind m.lens then { s with mismatched := satInc s.mismatched }
  else if s.cfg.axes[m.axis].liveSource ≠ some sender then { s with foreign := satInc s.foreign }
  else s.modAxis m.axis fun a => { a with dsl := s.takeDemandOn m.axis m.value a.dsl }

/-! ## Goals (R53, R58) -/

/-- A goal of the profiler: the STOP ramp, a Q8 velocity, or a count. -/
inductive Goal where
  | ramp
  | velocity (v : Int)
  | position (count : Int)
deriving DecidableEq, Repr

/-- Holding: POSITION at the held target count, or VELOCITY 0 where it is none; a MOTION axis holds with VELOCITY 0
(R53, R58). -/
def holdGoal (c : AxisCfg) (a : AxisState) : Goal :=
  match c.kind, a.dsl.held with
  | .lens, some x => .position x
  | _, _ => .velocity 0

/-- The lens map of the live target, where the gate is OPEN, the target is not none and the axis is CALIBRATED (R58). -/
def liveLensTarget (c : AxisCfg) (a : AxisState) : Option Int :=
  if a.dsl.gate = .opened then a.dsl.liveUnit.bind (mapUnit c a.lens) else none

/-- The goal that the owner of an axis hands to the profiler (R53). A LENS axis that a DISARM returns to LIVE moves to its live
target where the gate is OPEN (R54, R58), although R179 says that it holds at its last mapped take target (DESIGN CHOICE, log
37). -/
def State.goalOf (s : State) (i : AxisNo) : Goal :=
  let c := s.cfg.axes[i]
  let a := s.axes[i]
  match a.dsl.owner with
  | .stop => .ramp
  | .cal =>
    match a.lens.cal.state with
    | .seekLow => .velocity (-(c.calSpeed : Int))
    | .seekHigh => .velocity c.calSpeed
    | _ => .velocity 0
  | .take =>
    if s.tkq.state = .aborted then .velocity 0
    else match s.tkq.goal[i] with
      | some x => .position x
      | none => holdGoal c a
  | .live =>
    if c.kind = .lens then
      match liveLensTarget c a with
      | some x => .position x
      | none => holdGoal c a
    else .velocity (if a.dsl.gate = .opened then a.dsl.liveVel else 0)
  | .hold => holdGoal c a

/-- The held target count after a goal has been handed: each POSITION goal of a LENS axis becomes it (R53). The stopping
point of a halted take is such a goal, and so it replaces the count of the last mapped target at the next computation
(R178, R179; DESIGN CHOICE, log 34). -/
def heldAfter (c : AxisCfg) (g : Goal) (held : Option Int) : Option Int :=
  match c.kind, g with
  | .lens, .position x => some x
  | _, _ => held

/-- The last lens unit after a live goal has been handed: the live target where it was mapped (R99). -/
def lastUnitAfter (c : AxisCfg) (a : AxisState) : Option Nat :=
  if a.dsl.owner = .live ∧ c.kind = .lens ∧ (liveLensTarget c a).isSome = true then a.dsl.liveUnit else a.lens.lastUnit

/-! ## Handwheels (R60 to R63) -/

/-- One observation of the phases: a change of one phase is a count by the phase order, of both none (R60). -/
def quadrature (phaseA phaseB newA newB : Bool) : Int :=
  if phaseA != newA && phaseB == newB then if (newA != newB) == Config.phaseALeadsUp then 1 else -1
  else if phaseA == newA && phaseB != newB then if (newA == newB) == Config.phaseALeadsUp then 1 else -1
  else 0

/-- A handwheel after an observation; counted tells whether a count is kept now (R60). -/
def WheelState.observe (counted newA newB : Bool) (w : WheelState) : WheelState :=
  { w with
    phaseA := newA
    phaseB := newB
    count := if counted then clampInt (w.count + quadrature w.phaseA w.phaseB newA newB) (-32768) 32767 else w.count }

/-- The accumulator of a LENS input after a demand period (R62). -/
def accAfter (c : WheelCfg) (w : WheelState) : Int := clampInt (w.acc + w.count * c.gain) 0 16776960

/-- The value of the DEMAND that an input makes (R61, R62). -/
def demandValue (c : WheelCfg) (w : WheelState) : Int :=
  if c.lens then accAfter c w / 256 else clampInt (w.count * c.gain) (-(2 ^ 20)) (2 ^ 20)

/-- The DEMAND that a mapped input makes at a demand period boundary (R61 to R63). -/
def demandOf (c : WheelCfg) (w : WheelState) : Option DemandMsg :=
  c.target.map fun t => { station := t.1, axis := t.2, lens := c.lens, seq := w.seq, value := demandValue c w }

/-- An input after a demand period boundary: its delta is read and set to 0, and a mapped input's accumulator and sequence
advance (R60, R62, R63). -/
def WheelState.afterPeriod (c : WheelCfg) (w : WheelState) : WheelState :=
  { w with
    count := 0
    acc := if c.target.isSome && c.lens then accAfter c w else w.acc
    seq := if c.target.isSome then w.seq + 1 else w.seq }

/-- The demand slots after the inputs have made their DEMANDs (R63). -/
def Lif.placeDemands (cfg : Settings) (wheels : Vector WheelState 4) (l : Lif) : Lif :=
  allAxes.foldl (fun l k => match demandOf cfg.wheels[k] wheels[k] with
    | some m => l.placeDemand k m
    | none => l) l

/-- The work of a demand period boundary (R60 to R63). -/
def demandWork (s : State) : State :=
  { s with
    lif := s.lif.placeDemands s.cfg s.wheels
    wheels := Vector.ofFn fun k => s.wheels[k].afterPeriod s.cfg.wheels[k]
    due := { s.due with demand := false } }

end Sys2Proof.Machine
end

