-- ==== Sys2Proof/Machine/Profiler.lean ====
section
/-! DEFINITION. The Motion Profiler (chapter 4): the computation of a period for one axis, on values handed to it. -/

namespace Sys2Proof.Machine

/-! ## Steps (R68 to R75) -/

/-- The stopping bound of a distance and a step; a distance that is not positive gives 0 (R68, R71). -/
def stoppingBound (x : Int) (step : Nat) : Int :=
  if x ≤ 0 then 0 else (((isqrt (step * step + 8 * step * x.toNat) - step) / 2 : Nat) : Int)

/-- The commanded count of a commanded position: the nearest whole count, halves upward (R75). -/
def countOf (p : Int) : Int := (p + 128) / 256

/-- The range that the commanded position is saturated into (R66, R73). -/
def saturateP (p : Int) : Int := clampInt p (-(2 ^ 38)) (2 ^ 38 - 1)

/-- What a computation takes at its start (R67): the goal, the cap, the edges in counts with the soft limits and the zone
edges already combined (R71), the soft limits, the regime and the measured position that the Feedback Unit supplies. -/
structure ProfilerInput where
  cfg : AxisCfg
  goal : Goal
  cap : Nat
  softLow : Option Int
  softHigh : Option Int
  upEdge : Option Int
  downEdge : Option Int
  tracks : Bool
  measured : Option Int
deriving DecidableEq, Repr

/-- The upward free distance at a position, none being unbounded (R71). -/
def ProfilerInput.freeUp (n : ProfilerInput) (p : Int) : Option Int := n.upEdge.map (· * 256 - p)

/-- The downward free distance at a position, none being unbounded (R71). -/
def ProfilerInput.freeDown (n : ProfilerInput) (p : Int) : Option Int := n.downEdge.map (p - · * 256)

/-- x clamped between two optional bounds. -/
def clampOpt (x : Int) (lo hi : Option Int) : Int := (maxOpt (minOpt (some x) hi) lo).getD x

/-- A position target clamped into the soft limits that apply (R70). -/
def ProfilerInput.target (n : ProfilerInput) (count : Int) : Int := clampOpt count n.softLow n.softHigh

/-- The target lies within the free range of a position (R70). -/
def ProfilerInput.inFreeRange (n : ProfilerInput) (p target : Int) : Bool :=
  (match n.freeUp p with
    | none => true
    | some x => decide (target * 256 ≤ p + x))
  && (match n.freeDown p with
    | none => true
    | some x => decide (p - x ≤ target * 256))

/-- The computation arrives at a target (R70). -/
def ProfilerInput.arrives (n : ProfilerInput) (p v target : Int) : Bool :=
  decide ((target * 256 - p).natAbs ≤ n.cfg.a) && decide (v.natAbs ≤ n.cfg.a) && n.inFreeRange p target

/-- The demand goal of POSITION mode for a distance to the target (R70). -/
def ProfilerInput.approach (n : ProfilerInput) (d : Int) : Int :=
  d.sign * min (n.cap : Int) (stoppingBound (d.natAbs : Int) n.cfg.a)

/-- The demand goal (R69, R70, R77). -/
def ProfilerInput.demandGoal (n : ProfilerInput) (p : Int) : Int :=
  match n.goal with
  | .ramp => 0
  | .velocity t => clampInt t (-(n.cap : Int)) n.cap
  | .position count => n.approach (n.target count * 256 - p)

/-- The goal of the period: the demand goal between the limit goals (R71). -/
def ProfilerInput.limited (n : ProfilerInput) (p g : Int) : Int :=
  clampOpt g ((n.freeDown p).map fun x => -(stoppingBound x n.cfg.ad)) ((n.freeUp p).map fun x => stoppingBound x n.cfg.ad)

/-- The step of the slew: ad for the STOP ramp, for a goal that a limit term set below the speed, and above the cap; a
otherwise (R72, R77). -/
def ProfilerInput.step (n : ProfilerInput) (v demand g : Int) : Nat :=
  if n.goal = .ramp ∨ (g ≠ demand ∧ g.natAbs < v.natAbs) ∨ v.natAbs > n.cap then n.cfg.ad else n.cfg.a

/-- The slew (R72). -/
def slew (v g : Int) (step : Nat) : Int := v + clampInt (g - v) (-(step : Int)) step

/-- The edge clamp: the velocity within the free distances, one below 0 taken as 0 (R73). -/
def ProfilerInput.edgeClamp (n : ProfilerInput) (p v : Int) : Int :=
  clampOpt v ((n.freeDown p).map fun x => -(max x 0)) ((n.freeUp p).map fun x => max x 0)

/-- The new velocity of a computation that does not arrive (R71 to R73). -/
def ProfilerInput.newVelocity (n : ProfilerInput) (p v : Int) : Int :=
  let demand := n.demandGoal p
  let g := n.limited p demand
  n.edgeClamp p (slew v g (n.step v demand g))

/-! ## The computation (R67) -/

/-- The record after p and v are known, with the count formed from p (R73, R75, R76). -/
def Mpr.written (p v : Int) (mode : ProfilerMode) (atTarget : Bool) : Mpr :=
  { p := p, v := v, mode := mode, atTarget := atTarget, atRest := decide (v = 0), count := countOf p, reseed := false }

/-- Tracking: p becomes the measured position, or stays where there has been none (R78). -/
def Mpr.track (measured : Option Int) (m : Mpr) : Mpr :=
  Mpr.written ((measured.map (· * 256)).getD m.p) 0 .velocity false

/-- The five steps, or the STOP ramp (R69 to R77). An arrival writes the target itself, so that at a soft limit of 2^30 p
becomes 2^38, one above the range of R66 (DESIGN CHOICE, log 31). -/
def ProfilerInput.follow (n : ProfilerInput) (m : Mpr) : Mpr :=
  let v := n.newVelocity m.p m.v
  match n.goal with
  | .position count =>
    if n.arrives m.p m.v (n.target count) then Mpr.written (n.target count * 256) 0 .position true
    else Mpr.written (saturateP (m.p + v)) v .position false
  | _ => Mpr.written (saturateP (m.p + v)) v .velocity false

/-- The record that a computation starts from: after the owner has left CAL, the measured position at rest (R80). -/
def Mpr.seeded (measured : Option Int) (m : Mpr) : Mpr :=
  if m.reseed then { m with p := (measured.map (· * 256)).getD m.p, v := 0 } else m

/-- The computation of a period: it tracks, or it follows the goal (R67). -/
def ProfilerInput.compute (n : ProfilerInput) (m : Mpr) : Mpr := if n.tracks then m.track n.measured else n.follow m

/-! ## The inputs of an axis (R67) -/

/-- The inputs that the blocks hand for an axis, at a commanded position. -/
def State.profilerInput (s : State) (i : AxisNo) (p : Int) : ProfilerInput :=
  let a := s.axes[i]
  let soft := softLimits s.cfg.axes[i] a
  { cfg := s.cfg.axes[i], goal := s.goalOf i, cap := a.cap, softLow := soft.1, softHigh := soft.2,
    upEdge := minOpt soft.2 (s.zoneUp i p), downEdge := maxOpt soft.1 (s.zoneDown i p),
    tracks := decide (s.stop.category = some .cut) || !a.drive.enable, measured := a.link.measured }

/-- The profiler record of an axis after the computation of this period. In the first computation after a seek the zone edges
(R67, R118) are formed from the p that R80 has set, not from the p before it (DESIGN CHOICE, log 39). -/
def State.computed (s : State) (i : AxisNo) : Mpr :=
  let m := s.axes[i].mpr.seeded s.axes[i].link.measured
  (s.profilerInput i m.p).compute m

/-! ## What the Feedback Unit does with a commanded count (R93, R95) -/

/-- The following error against the measured position; while there is none it is not formed (R93). -/
def Link.follow (count : Int) (l : Link) : Link :=
  { l with following := match l.measured with
      | some m => some (count - m)
      | none => l.following }

/-- The periodic setpoint word of a count (R95). -/
def Drive.send (count : Int) (d : Drive) : Drive := { d with lastCount := count, word := setpointWord d.enable count }

/-- An axis after its computation: the profiler's record, the held target and last lens unit of the goal that was handed,
the following error and the setpoint word. The channel of an UNUSED axis sends enable 0 and count 0 (R95). -/
def State.axisComputed (s : State) (i : AxisNo) : AxisState :=
  let a := s.axes[i]
  let c := s.cfg.axes[i]
  if c.kind = .unused then { a with drive := { a.drive with word := setpointWord false 0, lastCount := 0 } }
  else
    let m := s.computed i
    { a with
      mpr := m
      dsl := { a.dsl with held := heldAfter c (s.goalOf i) a.dsl.held }
      lens := { a.lens with lastUnit := lastUnitAfter c a }
      link := a.link.follow m.count
      drive := a.drive.send m.count }

/-- The check of R93 finds the follow limit exceeded. -/
def followFault (c : AxisCfg) (a : AxisState) : Bool :=
  a.drive.enable && a.link.valid && !a.seeking && decide ((a.link.following.getD 0).natAbs > c.followLimit)

/-- The stall and blocked timers of a seeking axis after a computation (R108). -/
def Lens.timed (c : AxisCfg) (following : Option Int) (atRest : Bool) (l : Lens) : Lens :=
  let counts := match following, l.cal.state with
    | some e, .seekLow => decide (e ≤ -(c.stallThreshold : Int))
    | some e, .seekHigh => decide (e ≥ (c.stallThreshold : Int))
    | _, _ => false
  { l with
    stall := if counts then min (l.stall + 1) 20 else 0
    blocked := if atRest then min (l.blocked + 1) 20 else 0 }

/-- The profiler computations of the period and what is handed on from them; the axes do not interact (R67, R93 to R95,
R108). -/
def computeAxes (s : State) : State :=
  s.mapAxes fun i _ =>
    let a := s.axisComputed i
    if a.seeking then { a with lens := a.lens.timed s.cfg.axes[i] a.link.following a.mpr.atRest } else a

/-- Cause FOLLOW for each axis whose check finds it (R93). -/
def giveFollow (s : State) : State :=
  allAxes.foldl (fun t i => giveCauseIf (s.used i && followFault s.cfg.axes[i] s.axes[i]) .follow .cut t) s

end Sys2Proof.Machine
end

