-- ==== Sys2Proof/Machine/Settle.lean ====
section
/-! DEFINITION. What every event of an operating station ends with: the line word and its readers, the crew warning, the
owners, the caps, the outputs and the attention output are formed again from the state the event has left (logs 10 and
11), so each of them changes in the event in which its sources change. -/

namespace Sys2Proof.Machine

/-! ## The line word and its readers (R33, R46, R55, R117) -/

/-- The line word takes its new value: a STATUS is composed where it differs from the last one, and the gates and zones
that read the own line word are re-formed. -/
def settleWord (s : State) : State :=
  let s1 := announce { s with word := s.formWord }
  reformZones s1.zonesOfOwnWord (reformGates s1.gatesOfOwnWord s1)

/-- The line word settled: a change can stop the station, and a stop can change the line word again. -/
def settle : Nat → State → State
  | 0, s => s
  | n + 1, s => if s.formWord = s.word then s else settle n (settleWord s)

/-! ## Crew warning, owners, caps (R51, R122, R124) -/

/-- The crew-warn state formed again (R122). -/
def formCrew (s : State) : State := { s with crewWarn := s.crewWarning }

/-- The owner and the cap of every axis formed again (R51, R123, R124). -/
def formOwners (s : State) : State :=
  s.mapAxes fun i a => { s.ownAxis i (s.ownerOf i) a with cap := s.capOf s.crewWarn (s.ownerOf i) i }

/-! ## Outputs (R47) -/

/-- An output is in fallback: mapped to a station whose entry is not PRESENT (R48). -/
def State.inFallback (s : State) (k : OutNo) : Bool :=
  match s.cfg.outs[k].mapping with
  | .slot st _ => !s.present st
  | _ => false

/-- The value of an output as its mapping now gives it; a HOLD fallback keeps the present value (R47). -/
def State.outputNow (s : State) (k : OutNo) : Bool :=
  match s.cfg.outs[k].mapping with
  | .level b => b
  | .source src => s.sourceValue src
  | .slot st slot =>
    if s.present st then s.readSlot false (st, slot)
    else match s.cfg.outs[k].fallback with
      | .low => false
      | .high => true
      | .hold => s.outputs[k]

/-- Every output formed again (R47). -/
def formOutputs (s : State) : State := { s with outputs := Vector.ofFn fun k => s.outputNow k }

/-! ## The end of an event -/

/-- What an event of the station ends with; before the load only the attention output follows. The owners are formed once
before the line word is followed, so that an axis whose owner only passes through LIVE takes its latch (R54). -/
def endEvent (s : State) : State :=
  formAttention (if s.operating then formOutputs (formOwners (formCrew (settle 4 (formOwners s)))) else s)

/-- An event of an operating station: its effect and what every event ends with. While the station loads or is in
CONFIG-FAULT, the blocks take no event (R183, R185). -/
def event (f : State → State) (s : State) : State := if s.operating then endEvent (f s) else s

/-- An event that comes about only where its condition holds; elsewhere nothing happens (log 2). -/
def eventIf (cond : State → Bool) (f : State → State) (s : State) : State :=
  if s.operating && cond s then endEvent (f s) else s

end Sys2Proof.Machine
end

