-- ==== Sys2Proof/Machine/Resume.lean ====
section
/-! DEFINITION. The Stop Controller's way back (8.6): the evaluation of a RESUME, the release sequence, and the brake and
release timers. -/

namespace Sys2Proof.Machine

/-! ## Persisting conditions (R142) -/

/-- A line of a function is active or not yet qualified. -/
def State.anyLine (s : State) (f : LineFunction → Bool) : Bool :=
  allSixteen.any fun k => f s.cfg.lines[k].function && s.lineActiveOrUnqualified k

/-- A CREW-TRIP group is tripped, or a member is not yet qualified (R142). -/
def State.groupPersists (s : State) : Bool :=
  (allAxes.any fun g => s.groups[g])
    || allSixteen.any fun k => decide (s.cfg.lines[k].function = .crewTrip) && decide (s.lines[k].qualified = none)

/-- The LIMIT lines that persist: those of an axis that is not a CALIBRATED LENS axis (R142). -/
def State.limitPersists (s : State) : LineFunction → Bool
  | .limit i _ => !(s.isLens i && decide (s.axes[i].lens.cal.state = .calibrated))
  | _ => false

/-- The function DRIVE-FAULT. -/
def LineFunction.isDriveFault : LineFunction → Bool
  | .driveFault _ => true
  | _ => false

/-- A roster peer's entry is not PRESENT (R142). -/
def State.rosterPeerMissing (s : State) : Bool :=
  allStations.any fun st => names s.cfg.roster st.val && decide (st ≠ s.cfg.own) && !s.present st

/-- The first persisting condition, in the order of R142. -/
def State.persisting (s : State) : Option Cause :=
  if s.anyLine (fun f => decide (f = .estop)) then some .estop
  else if s.groupPersists then some .crewTrip
  else if s.anyLine s.limitPersists then some .limit
  else if s.anyLine LineFunction.isDriveFault then some .driveFault
  else if !s.encodersLocked then some .encLost
  else if allEight.any fun z => s.zones[z].breached then some .zoneBreach
  else if s.rosterPeerMissing then some .peerLost
  else if s.lif.mute = .permanent then some .duplicate
  else if s.lif.mute = .lineMute then some .lineMute
  else none

/-! ## The evaluation (R142, R143) -/

/-- A blocked resume (R143). -/
def blockResume (k : Cause) (s : State) : State :=
  requestBurst k { s with
    stop := { s.stop with resumeBlocked := true, blocking := some k, seq := s.stop.seq + 1 }
    svp := s.svp.raise flagResumeBlocked }

/-- An accepted resume (R142): the record is emptied, and the release sequence waits for the drive-on boundary (R144). -/
def acceptResume (s : State) : State :=
  announce { s with
    stop := { s.stop with
      state := .resuming, category := none, localMarks := [], remoteMarks := [], first := none, origin := none,
      resumeBlocked := false, blocking := none }
    driveOn := .awaited }

/-- A RESUME request, evaluated in STOPPED and ignored in every other state (R141). -/
def evaluateResume (s : State) : State :=
  if s.stop.state = .stopped then
    match s.persisting with
    | some k => blockResume k s
    | none => acceptResume s
  else s

/-! ## The release sequence (R144) -/

/-- Every MOTION or LENS axis has its drive on and its brake released. -/
def State.allReleased (s : State) : Bool :=
  allAxes.all fun i => !s.used i || (s.axes[i].drive.enable && s.axes[i].drive.released)

/-- The automatic seeks of the first RUN after a reset (R106). -/
def startAutoSeeks (s : State) : State :=
  allAxes.foldl (fun t i =>
    if s.axes[i].lens.cal.autoPending then
      startSeek i (t.modAxis i fun a => { a with lens := { a.lens with cal := { a.lens.cal with autoPending := false } } })
    else t) s

/-- The stop state becomes RUN (R144). -/
def enterRun (s : State) : State :=
  announce (startAutoSeeks { s with stop := { s.stop with state := .run }, svp := s.svp.raise flagStopClear })

/-- RESUMING becomes RUN where every drive is on and every brake released (R144). -/
def judgeReleased (s : State) : State := if s.stop.state = .resuming ∧ s.allReleased = true then enterRun s else s

/-- Every drive that is off switched on (R96, R144). -/
def switchDrivesOn (s : State) : State :=
  s.mapAxes fun i a => if s.used i then { a with drive := { a.drive with enable := true } } else a

/-- Cause ENC-LOST for each drive switched on while its link is not LOCKED (R91). -/
def giveEncLost (s : State) : State :=
  allAxes.foldl (fun t i => giveCauseIf (s.used i && !s.axes[i].link.valid) .encLost .cut t) s

/-- The release timer of each axis whose brake is engaged started; a delay of 0 is reached at once (R136, R144). -/
def startReleases (s : State) : State :=
  s.mapAxes fun i a =>
    if s.used i && !a.drive.released then
      if s.cfg.axes[i].brakeDelay = 0 then { a with drive := { a.drive with released := true } }
      else { a with releaseTimer := some 0 }
    else a

/-- The drive-on boundary's work (R144): a drive that finds its link not LOCKED ends the resume before any release timer
starts (log 25). -/
def driveOnWork (s : State) : State :=
  let t := giveEncLost (switchDrivesOn { s with driveOn := .idle })
  if t.stop.state = .resuming then judgeReleased (startReleases t) else t

/-- The release timer of an axis has reached the brake delay. -/
def State.releaseDue (s : State) (i : AxisNo) : Bool := decide (s.axes[i].releaseTimer = some s.cfg.axes[i].brakeDelay)

/-- The brake timer of an axis has reached the brake delay. -/
def State.brakeDue (s : State) (i : AxisNo) : Bool := decide (s.axes[i].brakeTimer = some s.cfg.axes[i].brakeDelay)

/-- A release timer at its end releases the brake (R144). -/
def releaseWork (i : AxisNo) (s : State) : State :=
  judgeReleased (s.modAxis i fun a => { a with drive := { a.drive with released := true }, releaseTimer := none })

/-- A brake timer at its end switches the drive off (R138). -/
def brakeWork (i : AxisNo) (s : State) : State :=
  judgeStopped (s.modAxis i fun a => { a with drive := a.drive.off, brakeTimer := none })

/-- One control period of an axis's brake and release timers (R136). -/
def AxisState.tickTimers (a : AxisState) : AxisState :=
  { a with brakeTimer := a.brakeTimer.map (· + 1), releaseTimer := a.releaseTimer.map (· + 1) }

end Sys2Proof.Machine
end

