-- ==== Sys2Proof/Machine/Iol.lean ====
section
/-! DEFINITION. The input lines (2.7): sampling, qualified edges, ESTOP edges, the CREW-TRIP groups and the button cues. -/

namespace Sys2Proof.Machine

/-! ## Sampling (R39, R41, R42) -/

/-- The hold count of a line without a qualified level after a sample: how many samples the raw level has held (R42). -/
def firstHold (c : LineCfg) (raw : Bool) (l : LineState) : Nat :=
  if l.hold = 0 ∨ raw ≠ l.raw then 1 else min (l.hold + 1) (c.qualTime + 1)

/-- A line after a sample of its raw level. An ENABLE line with a qualified level becomes inactive at once (R41); an ESTOP
line is not qualified here (R40). The hold count stands at q + 1 until the qualified edge is taken (log 2). -/
def LineState.sample (c : LineCfg) (raw : Bool) (l : LineState) : LineState :=
  if c.function = .estop then l
  else match l.qualified with
    | none => { l with raw := raw, hold := firstHold c raw l }
    | some q =>
      if raw = q then { l with raw := raw, hold := 0 }
      else if c.function = .enable ∧ raw ≠ c.activeHigh then
        { l with raw := raw, qualified := some raw, hold := 0, latch := true }
      else { l with raw := raw, hold := min (l.hold + 1) (c.qualTime + 1) }

/-- The qualified edge of a line is due: its hold count has reached q + 1 (R39, R42). -/
def State.edgeDue (s : State) (k : LineNo) : Bool :=
  decide (s.cfg.lines[k].function ≠ .estop) && decide (s.lines[k].hold = s.cfg.lines[k].qualTime + 1)

/-- A line after its qualified edge; a first qualified level sets the change latch only when active (R39, R42, R43). -/
def LineState.qualify (c : LineCfg) (l : LineState) : LineState :=
  { l with
    qualified := some l.raw
    hold := 0
    latch := l.latch || l.qualified.isSome || decide (l.raw = c.activeHigh) }

/-! ## ESTOP lines (R40) -/

/-- An ESTOP line follows a raw level; a change is a qualified edge, and a first level only when active (R40, R43). -/
def LineState.followRaw (c : LineCfg) (raw : Bool) (l : LineState) : LineState :=
  { l with
    raw := raw
    qualified := some raw
    latch := l.latch || (match l.qualified with
      | none => decide (raw = c.activeHigh)
      | some q => q != raw) }

/-- An ESTOP line takes a raw level: an edge to active gives cause ESTOP with its configured category (R40, R42). -/
def followEstop (k : LineNo) (raw : Bool) (s : State) : State :=
  giveCauseIf (decide (raw = s.cfg.lines[k].activeHigh) && decide (s.lines[k].qualified ≠ some raw)) .estop s.cfg.estopCategory
    { s with lines := s.lines.set k (s.lines[k].followRaw s.cfg.lines[k] raw) }

/-- Every ESTOP line takes the raw level that is seen (R40). -/
def followEstops (levels : Word16) (s : State) : State :=
  allSixteen.foldl (fun t k => if s.cfg.lines[k].function = .estop then followEstop k (levels.getLsbD k.val) t else t) s

/-- The sampling at the start of a control period (R39 to R42). -/
def sampleLines (levels : Word16) (s : State) : State :=
  followEstops levels { s with lines := Vector.ofFn fun k => s.lines[k].sample s.cfg.lines[k] (levels.getLsbD k.val) }

/-! ## CREW-TRIP groups (R45) -/

/-- A member line of a group is active. -/
def State.groupActive (s : State) (g : GroupNo) : Bool :=
  allSixteen.any fun k => decide (s.cfg.lines[k].function = .crewTrip) && decide (s.cfg.lines[k].group = g) && s.lineActive k

/-- A group judged after an edge of a member: it trips, with its cause, or untrips (R45). -/
def judgeGroup (g : GroupNo) (s : State) : State :=
  giveCauseIf (s.groupActive g && !s.groups[g]) .crewTrip s.cfg.groupCategory[g]
    { s with groups := s.groups.set g (s.groupActive g) }

/-! ## Button cues (R164) -/

/-- A cue that the station makes is placed with the own cue sequence, which then rises; one refused at placement takes no
sequence (R13, R163). -/
def placeOwnCue (kind : CueKind) (number mask parameter : Byte) (s : State) : State :=
  { s with
    lif := s.lif.placeCue { kind := kind, seq := s.tkq.cueSeq, number := number, mask := mask, parameter := parameter }
    tkq := if s.lif.takesCue then { s.tkq with cueSeq := s.tkq.cueSeq + 1 } else s.tkq }

/-- A button's cue; one refused at placement is counted as dropped (R164). -/
def buttonCue (kind : CueKind) (number mask : Byte) (s : State) : State :=
  if s.lif.takesCue then placeOwnCue kind number mask 0 s
  else { s with lif := s.lif.countDropped 1 }

/-- A GO-BUTTON or HALT-BUTTON edge: the cue of the last-ARM context record, none while that is empty (R164). -/
def armedButton (kind : CueKind) (s : State) : State :=
  match s.lastArm with
  | none => s
  | some a => buttonCue kind a.number a.mask s

/-! ## What an edge does (R44, R97, R109, R125) -/

/-- The LIMIT edge of a seeking axis that ends the seek in its present direction and gives no cause: that of the end toward
which it moves, and that of the low end during the high seek (R109, R126; DEDUCED, log 35). -/
def endInput (c : CalState) (highEnd : Bool) : Bool :=
  match c, highEnd with
  | .seekLow, false => true
  | .seekHigh, _ => true
  | _, _ => false

/-- A LIMIT line becoming active (R109, R125, R126). -/
def limitEdge (i : AxisNo) (highEnd : Bool) (s : State) : State :=
  if endInput s.axes[i].lens.cal.state highEnd then endDirection i s else giveCause .limit .cut s

/-- The function of a line acts on its edge (R44): buttons not on a first qualified level, CREW-TRIP lines on either edge,
the others on an edge to active. -/
def lineActs (f : LineFunction) (group : GroupNo) (first active : Bool) (s : State) : State :=
  match f with
  | .crewTrip => judgeGroup group s
  | .limit i highEnd => if active then limitEdge i highEnd s else s
  | .driveFault _ => giveCauseIf active .driveFault .cut s
  | .stopButton => giveCauseIf active .operator .hold s
  | .goButton => if active && !first then armedButton .go s else s
  | .haltButton => if active && !first then armedButton .halt s else s
  | .resumeButton => if active && !first then buttonCue .resume 0 s.cfg.roster s else s
  | _ => s

/-- A qualified edge of a line, and what its function does (R39, R44). -/
def qualifiedEdgeWork (k : LineNo) (s : State) : State :=
  let c := s.cfg.lines[k]
  let l := s.lines[k]
  lineActs c.function c.group (decide (l.qualified = none)) (decide (l.raw = c.activeHigh))
    { s with lines := s.lines.set k (l.qualify c) }

end Sys2Proof.Machine
end

