-- ==== Sys2Proof/Machine/Takes.lean ====
section
/-! DEFINITION. The Take Sequencer (chapter 10) and what a cue does at its owner: arming, GO, HALT, DISARM, the play step,
recording, erase and calibrate cues. -/

namespace Sys2Proof.Machine

/-! ## The record (R166) -/

/-- The record at its reset values, the counters and the own cue sequence kept (R171, R179). -/
def Tkq.cleared (q : Tkq) : Tkq := { armIgnored := q.armIgnored, goDeclined := q.goDeclined, cueSeq := q.cueSeq }

/-- The record of a refused arming (R167; the fields that the rule does not name take their reset values, log 17). -/
def Tkq.refuse (mode : TakeMode) (c : CueMsg) (r : RefusalReason) (q : Tkq) : Tkq :=
  { q.cleared with state := .refused, mode := some mode, number := c.number, mask := c.mask, reason := some r }

/-- An arming is taken in this state (R167). -/
def TakeState.takesArm : TakeState → Bool
  | .idle | .ended | .aborted | .refused => true
  | .armed | .preroll | .ready | .running | .waiting => false

/-- The take state is RUNNING or WAITING. -/
def TakeState.underWay : TakeState → Bool
  | .running | .waiting => true
  | _ => false

/-! ## Samples (R172, R173) -/

/-- The sample value of an axis as it stands: the commanded count, or the last lens unit and 0 while that is none. -/
def State.sampleNow (s : State) (i : AxisNo) : Int :=
  if s.isLens i then ((s.axes[i].lens.lastUnit.getD 0 : Nat) : Int) else s.axes[i].mpr.count

/-- One word for each listed axis. -/
def State.samplesNow (s : State) : List Int := s.tkq.axes.map s.sampleNow

/-! ## Arming (R167 to R169) -/

/-- The checks common to both kinds (R167). -/
def State.armCommon (s : State) (c : CueMsg) : Option RefusalReason :=
  if s.stop.state ≠ .run then some .stopped
  else if !validNumber c.number then some .badNumber
  else if c.mask &&& ~~~s.cfg.roster ≠ 0 then some .notRoster
  else none

/-- Every MOTION or LENS axis with its takeable flag set (R168). -/
def State.takeableAxes (s : State) : List AxisNo := allAxes.filter fun i => s.used i && s.cfg.axes[i].takeable

/-- The checks of ARM-RECORD after the common ones (R168). -/
def State.armRecordOnly (s : State) (c : CueMsg) : Option RefusalReason :=
  if s.takeableAxes.isEmpty then some .noAxis
  else if (s.tks.find c.number).isSome then some .takeExists
  else if s.tks.lowestEmpty.isNone then some .dirFull
  else none

/-- An arming to record (R167, R168). -/
def armRecordTake (c : CueMsg) (s : State) : State :=
  if !s.tkq.state.takesArm then { s with tkq := { s.tkq with armIgnored := satInc s.tkq.armIgnored } }
  else setTake (match (s.armCommon c).or (s.armRecordOnly c) with
    | some r => s.tkq.refuse .record c r
    | none =>
      { s.tkq.cleared with
        state := .armed, mode := some .record, number := c.number, mask := c.mask,
        period := (periodOf c.parameter.toNat).getD 10, axes := s.takeableAxes }) s

/-- A listed axis passes the bounds check of ARM-PLAY with its recorded minimum and maximum (R169). -/
def State.inBounds (s : State) (i : AxisNo) (v : AxisStat) : Bool :=
  if s.isLens i then decide (0 ≤ v.minimum ∧ v.maximum ≤ 65535)
  else decide (s.cfg.axes[i].softLow ≤ v.minimum ∧ v.maximum ≤ s.cfg.axes[i].softHigh)

/-- The checks of ARM-PLAY on the entry that has the number (R169). -/
def State.armPlayEntry (s : State) (e : DirEntry) : Option RefusalReason :=
  if e.state = .recording then some .noTake
  else if (e.axes.any fun i => !s.used i) || !(e.axes.any fun i => s.cfg.axes[i].takeable) then some .noAxis
  else if e.axes.any fun i => s.isLens i && decide (s.axes[i].lens.cal.state ≠ .calibrated) then some .notCalibrated
  else if (e.axes.zip (e.stats.getD [])).all fun p => s.inBounds p.1 p.2 then none
  else some .bounds

/-- The directory entry with a take number. -/
def Tks.entry (t : Tks) (number : Byte) : Option DirEntry := (t.find number).map fun i => t.dir[i]

/-- The checks of ARM-PLAY after the common ones (R169). -/
def State.armPlayOnly (s : State) (c : CueMsg) : Option RefusalReason :=
  match s.tks.entry c.number with
  | none => some .noTake
  | some e => s.armPlayEntry e

/-! ## Targets of play (R169, R175) -/

/-- The value of a listed axis at sample time t: interpolated between two samples, the last sample from there on (R175). -/
def Tks.valueAt (tk : Tks) (e : DirEntry) (period t : Nat) (i : AxisNo) : Int :=
  let j := t / period
  let a := tk.sampleValue e j (e.axes.idxOf i)
  if j + 1 < e.length then
    a + ((tk.sampleValue e (j + 1) (e.axes.idxOf i) - a) * ((t % period : Nat) : Int)).tdiv (period : Int)
  else a

/-- The target count of a value: the lens map of a lens unit for a LENS axis, the count itself for a MOTION axis
(R169, R175). -/
def State.targetCount (s : State) (i : AxisNo) (value : Int) : Option Int :=
  if s.isLens i then mapUnit s.cfg.axes[i] s.axes[i].lens value.toNat else some value

/-- The value of an axis in the armed take at the take time. -/
def State.playValue (s : State) (i : AxisNo) : Int :=
  match s.tks.entry s.tkq.number with
  | none => 0
  | some e => s.tks.valueAt e s.tkq.period s.tkq.t i

/-- A LENS axis for which a lens unit has been mapped into a target count: the unit is its last lens unit (R99), and the
count is at once its held target count (R53, R103). -/
def AxisState.mapped (unit : Nat) (count : Int) (a : AxisState) : AxisState :=
  { a with lens := { a.lens with lastUnit := some unit }, dsl := { a.dsl with held := some count } }

/-- The targets of the claimed axes formed from the take time and handed on (R99, R103, R169, R175). -/
def handTargets (s : State) : State :=
  let goal := Vector.ofFn fun i => if s.claims i then s.targetCount i (s.playValue i) else s.tkq.goal[i]
  { s with
    tkq := { s.tkq with goal := goal }
    axes := Vector.ofFn fun i =>
      match s.targetCount i (s.playValue i) with
      | some x => if s.claims i && s.isLens i then s.axes[i].mapped (s.playValue i).toNat x else s.axes[i]
      | none => s.axes[i] }

/-- An arming to play (R167, R169). -/
def armPlayTake (c : CueMsg) (s : State) : State :=
  if !s.tkq.state.takesArm then { s with tkq := { s.tkq with armIgnored := satInc s.tkq.armIgnored } }
  else match (s.armCommon c).or (s.armPlayOnly c), s.tks.entry c.number with
    | none, some e =>
      handTargets (setTake { s.tkq.cleared with
        state := .preroll, mode := some .play, number := c.number, mask := c.mask, period := e.period,
        axes := e.axes, length := e.length } s)
    | r, _ => setTake (s.tkq.refuse .play c (r.getD .noTake)) s

/-! ## Pre-roll (R170) -/

/-- The pre-roll marks after the profiler computations: a claimed axis that is at target is marked (R170). -/
def State.prerollMarks (s : State) : Vector Bool 4 :=
  Vector.ofFn fun i => s.tkq.arrived[i] || (s.claims i && s.axes[i].mpr.atTarget)

/-- PREROLL becomes READY when every claimed axis is marked (R170). -/
def judgePreroll (s : State) : State :=
  if s.tkq.state = .preroll then
    setTake { s.tkq with
      arrived := s.prerollMarks
      state := if allAxes.all fun i => !s.claims i || s.prerollMarks[i] then .ready else .preroll } s
  else s

/-! ## GO, HALT, DISARM (R172, R178, R179) -/

/-- Every other participant reports READY with the armed number (R172). -/
def State.othersReady (s : State) : Bool :=
  s.otherParticipants.all fun st =>
    decide (s.peers[st].takeState = .ready) && decide (s.peers[st].takeNumber = s.tkq.number)

/-- The record as a take starts to run (R172). -/
def Tkq.start (q : Tkq) : Tkq := { q with state := .running, t := 0, lag := Vector.replicate 4 false, holdTimer := 0 }

/-- GO in ARMED: the recording opens with sample 0, or ends at once where the store is full (R153, R172). -/
def goRecord (s : State) : State :=
  let s1 := setTake s.tkq.start s
  let opened := s1.tks.openTake s1.tkq.number s1.tkq.period s1.tkq.axes s1.samplesNow
  let s2 := setStore opened.1 s1
  setTake (if opened.2 then { s2.tkq with state := .ended, endKind := some .storeFull } else s2.tkq) s2

/-- GO in READY: the take runs where every other participant is ready, and one of length 1 ends at once (R172). -/
def goPlay (s : State) : State :=
  if s.othersReady then
    let s1 := setTake s.tkq.start s
    setTake (if s1.tkq.length = 1 then { s1.tkq with state := .ended, endKind := some .endReached } else s1.tkq) s1
  else { s with tkq := { s.tkq with goDeclined := satInc s.tkq.goDeclined } }

/-- A new GO cue (R172). -/
def goTake (c : CueMsg) (s : State) : State :=
  if c.number ≠ s.tkq.number then s
  else match s.tkq.state, s.tkq.mode with
    | .armed, some .record => goRecord s
    | .ready, some .play => goPlay s
    | _, _ => s

/-- The stopping point of an axis (R178). -/
def stoppingPoint (a : Nat) (m : Mpr) : Int := countOf (m.p + m.v.sign * (m.v * m.v / (2 * (a : Int))))

/-- The goals of a halted play take: each claimed axis's stopping point (R178). -/
def State.haltGoals (s : State) : Vector (Option Int) 4 :=
  Vector.ofFn fun i => if s.claims i then some (stoppingPoint s.cfg.axes[i].a s.axes[i].mpr) else s.tkq.goal[i]

/-- The take ended by HALT (R178); an append that was still due is dropped with the recording (R173; DESIGN CHOICE, log 2). -/
def haltNow (s : State) : State :=
  let s1 := endRecordingNow true s
  setTake { s1.tkq with state := .ended, endKind := some .halted, goal := s.haltGoals, appendDue := false } s1

/-- A new HALT cue (R178). In READY it is ignored as R178 states, although R170 lists HALT among the ways out of READY
(DESIGN CHOICE, log 33). -/
def haltTake (c : CueMsg) (s : State) : State :=
  if c.number = s.tkq.number ∧ s.tkq.state.underWay = true then haltNow s else s

/-- The station's take returned to IDLE, its claim and reservation ended (R171, R179). -/
def idleTake (s : State) : State := setTake s.tkq.cleared s

/-- A new DISARM cue; a recording is closed first (R179). -/
def disarmTake (c : CueMsg) (s : State) : State :=
  if (c.number = s.tkq.number ∨ c.number = 0) ∧ s.tkq.state ≠ .idle then idleTake (endRecordingNow true s) else s

/-! ## Aborts (R171, R177) -/

/-- The take aborts WITHOUT-STOP (R177); an append that was still due is dropped (log 2). -/
def abortWithoutStop (s : State) : State :=
  let s1 := endRecordingNow false s
  setTake { s1.tkq with state := .aborted, abortKind := some .withoutStop, appendDue := false } s1

/-- What a STATUS of another participant does to the take when it is taken (R171, R177). -/
def participantSeen (st : StationNo) (m : StatusMsg) (s : State) : State :=
  if names s.tkq.mask st.val && decide (st ≠ s.cfg.own) && decide (m.number = s.tkq.number) then
    match s.tkq.state with
    | .armed | .preroll | .ready => if m.take = .refused ∨ m.take = .aborted then idleTake s else s
    | .running | .waiting => if m.take = .aborted then abortWithoutStop s else s
    | _ => s
  else s

/-! ## The step of a control period (R173 to R176) -/

/-- Another participant keeps the take waiting: t exceeds its estimate by more than the skew window, and it has not ended
the armed take (R174). -/
def State.heldBy (s : State) (st : StationNo) : Bool :=
  !(decide (s.peers[st].takeState = .ended) && decide (s.peers[st].takeNumber = s.tkq.number))
    && decide (s.tkq.t > s.estimate st + s.cfg.skewWindow)

/-- The hold test (R174). -/
def State.holds (s : State) : Bool :=
  (allAxes.any fun i => s.claims i && s.tkq.lag[i]) || s.otherParticipants.any s.heldBy

/-- The lag mark of an axis after the tracking distance is judged (R176). -/
def lagAfter (tolerance : Nat) (distance : Nat) (mark : Bool) : Bool :=
  if distance > tolerance then true else if distance ≤ tolerance / 2 then false else mark

/-- The lag marks judged (R176). -/
def judgeLag (s : State) : State :=
  let lag := Vector.ofFn fun i =>
    match s.tkq.goal[i] with
    | some x =>
      if s.claims i then lagAfter s.cfg.axes[i].tolerance (x - s.axes[i].mpr.count).natAbs s.tkq.lag[i] else s.tkq.lag[i]
    | none => s.tkq.lag[i]
  { s with tkq := { s.tkq with lag := lag } }

/-- One more millisecond of take time. -/
def Tkq.advance (q : Tkq) : Tkq := { q with t := min (q.t + 1) 16777215 }

/-- The hold timer has exceeded the hold limit: the take is to abort (R174, R177). -/
def State.holdLimitDue (s : State) : Bool :=
  decide (s.tkq.mode = some .play) && s.tkq.state.underWay && decide (s.tkq.holdTimer > s.cfg.holdLimit)

/-- The step of play (R174): holding, or advancing; then targets and tracking. A hold past the limit leaves the rest to
HOLD_LIMIT, which comes after this boundary's computation, so that the abort's VELOCITY 0 acts one computation later: R174 and
R175 leave open on which side of it the abort acts (DESIGN CHOICE, log 2). -/
def playStep (s : State) : State :=
  if s.holds then
    let s1 : State := { s with tkq := { s.tkq with holdTimer := min (s.tkq.holdTimer + 1) 5001 } }
    if s1.holdLimitDue then s1 else judgeLag (handTargets (setTake { s1.tkq with state := .waiting } s1))
  else
    let s1 := setTake { s.tkq with holdTimer := 0, state := .running } s
    judgeLag (handTargets { s1 with tkq := s1.tkq.advance })

/-- The step of a recording: t advances, and an append is due at each multiple of P (R173). -/
def recordStep (s : State) : State :=
  let q := s.tkq.advance
  { s with tkq := { q with appendDue := decide (q.t % q.period = 0) } }

/-- The take's step at a control period boundary (R173, R174). -/
def takeStep (s : State) : State :=
  if s.tkq.state.underWay then
    match s.tkq.mode with
    | some .play => playStep s
    | some .record => recordStep s
    | none => s
  else s

/-- The end of the take has been reached (R175). -/
def State.endDue (s : State) : Bool :=
  decide (s.tkq.mode = some .play) && decide (s.tkq.state = .running)
    && decide ((s.tkq.length - 1) * s.tkq.period ≤ s.tkq.t)

/-- The take ends by END-REACHED (R175). -/
def endReachedWork (s : State) : State := setTake { s.tkq with state := .ended, endKind := some .endReached } s

/-- The append of this period, which ends the take where the store is full (R154, R173). The sample takes the values as they
stand then, after the profiler's computations of the boundary at which it fell due (DESIGN CHOICE, log 2). -/
def appendWork (s : State) : State :=
  let r := s.tks.appendTo s.tkq.number s.samplesNow
  let s1 := setStore r.1 { s with tkq := { s.tkq with appendDue := false } }
  setTake (if r.2 then { s1.tkq with state := .ended, endKind := some .storeFull } else s1.tkq) s1

/-! ## Erase (R157) -/

/-- A take is in use (R157). -/
def State.inUse (s : State) (number : Byte) : Bool :=
  decide (number = s.tkq.number) && decide (s.tkq.state ≠ .idle) && decide (s.tkq.state ≠ .refused)

/-- The entry that an erase of a number would find (R157). -/
def State.erasable (s : State) (number : Byte) : Option EntryNo := if validNumber number then s.tks.find number else none

/-- A new ERASE cue (R157). -/
def eraseCue (c : CueMsg) (s : State) : State :=
  match s.erasable c.number with
  | none => s
  | some i =>
    if s.inUse c.number then { s with tks := { s.tks with eraseIgnored := satInc s.tks.eraseIgnored } }
    else setStore (s.tks.eraseEntry i) s

/-! ## Calibrate (R105) -/

/-- A CALIBRATE cue judged for one axis of its mask (R105). -/
def calibrateAxis (i : AxisNo) (s : State) : State :=
  if s.isLens i && decide (s.stop.state = .run) && !s.claims i && !s.axes[i].seeking then startSeek i s
  else { s with calIgnored := satInc s.calIgnored }

/-- A new CALIBRATE cue (R105); bits 4 to 7 of its axis mask are not assigned (R194). -/
def calibrateCue (c : CueMsg) (s : State) : State :=
  allAxes.foldl (fun t i => if names c.parameter i.val then calibrateAxis i t else t) s

/-! ## The judging of a cue (R165) -/

/-- What the owner of a new cue does with it (R165). -/
def dispatchCue (c : CueMsg) (s : State) : State :=
  match c.kind with
  | .armRecord => armRecordTake c s
  | .armPlay => armPlayTake c s
  | .go => goTake c s
  | .halt => haltTake c s
  | .disarm => disarmTake c s
  | .resume => evaluateResume s
  | .erase => eraseCue c s
  | .calibrate => calibrateCue c s

/-- The last-ARM context record after a cue (R37). -/
def armContextAfter (sender : StationNo) (c : CueMsg) (old : Option ArmContext) : Option ArmContext :=
  match c.kind with
  | .armRecord =>
    some { record := true, number := c.number, mask := c.mask, period := periodOf c.parameter.toNat, sender := sender }
  | .armPlay => some { record := false, number := c.number, mask := c.mask, period := none, sender := sender }
  | _ => old

/-- A cue heard, received or the own one handed back: recorded in the sender's entry and in the last-ARM record (R36,
R37), and acted on unless it is a repeat or does not name the own station (R165). -/
def takeCue (sender : StationNo) (c : CueMsg) (s : State) : State :=
  let isRepeat := decide (s.peers[sender].cueSeq = some c.seq)
  let s1 : State := { s with
    peers := s.peers.set sender { s.peers[sender] with cueSeq := some c.seq }
    lastArm := armContextAfter sender c s.lastArm }
  if !isRepeat && names c.mask s.cfg.own.val then dispatchCue c s1 else s1

end Sys2Proof.Machine
end

