-- ==== Sys2Proof/Machine/Feedback.lean ====
section
/-! DEFINITION. The Feedback Unit's encoder links (5.1 to 5.3) and the AXIS messages (R38). -/

namespace Sys2Proof.Machine

/-! ## One read (R83) -/

/-- The result of a read; GOOD carries the raw value and the warning bit. -/
inductive ReadResult where
  | noStart
  | check
  | error
  | good (raw : Nat) (warning : Bool)
deriving DecidableEq, Repr

/-- The place of the start bit: the first sample of value 1 among the first four. -/
def startPlace (samples : List Bool) : Option Nat :=
  let n := (samples.take 4).takeWhile (! ·)
  if n.length < (samples.take 4).length then some n.length else none

/-- The samples of a burst of W + 12 cycles from what the data line shows: it is not sampled after the burst, and where
nothing drives it it rests at 0 (R83; log 29). -/
def burstOf (positionBits : Nat) (shown : List Bool) : List Bool :=
  (shown ++ List.replicate (positionBits + 12) false).take (positionBits + 12)

/-- A read of a link with this many position bits, from what the data line shows (R83). -/
def readSamples (positionBits : Nat) (shown : List Bool) : ReadResult :=
  let samples := burstOf positionBits shown
  match startPlace samples with
  | none => .noStart
  | some k =>
    let frame := samples.drop (k + 1)
    let covered := frame.take (positionBits + 2)
    if (crc6 covered).toNat ≠ bitsNat ((frame.drop (positionBits + 2)).take 6) then .check
    else if covered.getD positionBits false then .error
    else .good (bitsNat (covered.take positionBits)) (covered.getD (positionBits + 1) false)

/-- The measured position of a GOOD read: the raw value less the origin (R84). -/
def ReadResult.position (origin : Nat) : ReadResult → Option Int
  | .good raw _ => some ((raw : Int) - origin)
  | _ => none

/-- A GOOD read sets the warning to its warning bit; a bad read leaves it (R83). -/
def ReadResult.warningAfter (warning : Bool) : ReadResult → Bool
  | .good _ w => w
  | _ => warning

/-! ## What a read does to a link (R84, R85, R88, R89) -/

/-- The later of two optional values, the newer where it is there. -/
def newer {α : Type} (new old : Option α) : Option α := new.or old

/-- A read in SEARCH or LOST: the dwell counts it, and judges it among reads 17 to 32 (R85). -/
def Link.readSearching (position : Option Int) (l : Link) : Link :=
  { l with
    dwell := min (l.dwell + 1) 32
    dwellBad := if position.isNone ∧ 16 ≤ l.dwell ∧ l.dwell < 32 then l.dwellBad + 1 else l.dwellBad
    lastGood := newer position l.lastGood }

/-- A bad read leaves the frame error counter at or above the alert threshold (R92). -/
def Link.alerts (c : AxisCfg) (l : Link) : Bool :=
  decide (c.alertThreshold ≠ 0) && decide (c.alertThreshold ≤ satInc l.frameErrors)

/-- A read while LOCKED, before the window is judged (R88, R92). -/
def Link.readLocked (c : AxisCfg) (position : Option Int) (l : Link) : Link :=
  { l with
    window := min (l.window + 1) 32
    windowBad := if position.isNone then l.windowBad + 1 else l.windowBad
    measured := newer position l.measured
    lastGood := newer position l.lastGood
    frameErrors := if position.isNone then satInc l.frameErrors else l.frameErrors
    alert := l.alert || (position.isNone && l.alerts c) }

/-- The link as it leaves LOCKED (R89). -/
def Link.lose (c : AxisCfg) (l : Link) : Link :=
  { l with
    state := .lost, delay := c.floorDelay, pass := 0, dwell := 0, dwellBad := 0, window := 0, windowBad := 0,
    frameErrors := 0 }

/-- A link after a read (R84, R85, R88, R89). In FAULT no read is made. -/
def Link.read (c : AxisCfg) (r : ReadResult) (l : Link) : Link :=
  let w : Link := { l with warning := r.warningAfter l.warning }
  let position := r.position c.origin
  match l.state with
  | .search | .lost => w.readSearching position
  | .locked =>
    let t := w.readLocked c position
    if t.windowBad > c.badThreshold then t.lose c else t
  | .fault => l

/-- A read of this result sets COUNTER-ALERT (R92). -/
def Link.readAlerts (c : AxisCfg) (r : ReadResult) (l : Link) : Bool :=
  l.valid && (r.position c.origin).isNone && l.alerts c

/-! ## Dwells and windows (R85 to R88) -/

/-- A dwell is to be judged. -/
def Link.dwellDue (l : Link) : Bool := (decide (l.state = .search) || decide (l.state = .lost)) && decide (l.dwell = 32)

/-- A dwell judged: the link locks, or the setting advances and wraps to the floor, and the third wrap is FAULT
(R85 to R87). -/
def Link.judgeDwell (c : AxisCfg) (l : Link) : Link :=
  if l.dwellBad ≤ c.badThreshold then
    { l with state := .locked, measured := l.lastGood, pass := 0, dwell := 0, dwellBad := 0, window := 0, windowBad := 0 }
  else if l.delay < 15 then { l with delay := l.delay + 1, dwell := 0, dwellBad := 0 }
  else
    { l with
      state := if l.pass + 1 = 3 then .fault else l.state
      delay := c.floorDelay, pass := l.pass + 1, dwell := 0, dwellBad := 0 }

/-- A window has been filled without passing the threshold. -/
def Link.windowDue (c : AxisCfg) (l : Link) : Bool :=
  decide (l.state = .locked) && decide (l.window = 32) && decide (l.windowBad ≤ c.badThreshold)

/-- The next window begins (R88). -/
def Link.nextWindow (l : Link) : Link := { l with window := 0, windowBad := 0 }

/-! ## The events of a link -/

/-- The link of an axis replaced; a change of its state or warning sets ENC-CHANGE (R82). -/
def setLink (i : AxisNo) (l : Link) (s : State) : State :=
  { s with
    axes := s.axes.set i { s.axes[i] with link := l }
    svp := s.svp.raiseIf (decide (l.state ≠ s.axes[i].link.state) || decide (l.warning ≠ s.axes[i].link.warning)) flagEncChange }

/-- The zones at the end of a read or at a change of a link's state: those that qualify on the axis re-formed, then those
that guard it tested (R117, R119). The spec does not order the two for a zone that both qualifies on the axis and guards it: a
zone that the re-forming turns inactive is not tested here (DESIGN CHOICE, log 12). -/
def linkZones (i : AxisNo) (s : State) : State := testZones i (reformZones (s.zonesOfAxis s.cfg.own i) s)

/-- The travel test of a seek finds the distance above the maximum span plus the guard (R110). -/
def travelTooFar (c : AxisCfg) (a : AxisState) : Bool :=
  a.seeking && (match a.link.measured, a.lens.cal.seekStart with
    | some m, some m0 => decide ((m - m0).natAbs > c.maxSpan + c.guardBand)
    | _, _ => false)

/-- The travel test (R110). -/
def testTravel (i : AxisNo) (s : State) : State :=
  if travelTooFar s.cfg.axes[i] s.axes[i] then failSeek i .noEnd s else s

/-- A dwell end of an axis (R85 to R87). -/
def dwellWork (i : AxisNo) (s : State) : State := linkZones i (setLink i (s.axes[i].link.judgeDwell s.cfg.axes[i]) s)

/-- A window end of an axis (R88). -/
def windowWork (i : AxisNo) (s : State) : State := s.modAxis i fun a => { a with link := a.link.nextWindow }

/-- The read of this period is still to be made on the link of an axis: none is made in FAULT, and an UNUSED axis has no
link (R83, R86). -/
def State.readDue (s : State) (i : AxisNo) : Bool :=
  s.due.reads[i] && s.used i && decide (s.axes[i].link.state ≠ .fault)

/-- The end of the encoder read of the period (R83 to R92, R110, R119). -/
def encoderWork (i : AxisNo) (samples : List Bool) (s : State) : State :=
  let c := s.cfg.axes[i]
  let r := readSamples c.positionBits samples
  let lost := s.axes[i].link.valid && !(s.axes[i].link.read c r).valid
  let s1 := setLink i (s.axes[i].link.read c r) { s with
    due := { s.due with reads := s.due.reads.set i false }
    svp := s.svp.raiseIf (s.axes[i].link.readAlerts c r) flagCounterAlert }
  linkZones i (testTravel i (giveCauseIf (lost && s.axes[i].drive.enable) .encLost .cut s1))

/-! ## AXIS messages (R26, R38) -/

/-- The velocity of an AXIS message (R38). -/
def axisVelocity (periodMs : Nat) (now before : Option Int) : Int :=
  match now, before with
  | some x, some y => clampInt ((x - y).tdiv (periodMs : Int)) (-32768) 32767
  | _, _ => 0

/-- The AXIS message of an axis (R38). -/
def axisMessage (periodMs : Nat) (a : AxisState) : AxisMsg :=
  { position := a.link.measured.getD 0, velocity := axisVelocity periodMs a.link.validPosition a.prevPos,
    valid := a.link.valid, atTarget := a.mpr.atTarget, driveOn := a.drive.enable }

/-- An AXIS message taken into a report (R26, R27). -/
def AxisReport.of (m : AxisMsg) (now : Nat) : AxisReport :=
  { position := m.position, velocity := m.velocity, valid := m.valid, atTarget := m.atTarget, driveOn := m.driveOn,
    arrival := some now }

/-- The own entry's axis reports after an axis period. -/
def State.ownReports (s : State) : Vector AxisReport 4 :=
  Vector.ofFn fun i =>
    if s.used i then .of (axisMessage s.cfg.axisPeriod s.axes[i]) s.time else s.peers[s.cfg.own].reports[i]

/-- The work of an axis period: each configured axis's message is placed and mirrored (R26, R38). -/
def axisWork (s : State) : State :=
  { s with
    lif := allAxes.foldl (fun l i => if s.used i then l.placeAxis i (axisMessage s.cfg.axisPeriod s.axes[i]) else l) s.lif
    peers := s.peers.set s.cfg.own { s.peers[s.cfg.own] with reports := s.ownReports }
    axes := Vector.ofFn fun i => { s.axes[i] with prevPos := s.axes[i].link.validPosition }
    due := { s.due with axis := false } }

end Sys2Proof.Machine
end

