-- ==== Sys2Proof/Machine/Frames.lean ====
section
/-! DEFINITION. Received frames: the receive judgement (R9, R196), the duplicate station (R23), the Peer Table (R27 to R31,
R36), the reception of a STOP (R135), and what the other blocks do with a frame. -/

namespace Sys2Proof.Machine

/-! ## The receive judgement (R9) -/

/-- How a frame is judged: discarded under a row of the table of R9, or received. -/
inductive Verdict where
  | formatError | checkFailure | unknownClass | duplicate | received
deriving DecidableEq, Repr

/-- A payload content that R196 refuses. -/
def Frame.refusedContent (f : Frame) : Bool :=
  match f.cls with
  | 0 => match parseStop f.wire.payload with
      | none => true
      | some m => decide (m.origin ≠ f.wire.sender)
  | 1 | 5 => (parseStatus f.wire.payload).isNone
  | 2 => (parseCue f.wire.payload).isNone
  | _ => false

/-- The class allows index 0 alone (R4). -/
def indexZeroOnly (cls : Fin 8) : Bool :=
  match cls with
  | 0 | 1 | 2 | 5 => true
  | _ => false

/-- The rows of R9 after the check row, in order; own is the own station number where the duplicate test applies. -/
def Frame.judgeContent (own : Option StationNo) (f : Frame) : Verdict :=
  match classLength f.cls with
  | none => .unknownClass
  | some n =>
    if f.wire.length.val ≠ n then .formatError
    else if indexZeroOnly f.cls && decide (f.wire.index ≠ 0) then .formatError
    else if f.refusedContent then .formatError
    else if own = some f.wire.sender then .duplicate
    else .received

/-- The frame was received to its acknowledge cell: its length is legal and no idle cell came before (R2, R3). -/
def Frame.whole (f : Frame) : Bool := decide (f.wire.length.val ≤ 8) && !f.wire.idleInside

/-- The judgement of a frame (R9). -/
def Frame.judge (own : Option StationNo) (f : Frame) : Verdict :=
  if !f.whole then .formatError
  else if !checkPasses f then .checkFailure
  else f.judgeContent own

/-- The judgement of the rest of a frame of which the station abandoned its own copy: a failed check is not counted
(R6; log 16). -/
def Frame.judgeLate (own : Option StationNo) (f : Frame) : Option Verdict :=
  if f.whole && !checkPasses f then none else some (f.judge own)

/-- A check failure leaves the window count at or above an armed threshold (R20). -/
def Lif.checkAlerts (threshold : Nat) (l : Lif) : Bool :=
  decide (threshold ≠ 0) && decide (threshold ≤ satInc l.windowCount)

/-- A frame counted under its verdict (R9, R19). -/
def Lif.countVerdict (v : Verdict) (l : Lif) : Lif :=
  { l with
    formatErrors := if v = .formatError then satInc l.formatErrors else l.formatErrors
    checkFailures := if v = .checkFailure then satInc l.checkFailures else l.checkFailures
    unknownClass := if v = .unknownClass then satInc l.unknownClass else l.unknownClass }

/-- A check failure in the check window of an operating station (R20; log 26). -/
def Lif.countWindow (threshold : Nat) (failed : Bool) (l : Lif) : Lif :=
  { l with
    windowCount := if failed then satInc l.windowCount else l.windowCount
    thresholdFlag := l.thresholdFlag || (failed && l.checkAlerts threshold) }

/-! ## Presence (R28 to R31) -/

/-- The station is in the configured roster. -/
def State.inRoster (s : State) (st : StationNo) : Bool := names s.cfg.roster st.val

/-- The sequences of a station that begins afresh (R29, R30). -/
def PeerEntry.forget (e : PeerEntry) : PeerEntry :=
  { e with cueSeq := none, demandSeq := Vector.replicate 4 none }

/-- A STATUS that shows a restart (R30). -/
def PeerEntry.restarts (m : StatusMsg) (e : PeerEntry) : Bool :=
  m.startFlag && decide (e.presence = .present) && !e.marker

/-- The presence of an entry after a STATUS; late tells that the time since the last one has exceeded the liveness
timeout, in which a JOINING entry has gone LOST first (R28, R29; log 28). -/
def PeerEntry.heard (m : StatusMsg) (late : Bool) (e : PeerEntry) : PeerEntry :=
  if e.restarts m then { e.forget with presence := .joining, count := 1 }
  else match e.presence with
    | .absent => { e with presence := .joining, count := 1 }
    | .lost => { e.forget with presence := .joining, count := 1 }
    | .joining =>
      if late then { e.forget with presence := .joining, count := 1 }
      else if e.count < 2 then { e with count := 2 }
      else { e with presence := .present, count := 3 }
    | .present => { e with count := 3 }

/-- The entry stores a STATUS (R29). -/
def PeerEntry.store (m : StatusMsg) (now : Nat) (e : PeerEntry) : PeerEntry :=
  { e with last := some m, arrival := now, marker := m.startFlag }

/-- The liveness timer of a peer has expired: a JOINING or PRESENT entry silent for longer than the timeout (R28). -/
def State.silent (s : State) (st : StationNo) : Bool :=
  decide (st ≠ s.cfg.own)
    && (decide (s.peers[st].presence = .joining) || decide (s.peers[st].presence = .present))
    && decide (s.timeSince st > s.cfg.liveness)

/-- What the blocks that read an entry do at a STATUS of its station, or at a change of its presence (R55, R117). -/
def peerReaders (presenceChanged : Bool) (st : StationNo) (s : State) : State :=
  reformZones (s.zonesOfStation presenceChanged st) (reformGates (s.gatesOfStation presenceChanged st) s)

/-- An entry replaced; a change of its presence sets PEER-CHANGE (R31). -/
def setPeer (st : StationNo) (e : PeerEntry) (changed : Bool) (s : State) : State :=
  { s with peers := s.peers.set st e, svp := s.svp.raiseIf changed flagPeerChange }

/-- A STATUS taken from a peer (R29 to R31), and what its readers do with it: first what it makes of presence, with cause
PEER-RESTART, then the gates and zones that read its entry, and last what it tells of a participant's take (R171, R177).
The spec does not order these (DESIGN CHOICE, log 12). -/
def receiveStatus (st : StationNo) (m : StatusMsg) (s : State) : State :=
  let e := s.peers[st]
  let late := s.silent st
  let e' := (e.heard m late).store m s.time
  let changed := decide (e'.presence ≠ e.presence) || (late && decide (e.presence = .joining))
  let s1 := setPeer st e' changed s
  participantSeen st m (peerReaders (decide (e'.presence ≠ e.presence)) st
    (giveCauseIf (e.restarts m && s.inRoster st) .peerRestart s.cfg.peerLossCategory s1))

/-- A liveness timeout (R28, R31): presence LOST with cause PEER-LOST first, then the gates and zones that read the entry, with
the ZONE-BREACH of a zone that becomes active (R55, R120). 7.8 lets either cause be taken first (DESIGN CHOICE, log 12). -/
def livenessWork (st : StationNo) (s : State) : State :=
  let e := s.peers[st]
  let s1 := setPeer st { e with presence := .lost, count := 0 } true s
  peerReaders true st
    (giveCauseIf (decide (e.presence = .present) && s.inRoster st) .peerLost s.cfg.peerLossCategory s1)

/-! ## The other kinds -/

/-- The age of a peer's report has first exceeded the liveness timeout (R117). -/
def State.reportExpired (s : State) (st : StationNo) (i : AxisNo) : Bool :=
  decide (st ≠ s.cfg.own) && s.peers[st].reports[i].arrival.isSome && decide (s.reportAge st i = s.cfg.liveness + 1)

/-- An AXIS message taken into a peer's report (R27, R117). -/
def receiveAxis (st : StationNo) (i : AxisNo) (m : AxisMsg) (s : State) : State :=
  let e := s.peers[st]
  let s1 : State := { s with peers := s.peers.set st { e with reports := e.reports.set i (.of m s.time) } }
  reformZones (s1.zonesOfAxis st i) s1

/-- The sequence of a DEMAND recorded; one that is not the next one is a gap (R36). -/
def PeerEntry.hearDemand (i : Fin 4) (seq : BitVec 4) (e : PeerEntry) : PeerEntry :=
  let gaps := match e.demandSeq[i] with
    | none => e.gaps
    | some old => if seq = old + 1 then e.gaps else e.gaps.set i (satInc e.gaps[i])
  { e with demandSeq := e.demandSeq.set i (some seq), gaps := gaps }

/-- A DEMAND heard: recorded in the sender's entry, then judged by the Demand Selector (R36, R64). -/
def hearDemand (st : StationNo) (i : Fin 4) (m : DemandMsg) (s : State) : State :=
  receiveDemand st m { s with peers := s.peers.set st (s.peers[st].hearDemand i m.seq) }

/-- A STOP frame is a repeat (R135). -/
def State.stopRepeat (s : State) (m : StopMsg) : Bool :=
  decide (m.copy ≠ 0) && decide (s.stopSeen[m.origin] = some m.seq)

/-- A STOP frame handed to the Stop Controller (R135). -/
def receiveStop (m : StopMsg) (s : State) : State :=
  if m.origin = s.cfg.own ∨ s.stopRepeat m = true then s
  else takeCause false m.origin m.cause m.category { s with stopSeen := s.stopSeen.set m.origin (some m.seq) }

/-- A frame handed to the blocks that take its kind (R9, R10). A STATUS or AXIS frame of the own station leaves the own
entry as it is (R26). -/
def handFrame (f : Frame) (s : State) : State :=
  match f.cls with
  | 0 => match parseStop f.wire.payload with
      | some m => receiveStop m s
      | none => s
  | 1 | 5 => match parseStatus f.wire.payload with
      | some m => if f.wire.sender = s.cfg.own then s else receiveStatus f.wire.sender m s
      | none => s
  | 2 => match parseCue f.wire.payload with
      | some c => takeCue f.wire.sender c s
      | none => s
  | 3 => hearDemand f.wire.sender f.wire.index (parseDemand f.wire.payload) s
  | 4 => if f.wire.sender = s.cfg.own then s
      else receiveAxis f.wire.sender f.wire.index (parseAxis f.wire.payload) s
  | _ => s

/-! ## The duplicate station (R23) -/

/-- Another station carries the own number: permanent mute, with cause DUPLICATE; once in it there is no further effect
(R23). -/
def findDuplicate (s : State) : State :=
  if s.lif.mute = .permanent then s
  else giveCause .duplicate .cut { s with
    lif := s.lif.enterPermanentMute
    svp := s.svp.raiseIf (!s.lif.cues.isEmpty) flagCueFail }

/-! ## A frame at its end (R7, R9) -/

/-- A verdict carried out: the frame is counted, and handed on where it is received (R9, R20, R23). -/
def carryOut (f : Frame) (v : Verdict) (s : State) : State :=
  let failed := decide (v = .checkFailure)
  let s1 : State := { s with
    lif := (s.lif.countVerdict v).countWindow s.cfg.checkThreshold failed
    svp := s.svp.raiseIf (failed && s.lif.checkAlerts s.cfg.checkThreshold) flagCounterAlert }
  match v with
  | .received => handFrame f s1
  | .duplicate => findDuplicate s1
  | _ => s1

/-- The frame stands in the receive buffer; the acknowledge cell is driven where the frame is whole, its check has passed
and nothing keeps the station silent (R7). -/
def Lif.buffer (f : Frame) (acknowledges : Bool) (l : Lif) : Lif :=
  { l with rx := some f, idle := 0, ackDriven := acknowledges && f.whole && checkPasses f && decide (l.mute ≠ .permanent) }

/-- A frame from another transmitter at the end of its acknowledge cell (R7, R9). In CONFIG-FAULT it is judged and counted,
but neither acknowledged nor handed on, and there is no duplicate test (R185); while loading nothing is received (R24). -/
def receiveFrame (f : Frame) (s : State) : State :=
  if s.operating then
    carryOut f (f.judge (some s.cfg.own)) { s with lif := s.lif.buffer f true }
  else if s.cfl.load = .configFault ∧ s.inReset = false then
    { s with lif := (s.lif.buffer f false).countVerdict (f.judge none) }
  else s

/-- The frame step of a row: the frame received, and what every event ends with. -/
def frameStep (f : Frame) (s : State) : State :=
  if s.operating then endEvent (receiveFrame f s) else receiveFrame f s

/-- A received CUE whose kind is another row's. -/
def State.otherCue (s : State) (kind : CueKind) (f : Frame) : Bool :=
  decide (f.judge (some s.cfg.own) = .received) && decide (cueKindOf (payloadByte f.wire.payload 0) ≠ some kind)

/-- The frame step of a CUE row; a received frame of another kind belongs to another row (log 19). -/
def cueStep (kind : CueKind) (w : Wire) (s : State) : State :=
  if s.otherCue kind { cls := 2, wire := w } then s else frameStep { cls := 2, wire := w } s

end Sys2Proof.Machine
end

