-- ==== Sys2Proof/Machine/Attempts.lean ====
section
/-! DEFINITION. The sending side of the Line Interface: start opportunities (R14), the end of an attempt (R5 to R8, R16 to
R18, R21, R22), the probe and the escalation. -/

namespace Sys2Proof.Machine

/-! ## The candidate of a start opportunity (R14, R16, R22) -/

/-- A frame not yet renewed. -/
def TxFrame.of (slot : Slot) (cls : Fin 8) (index : Fin 4) (payload : List Byte) : TxFrame :=
  { slot := slot, cls := cls, index := index, payload := payload, renewed := false }

/-- The class of the STATUS slot (R15). -/
def Lif.statusClass (l : Lif) : Fin 8 := if l.statusUrgent then 1 else 5

/-- The next copy of the STOP slot: the first of a burst at 6 idle cells, a later one at 3 (R14, R16). -/
def Lif.stopCandidate (own : StationNo) (idle : Nat) (l : Lif) : Option TxFrame :=
  l.stop.bind fun x =>
    if 6 ≤ idle ∨ (3 ≤ idle ∧ 0 < x.nextIndex) then
      some (.of .stop 0 0 (stopPayload
        { category := x.category, cause := x.cause, origin := own, copy := x.nextIndex, seq := x.seq }))
    else none

/-- The STATUS slot's frame. -/
def Lif.statusFrame (l : Lif) : Option TxFrame := l.status.map fun m => .of .status l.statusClass 0 (statusPayload m)

/-- The frame with the lowest identifier among the other occupied slots (R14). -/
def Lif.otherCandidate (l : Lif) : Option TxFrame :=
  let urgent := if l.statusUrgent then l.statusFrame else none
  let cue := l.cues.head?.map fun c => TxFrame.of .cue 2 0 (cuePayload c.cue)
  let demand := allAxes.findSome? fun i => l.demand[i].map fun m => TxFrame.of (.demand i) 3 i (demandPayload m)
  let axis := allAxes.findSome? fun i => l.axis[i].map fun m => TxFrame.of (.axis i) 4 i (axisPayload m)
  urgent.or (cue.or (demand.or (axis.or l.statusFrame)))

/-- The probe's frame: the STATUS slot's content, or the content most recently placed there (R22). -/
def Lif.probeCandidate (l : Lif) : Option TxFrame :=
  if l.probeDue then
    (l.status.or l.lastPlaced).map fun m =>
      .of .probe (if l.status.isSome then l.statusClass else 5) 0 (statusPayload m)
  else none

/-- The frame that a start opportunity begins (R14, R21 to R23). -/
def Lif.candidate (own : StationNo) (idle : Nat) (l : Lif) : Option TxFrame :=
  match l.mute with
  | .permanent => none
  | .lineMute => if 6 ≤ idle then l.probeCandidate else none
  | .off => (l.stopCandidate own idle).or (if 6 ≤ idle then l.otherCandidate else none)

/-- A cell boundary with this idle count, while no own frame is on the line: the candidate begins (R14), and the dominant
edge of its start cell sets the idle count to 0 (R2). A probe that has begun is no longer due. -/
def Lif.startFrame (own : StationNo) (idle : Nat) (l : Lif) : Lif :=
  match l.onLine, l.candidate own idle with
  | some _, _ => l
  | none, some f => { l with idle := 0, onLine := some f, probeDue := l.probeDue && decide (f.slot ≠ .probe) }
  | none, none => { l with idle := idle }

/-! ## The outcome of an own frame (R5 to R8) -/

/-- The four outcomes. -/
inductive AttemptResult where
  | lost | bitError | unacked | acked
deriving DecidableEq, Repr

/-- The outcome that a read-back shows from cell k on: the last cell sent is the acknowledge cell, cells 1 to 8 are the
identifier. None where the cells end before an outcome. -/
def readBack : Nat → List Bool → List Bool → Option AttemptResult
  | _, [_], r :: _ => some (if r then .unacked else .acked)
  | k, a :: sent, r :: cells =>
    if a = r then readBack (k + 1) sent cells
    else if 1 ≤ k ∧ k ≤ 8 ∧ a = true then some .lost
    else some .bitError
  | _, _, _ => none

/-- The outcome is a failed attempt. -/
def AttemptResult.failed (r : AttemptResult) : Bool := decide (r = .bitError) || decide (r = .unacked)

/-- The outcome ends an attempt (R8). -/
def AttemptResult.ends (r : AttemptResult) : Bool := decide (r ≠ .lost)

/-- The STOP slot after an attempt (R16). -/
def StopSlot.afterAttempt (x : StopSlot) : Option StopSlot :=
  if x.copies ≤ 1 then none else some { x with copies := x.copies - 1, nextIndex := x.nextIndex + 1 }

/-- The attempt uses up the last attempt of the CUE head (R17). -/
def Lif.dropsCue (f : TxFrame) (r : AttemptResult) (l : Lif) : Bool :=
  decide (f.slot = .cue) && r.failed && (match l.cues with
    | [] => false
    | c :: _ => decide (3 ≤ c.attempts + 1))

/-- The CUE FIFO after an attempt of its head (R17). -/
def cuesAfter (r : AttemptResult) (cues : List CueSlot) : List CueSlot :=
  match cues with
  | [] => []
  | c :: rest =>
    if r = .acked then rest
    else if r.failed then
      if 3 ≤ c.attempts + 1 then rest else { c with attempts := c.attempts + 1 } :: rest
    else c :: rest

/-- The STATUS slot frees at the end of this attempt: its own, or a probe, unless new content was placed (R12, R18, R22). -/
def TxFrame.freesStatus (f : TxFrame) (r : AttemptResult) : Bool :=
  (decide (f.slot = .status) || decide (f.slot = .probe)) && r.ends && !f.renewed

/-- The slots after an own frame has ended, by the attempt rule of its slot (R16 to R18, R22). -/
def Lif.attemptRule (f : TxFrame) (r : AttemptResult) (l : Lif) : Lif :=
  let frees (slot : Slot) : Bool := decide (f.slot = slot) && r.ends && !f.renewed
  { l with
    stop := if frees .stop then l.stop.bind StopSlot.afterAttempt else l.stop
    status := if f.freesStatus r then none else l.status
    statusAge := if f.freesStatus r then 0 else l.statusAge
    statusUrgent := if f.freesStatus r then false else l.statusUrgent
    cues := if f.slot = .cue then cuesAfter r l.cues else l.cues
    droppedCues := if l.dropsCue f r then satInc l.droppedCues else l.droppedCues
    demand := Vector.ofFn fun i => if frees (.demand i) then none else l.demand[i]
    axis := Vector.ofFn fun i => if frees (.axis i) then none else l.axis[i]
    probeDue := l.probeDue || (decide (f.slot = .probe) && !r.ends) }

/-- The counters and the consecutive failure count after an own frame has ended; a probe that is acknowledged ends
LINE-MUTE (R19, R21, R22). -/
def Lif.countAttempt (f : TxFrame) (r : AttemptResult) (l : Lif) : Lif :=
  { l with
    onLine := none
    idle := 0
    arbitrationLosses := if r = .lost then satInc l.arbitrationLosses else l.arbitrationLosses
    bitErrors := if r = .bitError then satInc l.bitErrors else l.bitErrors
    unacknowledged := if r = .unacked then satInc l.unacknowledged else l.unacknowledged
    failures := if r = .acked then 0 else if r.failed then min (l.failures + 1) 16 else l.failures
    mute := if r = .acked ∧ f.slot = .probe ∧ l.mute = .lineMute then .off else l.mute }

/-- The failure count reaches 16: LINE-MUTE, with its cause (R21). -/
def judgeMute (s : State) : State :=
  if s.lif.failures = 16 ∧ s.lif.mute = .off then
    giveCause .lineMute .brake { s with
      lif := s.lif.enterLineMute
      svp := s.svp.raiseIf (!s.lif.cues.isEmpty) flagCueFail }
  else s

/-- An own frame as its own blocks take it (R10). -/
def ownFrame (own : StationNo) (f : TxFrame) : Frame :=
  { cls := f.cls,
    wire := { sender := own, index := f.index, length := Fin.ofNat 16 f.payload.length, payload := f.payload,
              check := lineCheck f.cls own f.index f.payload.length f.payload, idleInside := false } }

/-- The rest of a frame that the station abandoned, received late: no acknowledge and no check failure (R6). Where no other
station drives the frame on, its cells end before the acknowledge cell, and the station counts a format error beside its bit
error, as every receiver does (DEDUCED, log 16). -/
def receiveLate (cells : List Bool) (s : State) : State :=
  let f := frameOfCells cells
  let s1 : State := { s with lif := s.lif.buffer f false }
  match f.judgeLate (some s.cfg.own) with
  | none => s1
  | some v => carryOut f v s1

/-- An own frame has ended: the attempt rule of its slot, the failure count, and what follows from the outcome (R6, R8,
R10, R17, R21). -/
def endAttempt (f : TxFrame) (r : AttemptResult) (cells : List Bool) (s : State) : State :=
  let s1 := judgeMute { s with
    lif := (s.lif.attemptRule f r).countAttempt f r
    svp := s.svp.raiseIf (s.lif.dropsCue f r) flagCueFail }
  match r with
  | .acked => handFrame (ownFrame s.cfg.own f) s1
  | .bitError => receiveLate cells s1
  | _ => s1

/-- The end of an own frame, from its cells as read back (R8). -/
def attemptWork (cells : List Bool) (s : State) : State :=
  match s.lif.onLine with
  | none => s
  | some f =>
    match readBack 0 (frameCells s.cfg.own f) cells with
    | none => s
    | some r => endAttempt f r cells s

/-! ## Probe, escalation, check window (R15, R20, R22) -/

/-- A probe falls due (R22). -/
def State.probeIsDue (s : State) : Bool := decide (s.lif.mute = .lineMute) && decide (s.cfg.liveness ≤ s.lif.probeTimer)

/-- The probe is due and its timer restarts (R22). -/
def probeWork (s : State) : State := { s with lif := { s.lif with probeDue := true, probeTimer := 0 } }

/-- The STATUS slot's age exceeds half the liveness timeout (R15). -/
def State.escalates (s : State) : Bool :=
  s.lif.status.isSome && !s.lif.statusUrgent && decide (2 * s.lif.statusAge > s.cfg.liveness)

/-- The slot's class becomes STATUS-URGENT (R15). -/
def escalateWork (s : State) : State := { s with lif := { s.lif with statusUrgent := true } }

/-- A check window ends (R20). -/
def windowEndWork (s : State) : State :=
  { s with lif := { s.lif with windowCount := 0 }, due := { s.due with window := false } }

/-- The regular STATUS (R33). -/
def statusWork (s : State) : State := composeStatus { s with due := { s.due with status := false } }

/-- One control period of the STATUS age and of the probe timer (R15, R22). -/
def Lif.tick (l : Lif) : Lif :=
  { l with
    statusAge := if l.status.isSome then l.statusAge + 1 else l.statusAge
    probeTimer := if l.mute = .lineMute then l.probeTimer + 1 else l.probeTimer }

end Sys2Proof.Machine
end

