-- ==== Sys2Proof/Machine/Image.lean ====
section
/-! DEFINITION. The configuration image: the settings it spells (12.6) and the checks 1 to 22 of R184. 12.6 gives the
regions, the sizes of the records and the order of the contents; the byte places inside an axis, zone, line, output and
handwheel record and the codes it does not name are this model's (DESIGN CHOICE, log 5). -/

namespace Sys2Proof.Machine

/-- A breakpoint table is well-formed (R100). -/
def tableWellFormed (t : List (Nat × Nat)) : Bool :=
  decide (2 ≤ t.length) && decide (t.length ≤ 16) && (t.head?.map Prod.fst == some 0)
    && (t.getLast?.map Prod.fst == some 65535) && (t.zip t.tail).all fun p => decide (p.1.1 < p.2.1)

/-! ## Reading the image -/

/-- Byte k of an image. -/
def imageByte (img : List Byte) (k : Nat) : Nat := (img.getD k 0).toNat

/-- The number in n bytes from byte k on. -/
def imageNat (img : List Byte) (k n : Nat) : Nat := bytesNat ((img.drop k).take n)

/-- The signed number in n bytes from byte k on. -/
def imageInt (img : List Byte) (k n : Nat) : Int := signedOf (8 * n) (imageNat img k n)

/-- The first byte of an axis record (12.6). -/
def axisAt (i : AxisNo) : Nat := 32 + 128 * i.val

/-- The first byte of a zone record (12.6). -/
def zoneAt (z : ZoneNo) : Nat := 544 + 24 * z.val

/-- The first byte of an input line record (12.6). -/
def lineAt (k : LineNo) : Nat := 736 + 4 * k.val

/-- The first byte of an output record (12.6). -/
def outAt (k : OutNo) : Nat := 816 + 4 * k.val

/-- The first byte of a handwheel record (12.6). -/
def wheelAt (k : WheelNo) : Nat := 848 + 8 * k.val

/-- A station and slot in one byte, station in the upper half; 0xFF is none. -/
def stationSlot (b : Nat) : Option (StationNo × SlotNo) :=
  if b = 255 then none else some (Fin.ofNat 8 (b / 16), Fin.ofNat 16 (b % 16))

/-- The kind of a kind code. -/
def kindOf : Nat → AxisKind
  | 1 => .motion
  | 2 => .lens
  | _ => .unused

/-- The breakpoint table of an axis record: a count and sixteen pairs, of which the first count are used. -/
def imageTable (img : List Byte) (i : AxisNo) : List (Nat × Nat) :=
  (allSixteen.map fun k => (imageNat img (axisAt i + 64 + 4 * k.val) 2, imageNat img (axisAt i + 66 + 4 * k.val) 2)).take
    (imageByte img (axisAt i + 63))

/-- The settings of an axis. An UNUSED axis has none of them (R49), and only a LENS axis has a table (R100). The fields of 12.6
fill the 128 bytes of the record where the enable line takes one byte and the takeable flag stands in bit 7 of the byte of W;
every other field has bytes of its own. So every range of check 13 can fail, and the slot 0..15 of check 12 cannot (DESIGN
CHOICE, log 5). -/
def imageAxis (img : List Byte) (i : AxisNo) : AxisCfg :=
  let o := axisAt i
  let kind := kindOf (imageByte img o)
  if kind = .unused then {} else
  { kind := kind
    softLow := imageInt img (o + 1) 4
    softHigh := imageInt img (o + 5) 4
    vmax := imageNat img (o + 9) 3
    a := imageNat img (o + 12) 2
    ad := imageNat img (o + 14) 2
    followLimit := imageNat img (o + 16) 4
    crewSpeed := imageNat img (o + 20) 3
    prerollSpeed := imageNat img (o + 23) 3
    calSpeed := imageNat img (o + 26) 3
    liveSource := if imageByte img (o + 29) = 255 then none else some (Fin.ofNat 8 (imageByte img (o + 29)))
    enableLine := stationSlot (imageByte img (o + 30))
    deadband := imageNat img (o + 31) 2
    demandTimeout := imageByte img (o + 33)
    takeable := (imageByte img (o + 34)).testBit 7
    positionBits := field (imageByte img (o + 34)) 6 0
    clockCode := imageByte img (o + 35)
    origin := imageNat img (o + 36) 4
    floorDelay := imageByte img (o + 40)
    badThreshold := imageByte img (o + 41)
    alertThreshold := imageNat img (o + 42) 2
    brakeDelay := imageNat img (o + 44) 2
    tolerance := imageNat img (o + 46) 2
    guardBand := imageNat img (o + 48) 4
    minSpan := imageNat img (o + 52) 4
    maxSpan := imageNat img (o + 56) 4
    stallThreshold := imageNat img (o + 60) 2
    autoCalibrate := (imageByte img (o + 62)).testBit 0
    table := if kind = .lens then imageTable img i else [] }

/-- The settings of a zone (R114). -/
def imageZone (img : List Byte) (z : ZoneNo) : ZoneCfg :=
  let o := zoneAt z
  { inUse := (imageByte img o).testBit 0
    axis := Fin.ofNat 4 (imageByte img (o + 1))
    lo := imageInt img (o + 2) 4
    hi := imageInt img (o + 6) 4
    qualifier := if imageByte img (o + 10) = 255 then none else
      some { station := Fin.ofNat 8 (imageByte img (o + 10)), axis := Fin.ofNat 4 (imageByte img (o + 11)),
             qlo := imageInt img (o + 12) 4, qhi := imageInt img (o + 16) 4 }
    gateLine := if imageByte img (o + 20) = 255 then none else
      some (Fin.ofNat 8 (imageByte img (o + 20)), Fin.ofNat 16 (imageByte img (o + 21)))
    tolerance := imageNat img (o + 22) 2 }

/-- The function code of an input line, with its axis and direction, in byte 0 of its record. -/
def lineFunctionOf (b : Nat) : LineFunction :=
  let axis : AxisNo := Fin.ofNat 4 (field b 2 1)
  match b / 16 with
  | 1 => .estop
  | 2 => .crewTrip
  | 3 => .crewWarn
  | 4 => .limit axis (b.testBit 3)
  | 5 => .driveFault axis
  | 6 => .stopButton
  | 7 => .goButton
  | 8 => .haltButton
  | 9 => .resumeButton
  | 10 => .enable
  | 11 => .publish
  | _ => .noFunction

/-- The settings of an input line (2.7). -/
def imageLine (img : List Byte) (k : LineNo) : LineCfg :=
  let o := lineAt k
  { function := lineFunctionOf (imageByte img o)
    activeHigh := (imageByte img o).testBit 0
    qualTime := imageByte img (o + 1)
    group := Fin.ofNat 4 (imageByte img (o + 2))
    published := if imageByte img (o + 3) = 255 then none else some (Fin.ofNat 16 (imageByte img (o + 3))) }

/-- The internal source of a code (R46). -/
def sourceOf : Nat → InternalSource
  | 0 => .running
  | 1 => .takeRunning
  | 2 => .atTarget
  | 4 => .fixed1
  | _ => .fixed0

/-- The settings of an output line (2.9). -/
def imageOut (img : List Byte) (k : OutNo) : OutCfg :=
  let o := outAt k
  { mapping := match imageByte img o with
      | 0 => .slot (Fin.ofNat 8 (imageByte img (o + 1))) (Fin.ofNat 16 (imageByte img (o + 2)))
      | 1 => .source (sourceOf (imageByte img (o + 1)))
      | _ => .level (imageByte img (o + 2) == 1)
    fallback := match imageByte img (o + 3) with
      | 0 => .low
      | 1 => .high
      | _ => .hold }

/-- The settings of a handwheel (3.4): target station in the upper half of byte 0, axis in the lower, 0xFF unmapped. -/
def imageWheel (img : List Byte) (k : WheelNo) : WheelCfg :=
  let o := wheelAt k
  { target := if imageByte img o = 255 then none else some (Fin.ofNat 8 (imageByte img o / 16), Fin.ofNat 4 (imageByte img o % 16))
    lens := imageByte img (o + 1) == 1
    gain := imageInt img (o + 2) 2
    start := imageNat img (o + 4) 2 }

/-- The status or axis or demand period of a code: base, twice base or four times base. -/
def periodMs (base code : Nat) : Nat := base * 2 ^ code

/-- The category of a code that its check has let pass. -/
def categoryOr (d : Category) (code : Nat) : Category := (categoryOf code).getD d

/-- The settings that an image spells. -/
def imageSettings (img : List Byte) : Settings :=
  { slowRate := imageByte img 0 == 1
    own := Fin.ofNat 8 (imageByte img 1)
    roster := img.getD 2 0
    statusPeriod := periodMs 4 (imageByte img 3)
    axisPeriod := periodMs 2 (imageByte img 4)
    demandPeriod := periodMs 2 (imageByte img 5)
    liveness := imageByte img 6
    skewWindow := imageByte img 7
    holdLimit := imageNat img 8 2
    estopCategory := categoryOr .cut (imageByte img 10)
    peerLossCategory := categoryOr .brake (imageByte img 11)
    groupCategory := Vector.ofFn fun g => categoryOr .brake (imageByte img (12 + g.val))
    checkThreshold := imageNat img 16 2
    axes := Vector.ofFn (imageAxis img)
    zones := Vector.ofFn (imageZone img)
    lines := Vector.ofFn (imageLine img)
    sources := Vector.ofFn fun k => sourceOf (imageByte img (800 + k.val))
    outs := Vector.ofFn (imageOut img)
    wheels := Vector.ofFn (imageWheel img)
    warnSlots := Vector.ofFn fun k => if imageByte img (880 + 2 * k.val) = 255 then none else
      some (Fin.ofNat 8 (imageByte img (880 + 2 * k.val)), Fin.ofNat 16 (imageByte img (881 + 2 * k.val))) }

/-! ## The checks of R184 -/

/-- A fault reason: the check number and, for a check made per item, the item (R185). -/
abbrev FaultReason := Nat × Option Nat

/-- A check that concerns no item. -/
def checkOne (number : Nat) (ok : Bool) : Option FaultReason := if ok then none else some (number, none)

/-- A check made for each item in ascending order. -/
def checkEach {n : Nat} (number : Nat) (items : List (Fin n)) (ok : Fin n → Bool) : Option FaultReason :=
  items.findSome? fun i => if ok i then none else some (number, some i.val)

/-- A count within ±2^30. -/
def inCounts (x : Int) : Bool := decide (-(2 ^ 30) ≤ x) && decide (x ≤ 2 ^ 30)

/-- lo ≤ x ≤ hi. -/
def within (x lo hi : Nat) : Bool := decide (lo ≤ x) && decide (x ≤ hi)

/-- The kind code of axis number k of the image is MOTION or LENS. -/
def namesUsedAxis (img : List Byte) (k : Nat) : Bool :=
  decide (k ≤ 3) && within (imageByte img (32 + 128 * k)) 1 2

/-- Checks 1 to 7 (R184). -/
def stationChecks (img : List Byte) : List (Option FaultReason) :=
  let b := imageByte img
  [checkOne 1 (crc16 (bytesBits (img.take 1022)) == BitVec.ofNat 16 (imageNat img 1022 2)),
    checkOne 2 (within (b 0) 0 1),
    checkOne 3 (within (b 1) 0 7 && names (img.getD 2 0) (b 1)),
    checkOne 4 (within (b 3) 0 2 && within (b 4) 0 2 && within (b 5) 0 1),
    checkOne 5 (within (b 6) 12 200 && decide (3 * periodMs 4 (b 3) ≤ b 6)),
    checkOne 6 (within (b 7) 0 50 && within (imageNat img 8 2) 100 5000),
    checkOne 7 (within (b 10) 2 3 && within (b 11) 1 2 && within (b 12) 1 2 && within (b 13) 1 2 && within (b 14) 1 2
      && within (b 15) 1 2)]

/-- Checks 8 to 16 (R184). -/
def axisChecks (img : List Byte) : List (Option FaultReason) :=
  let c := imageAxis img
  let used (ok : AxisNo → Bool) (i : AxisNo) : Bool := decide ((c i).kind = .unused) || ok i
  let lens (ok : AxisNo → Bool) (i : AxisNo) : Bool := decide ((c i).kind ≠ .lens) || ok i
  let at' (i : AxisNo) (k : Nat) : Nat := imageByte img (axisAt i + k)
  [checkEach 8 allAxes fun i => within (at' i 0) 0 2,
    checkEach 9 allAxes (used fun i => decide ((c i).softLow < (c i).softHigh) && inCounts (c i).softLow && inCounts (c i).softHigh),
    checkEach 10 allAxes (used fun i => within (c i).vmax 1 (2 ^ 20) && within (c i).a 1 65535 && within (c i).ad (c i).a 65535),
    checkEach 11 allAxes (used fun i => within (c i).crewSpeed 0 (c i).vmax && within (c i).prerollSpeed 0 (c i).vmax
      && within (c i).calSpeed 0 (c i).vmax && within (c i).deadband 0 4095 && within (c i).demandTimeout 10 250
      && within (c i).tolerance 2 65535 && within (c i).followLimit 1 (2 ^ 30)),
    checkEach 12 allAxes (used fun i => (within (at' i 29) 0 7 || at' i 29 == 255) && (within (at' i 30 / 16) 0 7 || at' i 30 == 255)),
    checkEach 13 allAxes (used fun i => within (c i).positionBits 12 30 && within (c i).origin 0 (2 ^ (c i).positionBits - 1)
      && within (c i).clockCode 0 3 && within (c i).floorDelay 0 15 && within (c i).badThreshold 0 15),
    checkEach 14 allAxes (used fun i => within (c i).brakeDelay 0 500),
    checkEach 15 allAxes (lens fun i => within (at' i 63) 2 16 && tableWellFormed (c i).table),
    checkEach 16 allAxes (lens fun i => within (c i).stallThreshold 1 65535 && decide (2 * (c i).guardBand < (c i).minSpan)
      && within (c i).minSpan 0 (c i).maxSpan && within (c i).guardBand 0 (2 ^ 29) && within (c i).maxSpan 0 (2 ^ 31 - 1))]

/-- Checks 17 to 22 (R184). -/
def lineChecks (img : List Byte) : List (Option FaultReason) :=
  let b := imageByte img
  [checkEach 17 allEight fun z =>
      let c := imageZone img z
      !c.inUse || (namesUsedAxis img (b (zoneAt z + 1)) && decide (c.lo ≤ c.hi) && inCounts c.lo && inCounts c.hi
        && (b (zoneAt z + 10) == 255 || (within (b (zoneAt z + 10)) 0 7 && within (b (zoneAt z + 11)) 0 3
          && decide (imageInt img (zoneAt z + 12) 4 ≤ imageInt img (zoneAt z + 16) 4)
          && (b (zoneAt z + 10) != b 1 || namesUsedAxis img (b (zoneAt z + 11)))))
        && (b (zoneAt z + 20) == 255 || (within (b (zoneAt z + 20)) 0 7 && within (b (zoneAt z + 21)) 0 15))),
    checkEach 18 allSixteen fun k =>
      within (b (lineAt k) / 16) 0 11
        && (match lineFunctionOf (b (lineAt k)) with
          | .limit i _ => namesUsedAxis img i.val
          | .driveFault i => namesUsedAxis img i.val
          | _ => true)
        && within (b (lineAt k + 2)) 0 3 && (within (b (lineAt k + 3)) 0 15 || b (lineAt k + 3) == 255),
    checkEach 19 allSixteen fun k => within (b (800 + k.val)) 0 4,
    checkEach 20 allEight fun k =>
      (match b (outAt k) with
        | 0 => within (b (outAt k + 1)) 0 7 && within (b (outAt k + 2)) 0 15
        | 1 => within (b (outAt k + 1)) 0 4
        | 2 => within (b (outAt k + 2)) 0 1
        | _ => false) && within (b (outAt k + 3)) 0 2,
    checkEach 21 allAxes fun k =>
      within (b (wheelAt k + 1)) 0 1 && (b (wheelAt k) == 255 || (within (b (wheelAt k) / 16) 0 7 && within (b (wheelAt k) % 16) 0 3)),
    checkEach 22 allAxes fun k =>
      b (880 + 2 * k.val) == 255 || (within (b (880 + 2 * k.val)) 0 7 && within (b (881 + 2 * k.val)) 0 15)]

/-- The first check that fails, with its item; none when every check passes (R184, R185). -/
def firstFault (img : List Byte) : Option FaultReason :=
  (stationChecks img ++ axisChecks img ++ lineChecks img).findSome? id

end Sys2Proof.Machine
end

