-- ==== Sys2Proof/Machine/Start.lean ====
section
/-! DEFINITION. Resets, starts and the load of the configuration image (11.1, 11.2). -/

namespace Sys2Proof.Machine

/-! ## Held in reset (R182) -/

/-- What the pins show while the part is held in reset: nothing on the line, brakes engaged, outputs low, the attention
output not asserted and the service port undriven (R182). -/
def holdPins (s : State) : State :=
  { s with
    lif := { s.lif with onLine := none, ackDriven := false }
    outputs := Vector.replicate 8 false
    axes := Vector.ofFn fun i => { s.axes[i] with drive := { s.axes[i].drive with released := false } }
    svp := { s.svp with attention := false, response := none, responseCut := false } }

/-- The supply has risen, and the supply monitor holds the part (R182). -/
def powerOnHold (s : State) : State := holdPins { s with hold := { s.hold with supply := true, supplyRose := true } }

/-- The reset pin has been low for at least 10 µs; a shorter low level is ignored (R182). -/
def pinHold (lowMicros : Nat) (s : State) : State :=
  if lowMicros < 10 then s else holdPins { s with hold := { s.hold with pin := true } }

/-! ## The beginning of a start (R131, R146, R162, R182, R191) -/

/-- The stop record of a reset-pin start (R131, R146). -/
def resetPinStop : StopRecord := { localMarks := [.resetPin], first := some (.resetPin, 0, 0) }

/-- The state at the beginning of a start: every block at the values after a reset of its kind; the waiting commands stay. -/
def beginStart (s : State) : State :=
  if s.hold.supplyRose then { State.reset with pending := s.pending }
  else
    { State.reset with
      stop := resetPinStop
      tks := s.tks.pinStart
      svp := ({} : Svp).raiseIf s.tks.pinStartChanges flagTakeChange
      pending := s.pending }

/-- Both sources release the part, and a start begins; a part that is not held goes on as before (R182; log 20). -/
def releaseReset (s : State) : State := if s.inReset then beginStart s else s

/-! ## The read (R183) -/

/-- The read command and the three address bytes that are sent (R183). -/
def readCommandBytes : List Byte := [0x03#8, 0x00#8, 0x00#8, 0x00#8]

/-- The station is loading, and the read of the image has (or has not) begun. -/
def State.loadingRead (s : State) (begun : Bool) : Bool :=
  !s.inReset && decide (s.cfl.load = .loading) && (!s.cfl.sent.isEmpty == begun)

/-- The read begins (R183). -/
def readStart (s : State) : State :=
  if s.loadingRead false then { s with cfl := { s.cfl with sent := readCommandBytes } } else s

/-! ## The end of a load (R184 to R186) -/

/-- A load that ends in CONFIG-FAULT; the Line Interface receives at the configured rate if check 2 has passed (R185). -/
def loadFault (img : List Byte) (r : FaultReason) (s : State) : State :=
  { s with
    cfl := { s.cfl with load := .configFault, fault := some r, image := img }
    lif := { s.lif with slowRate := decide (2 < r.1) && (imageByte img 0 == 1) } }

/-- A zone in use before its first evaluation (R114). -/
def zoneAtStart (c : ZoneCfg) : ZoneState :=
  if c.inUse then
    { qualifier := if c.qualifier.isSome then .unknown else .noQualifier, gate := c.gateLine.map fun _ => true,
      active := true, breached := false }
  else {}

/-- An axis as operation begins: its link at the floor setting, its table from the image, its automatic seek pending where
the image says so (R82, R100, R106). -/
def AxisState.atLoad (c : AxisCfg) (a : AxisState) : AxisState :=
  { a with
    link := { a.link with delay := c.floorDelay }
    lens := { a.lens with
      table := c.table, fromPort := false
      cal := { a.lens.cal with autoPending := decide (c.kind = .lens) && c.autoCalibrate } } }

/-- The work that is due in the control period that begins at a station time: one read on each link (R83), and the periods
that begin there (R20, R33, R38, R60). -/
def workAt (c : Settings) (time : Nat) : PeriodWork :=
  { status := decide (time % c.statusPeriod = 0), axis := decide (time % c.axisPeriod = 0),
    demand := decide (time % c.demandPeriod = 0), window := decide (0 < time ∧ time % 1000 = 0),
    reads := Vector.ofFn fun i => decide (c.axes[i].kind ≠ .unused) }

/-- Operation begins: what R186 lists, before anything is evaluated. -/
def beginOperation (img : List Byte) (s : State) : State :=
  let c := imageSettings img
  { s with
    cfl := { s.cfl with load := .runReady, fault := none, image := img }
    cfg := c
    time := 0
    due := workAt c 0
    lif := { s.lif with slowRate := c.slowRate }
    peers := s.peers.set c.own { s.peers[c.own] with presence := .present, count := 3 }
    axes := Vector.ofFn fun i => s.axes[i].atLoad c.axes[i]
    wheels := Vector.ofFn fun k => { s.wheels[k] with acc := if c.wheels[k].lens then 256 * (c.wheels[k].start : Int) else 0 }
    zones := Vector.ofFn fun z => zoneAtStart c.zones[z]
    stop := { s.stop with first := s.stop.first.map fun f => (f.1, c.own, f.2.2), origin := some c.own }
    svp := (s.svp.raise flagPeerChange).raise flagStopEnter }

/-- The first evaluation of the gates and zones, and the sample that begins the first control period (R55, R128; log 14). -/
def firstPeriod (levels : Word16) (s : State) : State :=
  sampleLines levels (reformZones (fun _ => true) (reformGates (fun _ => true) s))

/-- The image has been read: the checks run in order, and the load ends (R184 to R186). -/
def readDone (image : List Byte) (levels : Word16) (s : State) : State :=
  if s.loadingRead true then
    match firstFault (image.take 1024) with
    | some r => loadFault (image.take 1024) r s
    | none => endEvent (firstPeriod levels (beginOperation (image.take 1024) s))
  else s

end Sys2Proof.Machine
end

