-- ==== Sys2Proof/Machine/Clock.lean ====
section
/-! DEFINITION. The control period (R186): the events that fall due within it, each with the condition under which it
comes about (log 2), and the boundary, which first takes what is still due (log 3). -/

namespace Sys2Proof.Machine

/-! ## The events that fall due -/

/-- A qualified edge (R39): an event of its own, after the computations of the boundary whose sample brings it about (DESIGN
CHOICE, log 2). -/
def qualifiedEdgeStep (k : LineNo) : State → State := eventIf (·.edgeDue k) (qualifiedEdgeWork k)

/-- The drive-on boundary of a resume (R144). -/
def driveOnStep : State → State := eventIf (fun s => decide (s.driveOn = .due)) driveOnWork

/-- A release timer at its brake delay (R144): an event of its own, after the computations, following check and setpoint words
of the boundary at which the timer reaches it (DESIGN CHOICE, log 25). -/
def releaseStep (i : AxisNo) : State → State := eventIf (·.releaseDue i) (releaseWork i)

/-- A brake timer at its brake delay (R138): an event of its own, after the computations, following check and setpoint words of
the boundary at which the timer reaches it. The spec does not say whether the drive goes off before or after them (DESIGN
CHOICE, log 25). -/
def brakeStep (i : AxisNo) : State → State := eventIf (·.brakeDue i) (brakeWork i)

/-- A liveness timeout (R28). -/
def livenessStep (st : StationNo) : State → State := eventIf (·.silent st) (livenessWork st)

/-- The expiry of an axis report's age, and the zones that qualify on it (R117). -/
def reportStaleStep (st : StationNo) (i : AxisNo) : State → State :=
  eventIf (·.reportExpired st i) fun s => reformZones (s.zonesOfAxis st i) s

/-- The freshness timer of an axis has first exceeded its demand timeout (R57). -/
def State.demandExpired (s : State) (i : AxisNo) : Bool :=
  s.used i && decide (s.axes[i].dsl.fresh = s.cfg.axes[i].demandTimeout + 1)

/-- The expiry of a freshness timer: the gate is re-evaluated, and the latch of a MOTION axis is set (R57). It is an event of its
own, after the computation of the boundary at which the timer expires: the spec does not say on which side of it the gate
closes, and here that computation still follows the live target (DESIGN CHOICE, log 2). -/
def demandTimeoutStep (i : AxisNo) : State → State :=
  eventIf (·.demandExpired i) fun s => (reformGates (fun j => decide (j = i)) s).modAxis i fun a =>
    { a with dsl := { a.dsl with latch := a.dsl.latch || decide (s.cfg.axes[i].kind = .motion) } }

/-- A probe falls due (R22). -/
def probeStep : State → State := eventIf State.probeIsDue probeWork

/-- The STATUS slot escalates (R15). -/
def escalationStep : State → State := eventIf State.escalates escalateWork

/-- A check window ends (R20). -/
def checkWindowStep : State → State := eventIf (·.due.window) windowEndWork

/-- The hold timer has exceeded the hold limit (R177): an event of its own, after the computation of the boundary whose take step
it belongs to, so that the VELOCITY 0 of the abort acts in the next computation (DESIGN CHOICE, log 2). -/
def holdLimitStep : State → State := eventIf State.holdLimitDue abortWithoutStop

/-- A play take has reached its end (R175): an event of its own, after the computation of the boundary whose take step formed
the last target (DESIGN CHOICE, log 2). -/
def endReachedStep : State → State := eventIf State.endDue endReachedWork

/-- The append of this period (R173). -/
def sampleAppendStep : State → State := eventIf (fun s => s.tkq.appendDue && s.tkq.recording) appendWork

/-- A stall timer at 20 ends the seek in its direction (R108). -/
def seekStallStep (i : AxisNo) : State → State :=
  eventIf (fun s => s.axes[i].seeking && decide (s.axes[i].lens.stall = 20)) (endDirection i)

/-- A blocked timer at 20 ends the calibration (R108). -/
def blockedStep (i : AxisNo) : State → State :=
  eventIf (fun s => s.axes[i].seeking && decide (s.axes[i].lens.blocked = 20)) (failSeek i .blocked)

/-- The end of a dwell (R85). -/
def dwellStep (i : AxisNo) : State → State := eventIf (fun s => s.used i && s.axes[i].link.dwellDue) (dwellWork i)

/-- The end of a window (R88). -/
def windowStep (i : AxisNo) : State → State :=
  eventIf (fun s => s.used i && s.axes[i].link.windowDue s.cfg.axes[i]) (windowWork i)

/-- A demand period boundary (R60). -/
def demandStep : State → State := eventIf (·.due.demand) demandWork

/-- An axis period (R38). -/
def axisStep : State → State := eventIf (·.due.axis) axisWork

/-- A status period (R33). -/
def statusStep : State → State := eventIf (·.due.status) statusWork

/-- The encoder read of the period, of which there is one; a dwell or window that is still to be ended is ended first (R83,
R85, R88; log 29). -/
def encoderStep (i : AxisNo) (samples : List Bool) (s : State) : State :=
  eventIf (·.readDue i) (encoderWork i samples) (windowStep i (dwellStep i s))

/-- The read of a period for which the line has shown nothing: the data line rests at 0 (R83; log 29). -/
def restingRead (i : AxisNo) : State → State := encoderStep i []

/-! ## The boundary (R67, R186) -/

/-- Everything that is still due of the period that ends, in the model's order (log 3). -/
def closePeriod (s : State) : State :=
  let each {n : Nat} (items : List (Fin n)) (f : Fin n → State → State) (s : State) : State := items.foldl (fun t i => f i t) s
  let s1 := each allAxes brakeStep (each allAxes releaseStep (driveOnStep (each allSixteen qualifiedEdgeStep s)))
  let s2 := each allStations (fun st => each allAxes (reportStaleStep st)) (each allStations livenessStep s1)
  let s3 := checkWindowStep (escalationStep (probeStep (each allAxes demandTimeoutStep s2)))
  let s4 := sampleAppendStep (endReachedStep (holdLimitStep s3))
  let s5 := each allAxes blockedStep (each allAxes seekStallStep s4)
  let s6 := each allAxes windowStep (each allAxes dwellStep (each allAxes restingRead s5))
  statusStep (axisStep (demandStep s6))

/-- One control period of an axis's timers (R57, R136). -/
def AxisState.tick (a : AxisState) : AxisState :=
  { a.tickTimers with dsl := { a.dsl with fresh := satInc a.dsl.fresh } }

/-- Station time advances, and with it every timer; a drive-on boundary that is awaited has come (R15, R22, R57, R136,
R144, R186). Its work is done after this boundary's computations and setpoint words, which still carry the drive enables as
they stood (R98; DESIGN CHOICE, log 25); and so is the work of a brake or release timer that now reaches its delay (R138, R144;
DESIGN CHOICE, log 25). -/
def advanceTime (s : State) : State :=
  let time := min (s.time + 1) (2 ^ 48 - 1)
  { s with
    time := time
    due := workAt s.cfg time
    lif := s.lif.tick
    axes := Vector.ofFn fun i => s.axes[i].tick
    driveOn := if s.driveOn = .awaited then .due else s.driveOn }

/-- The period's samples and the take's step (R39, R173, R174). -/
def periodStart (levels : Word16) (s : State) : State := endEvent (takeStep (sampleLines levels (advanceTime s)))

/-- The profiler's computations and what follows from them: FOLLOW, the pre-roll, and the stop sequence of an axis that has
come to rest (R67, R93, R138, R140, R170). -/
def periodCompute (s : State) : State :=
  endEvent (judgeStopped (applySequence (judgePreroll (giveFollow (computeAxes s)))))

/-- A channel that sends a setpoint word with enable 0 and count 0 (R95). -/
def Drive.idleWord (d : Drive) : Drive := { d with word := setpointWord false 0, lastCount := 0 }

/-- A control period while the station loads or is in CONFIG-FAULT: each channel sends enable 0 and count 0 (R95, R183). -/
def idlePeriod (s : State) : State := s.mapAxes fun _ a => { a with drive := a.drive.idleWord }

/-- A control period boundary (R186). A brake timer that reaches its delay at it acts in a later event, so that this boundary's
computation, following check and setpoint word still see the drive on (R138; DESIGN CHOICE, log 25). -/
def boundary (levels : Word16) (s : State) : State :=
  if s.operating then periodCompute (periodStart levels (closePeriod s))
  else if s.inReset then s
  else idlePeriod s

end Sys2Proof.Machine
end

