-- ==== Sys2Proof/Machine/ClockCommands.lean ====
section
/-! DEFINITION. The meanings of the commands of the clock, of the inputs and of what falls due within a control period.
Each answers a next state: no command stops the station. -/

namespace Sys2Proof.Machine

/-- A raw level of an ESTOP line that differs from the one the line last followed (R40). -/
def State.estopChanges (s : State) (line : LineNo) (level : Bool) : Bool :=
  decide (s.cfg.lines[line].function = .estop) && decide (s.lines[line].qualified ≠ some level)

/-- A handwheel after an observation; a count is kept only in operation (R60). -/
def observeWheel (wheel : WheelNo) (phaseA phaseB : Bool) (s : State) : State :=
  if s.inReset then s
  else { s with wheels := s.wheels.set wheel (s.wheels[wheel].observe s.operating phaseA phaseB) }

/-- CONTROL_PERIOD_BOUNDARY (R186). -/
def execControlPeriodBoundary (levels : Word16) (s : State) : Host.Outcome State Fault Refusal :=
  .next (boundary levels s)

/-- QUALIFIED_EDGE (R39, R44). -/
def execQualifiedEdge (line : LineNo) (s : State) : Host.Outcome State Fault Refusal :=
  .next (qualifiedEdgeStep line s)

/-- ESTOP_EDGE: an ESTOP line follows its raw level at once (R40). -/
def execEstopEdge (line : LineNo) (level : Bool) (s : State) : Host.Outcome State Fault Refusal :=
  .next (eventIf (·.estopChanges line level) (followEstop line level) s)

/-- HANDWHEEL_COUNT: an observation of the two phases (R60). -/
def execHandwheelCount (wheel : WheelNo) (phaseA phaseB : Bool) (s : State) : Host.Outcome State Fault Refusal :=
  .next (observeWheel wheel phaseA phaseB s)

/-- DEMAND_PERIOD_BOUNDARY (R60 to R63). -/
def execDemandPeriodBoundary (s : State) : Host.Outcome State Fault Refusal := .next (demandStep s)

/-- STATUS_PERIOD: the regular STATUS (R33). -/
def execStatusPeriod (s : State) : Host.Outcome State Fault Refusal := .next (statusStep s)

/-- AXIS_PERIOD: the AXIS messages (R38). -/
def execAxisPeriod (s : State) : Host.Outcome State Fault Refusal := .next (axisStep s)

/-- ENCODER_READ: a read ends (R83 to R92). -/
def execEncoderRead (axis : AxisNo) (samples : List Bool) (s : State) : Host.Outcome State Fault Refusal :=
  .next (encoderStep axis samples s)

/-- DWELL_END (R85 to R87). -/
def execDwellEnd (axis : AxisNo) (s : State) : Host.Outcome State Fault Refusal := .next (dwellStep axis s)

/-- WINDOW_END (R88). -/
def execWindowEnd (axis : AxisNo) (s : State) : Host.Outcome State Fault Refusal := .next (windowStep axis s)

/-- SEEK_STALL (R108, R111). -/
def execSeekStall (axis : AxisNo) (s : State) : Host.Outcome State Fault Refusal := .next (seekStallStep axis s)

/-- BLOCKED (R108, R111). -/
def execBlocked (axis : AxisNo) (s : State) : Host.Outcome State Fault Refusal := .next (blockedStep axis s)

/-- BRAKE_TIMER (R138, R140). -/
def execBrakeTimer (axis : AxisNo) (s : State) : Host.Outcome State Fault Refusal := .next (brakeStep axis s)

/-- DRIVE_ON_BOUNDARY (R144). -/
def execDriveOnBoundary (s : State) : Host.Outcome State Fault Refusal := .next (driveOnStep s)

/-- RELEASE_TIMER (R144). -/
def execReleaseTimer (axis : AxisNo) (s : State) : Host.Outcome State Fault Refusal := .next (releaseStep axis s)

/-- HOLD_LIMIT (R177). -/
def execHoldLimit (s : State) : Host.Outcome State Fault Refusal := .next (holdLimitStep s)

/-- END_REACHED (R175). -/
def execEndReached (s : State) : Host.Outcome State Fault Refusal := .next (endReachedStep s)

/-- SAMPLE_APPEND (R153, R154, R173). -/
def execSampleAppend (s : State) : Host.Outcome State Fault Refusal := .next (sampleAppendStep s)

/-- LIVENESS_TIMEOUT (R28, R31). -/
def execLivenessTimeout (station : StationNo) (s : State) : Host.Outcome State Fault Refusal :=
  .next (livenessStep station s)

/-- DEMAND_TIMEOUT (R57). -/
def execDemandTimeout (axis : AxisNo) (s : State) : Host.Outcome State Fault Refusal :=
  .next (demandTimeoutStep axis s)

/-- REPORT_STALE (R117). -/
def execReportStale (station : StationNo) (axis : AxisNo) (s : State) : Host.Outcome State Fault Refusal :=
  .next (reportStaleStep station axis s)

end Sys2Proof.Machine
end

