-- ==== Sys2Proof/Machine/LineCommands.lean ====
section
/-! DEFINITION. The meanings of the commands of the crane line: sending, received frames and cues.
Each answers a next state: no command stops the station. -/

namespace Sys2Proof.Machine

/-- A start opportunity of an operating station (R14). -/
def startOpportunity (idleCells : Nat) (s : State) : State :=
  if s.operating then { s with lif := s.lif.startFrame s.cfg.own idleCells } else s

/-- FRAME_START: a cell boundary with an idle count (R14). -/
def execFrameStart (idleCells : Nat) (s : State) : Host.Outcome State Fault Refusal :=
  .next (startOpportunity idleCells s)

/-- ATTEMPT_END: an own frame has ended (R5 to R8). -/
def execAttemptEnd (cells : List Bool) (s : State) : Host.Outcome State Fault Refusal :=
  .next (event (attemptWork cells) s)

/-- PROBE_DUE (R22). -/
def execProbeDue (s : State) : Host.Outcome State Fault Refusal := .next (probeStep s)

/-- STATUS_ESCALATION (R15). -/
def execStatusEscalation (s : State) : Host.Outcome State Fault Refusal := .next (escalationStep s)

/-- CHECK_WINDOW_END (R20). -/
def execCheckWindowEnd (s : State) : Host.Outcome State Fault Refusal := .next (checkWindowStep s)

/-- STOP_FRAME (R9, R135). -/
def execStopFrame (w : Wire) (s : State) : Host.Outcome State Fault Refusal :=
  .next (frameStep { cls := 0, wire := w } s)

/-- STATUS_FRAME: STATUS or STATUS-URGENT (R9, R29). -/
def execStatusFrame (urgent : Bool) (w : Wire) (s : State) : Host.Outcome State Fault Refusal :=
  .next (frameStep { cls := if urgent then 1 else 5, wire := w } s)

/-- DEMAND_FRAME (R9, R36, R64). -/
def execDemandFrame (w : Wire) (s : State) : Host.Outcome State Fault Refusal :=
  .next (frameStep { cls := 3, wire := w } s)

/-- AXIS_FRAME (R9, R27, R117). -/
def execAxisFrame (w : Wire) (s : State) : Host.Outcome State Fault Refusal :=
  .next (frameStep { cls := 4, wire := w } s)

/-- UNKNOWN_CLASS: a frame of class 6 or 7 (R4, R9). -/
def execUnknownClass (seven : Bool) (w : Wire) (s : State) : Host.Outcome State Fault Refusal :=
  .next (frameStep { cls := if seven then 7 else 6, wire := w } s)

/-- ARM_RECORD (R165, R167, R168). -/
def execArmRecord (w : Wire) (s : State) : Host.Outcome State Fault Refusal := .next (cueStep .armRecord w s)

/-- ARM_PLAY (R165, R167, R169). -/
def execArmPlay (w : Wire) (s : State) : Host.Outcome State Fault Refusal := .next (cueStep .armPlay w s)

/-- GO (R165, R172). -/
def execGo (w : Wire) (s : State) : Host.Outcome State Fault Refusal := .next (cueStep .go w s)

/-- HALT (R165, R178). -/
def execHalt (w : Wire) (s : State) : Host.Outcome State Fault Refusal := .next (cueStep .halt w s)

/-- DISARM (R165, R179). -/
def execDisarm (w : Wire) (s : State) : Host.Outcome State Fault Refusal := .next (cueStep .disarm w s)

/-- RESUME (R141 to R143, R165). -/
def execResume (w : Wire) (s : State) : Host.Outcome State Fault Refusal := .next (cueStep .resume w s)

/-- ERASE (R157, R165). -/
def execErase (w : Wire) (s : State) : Host.Outcome State Fault Refusal := .next (cueStep .erase w s)

/-- CALIBRATE (R105, R165). -/
def execCalibrate (w : Wire) (s : State) : Host.Outcome State Fault Refusal := .next (cueStep .calibrate w s)

end Sys2Proof.Machine
end

