-- ==== Sys2Proof/WellFormed.lean ====
section
/-! DEFINITION. Well-formed commands: the operands have the sizes and the ranges that the specification gives the things
they stand for. A command that is not well-formed still has a meaning; no sender that follows the specification makes it. -/

namespace Sys2Proof

/-- The command bytes of the service port (12.5). -/
def commandBytes : List Byte :=
  [0x01#8, 0x02#8, 0x03#8, 0x04#8, 0x05#8, 0x06#8, 0x10#8, 0x11#8, 0x12#8, 0x13#8, 0x14#8, 0x20#8, 0x21#8, 0x30#8, 0x40#8,
    0x41#8, 0x42#8, 0x43#8]

/-- The payload has as many bytes as the length field says; a length of 9 to 15 has no payload (R3). -/
def Wire.wf (w : Wire) : Bool := decide (w.payload.length = if w.length.val ≤ 8 then w.length.val else 0)

/-- The first payload byte is the kind code of the row, or names no kind at all (12.2, R196). -/
def Wire.wfCue (code : Nat) (w : Wire) : Bool :=
  w.wf && (match w.payload with
    | [] => true
    | b :: _ => decide (b.toNat = code) || decide (b.toNat = 0) || decide (8 < b.toNat))

/-- The operands of a command are of the sizes that its rule gives: an image of 1024 bytes (R183), a frame of at most 94
cells (R3), a burst of W + 12 samples with W from 12 to 30 (R83), 64 words (R159), sixteen pairs (12.5), a byte that names
no command (R187). -/
def Instr.wf : Instr → Bool
  | .configReadDone image _ => decide (image.length = 1024)
  | .attemptEnd cells => decide (1 ≤ cells.length) && decide (cells.length ≤ 94)
  | .stopFrame w | .statusFrame _ w | .demandFrame w | .axisFrame w | .unknownClass _ w => w.wf
  | .armRecord w => w.wfCue 1
  | .armPlay w => w.wfCue 2
  | .go w => w.wfCue 3
  | .halt w => w.wfCue 4
  | .disarm w => w.wfCue 5
  | .resume w => w.wfCue 6
  | .erase w => w.wfCue 7
  | .calibrate w => w.wfCue 8
  | .encoderRead _ samples => decide (24 ≤ samples.length) && decide (samples.length ≤ 42)
  | .takeWrite _ _ words => decide (words.length = 64)
  | .lensTableWrite _ _ pairs => decide (pairs.length = 16)
  | .badCommand b => !commandBytes.contains b
  | .powerOnReset | .pinReset _ | .resetRelease | .configReadStart | .controlPeriodBoundary _ | .qualifiedEdge _
  | .estopEdge _ _ | .handwheelCount _ _ _ | .demandPeriodBoundary | .statusPeriod | .axisPeriod | .frameStart _
  | .probeDue | .statusEscalation | .checkWindowEnd | .livenessTimeout _ | .demandTimeout _ | .reportStale _ _
  | .dwellEnd _ | .windowEnd _ | .seekStall _ | .blocked _ | .brakeTimer _ | .driveOnBoundary | .releaseTimer _
  | .holdLimit | .endReached | .sampleAppend | .readStation | .readPeer _ | .readAxis _ | .readInputs | .readCounters
  | .readTakedir | .takeRead _ _ | .takeCreate _ _ _ _ | .takeClose _ | .takeErase _ | .lensTableRead _
  | .sendCue _ _ _ _ | .readRequests | .clearRequests _ | .writeEnables _ | .readSnapshot | .shortTransfer _ => true

end Sys2Proof
end

