-- ==== Sys2Proof/Machine/ServicePort.lean ====
section
/-! DEFINITION. The commands of the service port (11.3, 11.4): their results, what they do, and their responses as
structured data (log 9). -/

namespace Sys2Proof.Machine

/-! ## Transfers (R187 to R189) -/

/-- The response of a command that has been executed or refused. -/
def respond (r : Response) (s : State) : State := { s with svp := { s.svp with response := some r, responseCut := false } }

/-- A command of the service port. One that is not marked in R189 is answered BUSY until the station is RUN-READY; while
the part is held in reset the port is undriven (R182). -/
def portCommand (always : Bool) (f : State → State) (s : State) : State :=
  if s.inReset then s
  else if always || decide (s.cfl.load = .runReady) then f s
  else respond (.refused .busy) s

/-- A command answered with a result code other than OK, or executed (R188). -/
def answer (r : Option Result) (f : State → State) (s : State) : State :=
  match r with
  | some code => respond (.refused code) s
  | none => f s

/-! ## Reads (R189) -/

/-- What READ-STATION returns. -/
def stationReport (s : State) : StationReport :=
  { load := s.cfl.load, fault := s.cfl.fault, own := s.cfg.own, time := s.time, stop := s.stop, take := s.tkq.state,
    mode := s.tkq.mode, number := s.tkq.number, t := s.tkq.t, reason := s.tkq.reason, endKind := s.tkq.endKind,
    abortKind := s.tkq.abortKind, lastArm := s.lastArm, mute := s.lif.mute,
    zones := Vector.ofFn fun z => (s.zones[z].active, s.zones[z].breached), crewWarn := s.crewWarn, word := s.word,
    outputs := Vector.ofFn fun k => (s.outputs[k], s.inFallback k) }

/-- A DRIVE-FAULT line of the axis is active (R97). -/
def State.driveFaultActive (s : State) (i : AxisNo) : Bool :=
  allSixteen.any fun k => decide (s.cfg.lines[k].function = .driveFault i) && s.lineActive k

/-- What READ-AXIS returns (R189). Of the drive fields it holds those that R97 and R98 name; the last commanded count sent (R95)
is left out, of which the spec does not say whether it is one of them. An UNUSED axis returns p and v
0 and mode VELOCITY, of which R66 says nothing (DESIGN CHOICE, log 36). -/
def axisView (i : AxisNo) (s : State) : AxisView :=
  let a := s.axes[i]
  { kind := s.cfg.axes[i].kind, dsl := a.dsl, mpr := a.mpr, cap := a.cap, link := a.link, positionValid := a.link.valid,
    driveFault := s.driveFaultActive i, enable := a.drive.enable, released := a.drive.released, cal := a.lens.cal,
    lastUnit := a.lens.lastUnit }

/-- READ-PEER (R189). -/
def readPeerWork (station : Byte) (s : State) : State :=
  if station.toNat ≤ 7 then respond (.peer s.peers[(Fin.ofNat 8 station.toNat : StationNo)]) s
  else respond (.refused .badArgs) s

/-- READ-AXIS (R189). -/
def readAxisWork (axis : Byte) (s : State) : State :=
  if axis.toNat ≤ 3 then respond (.axis (axisView (Fin.ofNat 4 axis.toNat) s)) s else respond (.refused .badArgs) s

/-- The level of a line that READ-INPUTS returns: the qualified one, the raw one of a line not yet qualified (R190). -/
def LineState.shown (l : LineState) : Bool := l.qualified.getD l.raw

/-- READ-INPUTS: levels, unqualified marks and latches, and every latch cleared (R43, R190). -/
def readInputsWork (s : State) : State :=
  respond (.inputs (BitVec.ofFnLE fun k => s.lines[k].shown) (BitVec.ofFnLE fun k => s.lines[k].qualified.isNone)
      (BitVec.ofFnLE fun k => s.lines[k].latch))
    { s with lines := Vector.ofFn fun k => { s.lines[k] with latch := false } }

/-- What READ-COUNTERS returns (R190). -/
def counterReport (s : State) : CounterReport :=
  { line := [s.lif.checkFailures, s.lif.formatErrors, s.lif.unknownClass, s.lif.arbitrationLosses, s.lif.bitErrors,
      s.lif.unacknowledged, s.lif.droppedCues],
    mismatched := s.mismatched, foreign := s.foreign, frameErrors := allAxes.map fun i => s.axes[i].link.frameErrors,
    calIgnored := s.calIgnored, eraseIgnored := s.tks.eraseIgnored, armIgnored := s.tkq.armIgnored,
    goDeclined := s.tkq.goDeclined, shortTransfers := s.svp.shortTransfers, badCommands := s.svp.badCommands,
    thresholdFlag := s.lif.thresholdFlag, alerts := allAxes.map fun i => s.axes[i].link.alert }

/-- The line counters and the threshold flag cleared; the window count stays (R19, R20, R190). -/
def Lif.clearCounters (l : Lif) : Lif :=
  { l with
    checkFailures := 0, formatErrors := 0, unknownClass := 0, arbitrationLosses := 0, bitErrors := 0,
    unacknowledged := 0, droppedCues := 0, thresholdFlag := false }

/-- A link's frame error counter and alert flag cleared (R92). -/
def Link.clearCounters (l : Link) : Link := { l with frameErrors := 0, alert := false }

/-- READ-COUNTERS: every counter returned and set to 0 (R190). -/
def readCountersWork (s : State) : State :=
  respond (.counters (counterReport s)) { s with
    lif := s.lif.clearCounters
    mismatched := 0
    foreign := 0
    axes := Vector.ofFn fun i => { s.axes[i] with link := s.axes[i].link.clearCounters }
    calIgnored := 0
    tks := { s.tks with eraseIgnored := 0 }
    tkq := { s.tkq with armIgnored := 0, goDeclined := 0 }
    svp := { s.svp with shortTransfers := 0, badCommands := 0 } }

/-! ## The take commands (R157 to R161) -/

/-- The entry of a take and block that TAKE-READ can return (R161). -/
def Tks.readable (t : Tks) (number : Byte) (block : Nat) : Option EntryNo :=
  (t.find number).filter fun i => decide (block < t.dir[i].blocks)

/-- TAKE-READ (R161). -/
def takeReadWork (number : Byte) (block : Word16) (s : State) : State :=
  match s.tks.readable number block.toNat with
  | none => respond (.refused .badArgs) s
  | some i => respond (.block (s.tks.blockWords s.tks.dir[i] block.toNat)) s

/-- The reservation of an ARMED recording: its number (R152). -/
def State.reserved (s : State) : Option Byte :=
  if s.tkq.state = .armed ∧ s.tkq.mode = some .record then some s.tkq.number else none

/-- The arguments of TAKE-CREATE are out of range (R158). -/
def State.badCreate (s : State) (number mask period : Byte) (length : Nat) : Bool :=
  !validNumber number || (maskAxes mask).isEmpty || ((maskAxes mask).any fun i => !s.used i)
    || (periodOf period.toNat).isNone || decide (length = 0) || decide (2048 < blocksFor length (maskAxes mask).length)

/-- The result of TAKE-CREATE, none for OK (R158). -/
def State.createResult (s : State) (number mask period : Byte) (length : Nat) : Option Result :=
  if s.tks.upload.isSome then some .busy
  else if s.badCreate number mask period length then some .badArgs
  else if (s.tks.find number).isSome ∨ s.reserved = some number then some .takeExists
  else if s.tks.emptyCount ≤ s.reserved.isSome.toNat then some .dirFull
  else if s.tks.free.length < blocksFor length (maskAxes mask).length then some .noSpace
  else none

/-- TAKE-CREATE carried out (R158). -/
def createNow (number mask period : Byte) (length : Nat) (s : State) : State :=
  respond .ok (match s.tks.lowestEmpty with
    | none => s
    | some i => setStore (s.tks.create i number (maskAxes mask) ((periodOf period.toNat).getD 10) length) s)

/-- TAKE-CREATE (R158). -/
def takeCreateWork (number mask period : Byte) (length : BitVec 24) (s : State) : State :=
  formAttention (answer (s.createResult number mask period length.toNat) (createNow number mask period length.toNat) s)

/-- The entry and written count of the open upload of a take (R158). -/
def Tks.openUpload (t : Tks) (number : Byte) : Option (EntryNo × Nat) :=
  match t.upload, t.find number with
  | some u, some i => if u.1 = number then some (i, u.2) else none
  | _, _ => none

/-- TAKE-WRITE (R159). -/
def takeWriteWork (number : Byte) (block : Word16) (words : List Word32) (s : State) : State :=
  match s.tks.openUpload number with
  | none => respond (.refused .badArgs) s
  | some (i, written) =>
    if block.toNat < s.tks.dir[i].blocks ∧ block.toNat ≤ written then
      respond .ok (setStore (s.tks.writeBlock i number written block.toNat words) s)
    else respond (.refused .badArgs) s

/-- A sample value is one that TAKE-CLOSE lets an axis hold (R160). -/
def State.closable (s : State) (i : AxisNo) (x : Int) : Bool :=
  if s.isLens i then decide (0 ≤ x ∧ x ≤ 65535) else decide (-(2 ^ 30) ≤ x ∧ x ≤ 2 ^ 30)

/-- The entry that TAKE-CLOSE closes, none for BAD-ARGS (R160). -/
def State.closeEntry (s : State) (number : Byte) : Option EntryNo :=
  match s.tks.openUpload number with
  | none => none
  | some (i, written) =>
    let e := s.tks.dir[i]
    if e.blocks ≤ written ∧ s.tks.samplesAll e s.closable e.length = true then some i else none

/-- TAKE-CLOSE (R160). -/
def takeCloseWork (number : Byte) (s : State) : State :=
  match s.closeEntry number with
  | none => respond (.refused .badArgs) s
  | some i => formAttention (respond .ok (setStore (s.tks.closeUpload i) s))

/-- TAKE-ERASE (R157). -/
def takeEraseWork (number : Byte) (s : State) : State :=
  match s.erasable number with
  | none => respond (.refused .badArgs) s
  | some i =>
    if s.inUse number then respond (.refused .busy) s
    else formAttention (respond .ok (setStore (s.tks.eraseEntry i) s))

/-! ## Lens tables (R101) -/

/-- The LENS axis that a command names. -/
def State.lensAxis (s : State) (axis : Byte) : Option AxisNo :=
  if axis.toNat ≤ 3 ∧ s.isLens (Fin.ofNat 4 axis.toNat) = true then some (Fin.ofNat 4 axis.toNat) else none

/-- The first n pairs of a table write, as numbers. -/
def tablePairs (n : Nat) (pairs : List (Word16 × Word16)) : List (Nat × Nat) :=
  (pairs.take n).map fun p => (p.1.toNat, p.2.toNat)

/-- The owner keeps a table fixed (R101). -/
def Owner.keepsTable (o : Owner) : Bool := decide (o = .take) || decide (o = .cal)

/-- LENS-TABLE write (R101). -/
def lensTableWriteWork (axis count : Byte) (pairs : List (Word16 × Word16)) (s : State) : State :=
  match s.lensAxis axis with
  | none => respond (.refused .badArgs) s
  | some i =>
    if s.axes[i].dsl.owner.keepsTable then respond (.refused .busy) s
    else if count.toNat ≤ 16 ∧ tableWellFormed (tablePairs count.toNat pairs) = true then
      respond .ok (s.modAxis i fun a => { a with
        lens := { a.lens with table := tablePairs count.toNat pairs, fromPort := true } })
    else respond (.refused .badTable) s

/-- LENS-TABLE read (R101); the pairs after the n-th are 0 (12.5). -/
def lensTableReadWork (axis : Byte) (s : State) : State :=
  match s.lensAxis axis with
  | none => respond (.refused .badArgs) s
  | some i =>
    let t := s.axes[i].lens.table
    respond (.table t.length s.axes[i].lens.fromPort ((t ++ List.replicate 16 (0, 0)).take 16)) s

/-! ## SEND-CUE (R163, R189, R196) -/

/-- SEND-CUE: refused for a kind or a sample period code out of range or a refused placement (R189, R196), else placed with the
own sequence (R163). The table of R163 says 0 in a field that the kind does not use (a parameter for GO, a take number for RESUME)
and R189 names no refusal of another value there: the cue carries every argument as given (DESIGN CHOICE, log 38). -/
def sendCueWork (kind number mask parameter : Byte) (s : State) : State :=
  match cueKindOf kind.toNat with
  | none => respond (.refused .badArgs) s
  | some k =>
    if k = .armRecord ∧ 2 < parameter.toNat then respond (.refused .badArgs) s
    else if s.lif.takesCue then respond .ok (placeOwnCue k number mask parameter s)
    else respond (.refused .queueFull) s

/-! ## Flags, enables, snapshot (R191 to R193) -/

/-- CLEAR-REQUESTS: each flag whose bit is 0 is cleared (R191). -/
def clearRequestsWork (bits : Word16) (s : State) : State :=
  formAttention (respond .ok { s with svp := { s.svp with flags := s.svp.flags &&& bits } })

/-- WRITE-ENABLES: the enable mask is replaced; bits 10 to 15 are ignored (R192, R196). -/
def writeEnablesWork (mask : Word16) (s : State) : State :=
  formAttention (respond .ok { s with svp := { s.svp with enables := mask &&& flagMask } })

/-- READ-SNAPSHOT: the snapshot is returned, emptied and armed again (R193). -/
def readSnapshotWork (s : State) : State :=
  respond (.snapshot s.svp.snap) { s with svp := { s.svp with snap := none, snapArmed := true } }

/-- READ-REQUESTS (R189, R196). -/
def readRequestsWork (s : State) : State := respond (.requests (s.svp.flags &&& flagMask) (s.svp.enables &&& flagMask)) s

/-! ## Transfers that name no command or end early (R187) -/

/-- A command byte that names no command is counted and answered (R187); a byte that names one is another row's (log 19). -/
def badCommandWork (command : Byte) (s : State) : State :=
  if commandBytes.contains command then s
  else respond (.refused .badCommand) { s with svp := { s.svp with badCommands := satInc s.svp.badCommands } }

/-- A select that rises early is counted; during the response, the unsent part is lost (R187). -/
def shortTransferWork (duringResponse : Bool) (s : State) : State :=
  { s with svp := { s.svp with
      shortTransfers := satInc s.svp.shortTransfers
      responseCut := s.svp.responseCut || duringResponse } }

end Sys2Proof.Machine
end

