-- ==== Sys2Proof/Machine/PortCommands.lean ====
section
/-! DEFINITION. The meanings of the commands of the service port (11.3, 12.5).
Each answers a next state: no command stops the station. -/

namespace Sys2Proof.Machine

/-- READ-TAKEDIR: the directory, the free-list count and its head, none for END (R149, R150). -/
def readTakedirWork (s : State) : State := respond (.takedir s.tks.dir s.tks.free.length s.tks.free.head?) s

/-- READ_STATION (R189). -/
def execReadStation (s : State) : Host.Outcome State Fault Refusal :=
  .next (portCommand true (fun t => respond (.station (stationReport t)) t) s)

/-- READ_PEER (R189). -/
def execReadPeer (station : Byte) (s : State) : Host.Outcome State Fault Refusal :=
  .next (portCommand false (readPeerWork station) s)

/-- READ_AXIS (R189). -/
def execReadAxis (axis : Byte) (s : State) : Host.Outcome State Fault Refusal :=
  .next (portCommand false (readAxisWork axis) s)

/-- READ_INPUTS (R43, R190). -/
def execReadInputs (s : State) : Host.Outcome State Fault Refusal := .next (portCommand false readInputsWork s)

/-- READ_COUNTERS (R190). -/
def execReadCounters (s : State) : Host.Outcome State Fault Refusal := .next (portCommand true readCountersWork s)

/-- READ_TAKEDIR (R150, R189). -/
def execReadTakedir (s : State) : Host.Outcome State Fault Refusal := .next (portCommand false readTakedirWork s)

/-- TAKE_READ (R161). -/
def execTakeRead (number : Byte) (block : Word16) (s : State) : Host.Outcome State Fault Refusal :=
  .next (portCommand false (takeReadWork number block) s)

/-- TAKE_CREATE (R158). -/
def execTakeCreate (number mask period : Byte) (length : BitVec 24) (s : State) : Host.Outcome State Fault Refusal :=
  .next (portCommand false (takeCreateWork number mask period length) s)

/-- TAKE_WRITE (R159). -/
def execTakeWrite (number : Byte) (block : Word16) (words : List Word32) (s : State) : Host.Outcome State Fault Refusal :=
  .next (portCommand false (takeWriteWork number block words) s)

/-- TAKE_CLOSE (R160). -/
def execTakeClose (number : Byte) (s : State) : Host.Outcome State Fault Refusal :=
  .next (portCommand false (takeCloseWork number) s)

/-- TAKE_ERASE (R157). -/
def execTakeErase (number : Byte) (s : State) : Host.Outcome State Fault Refusal :=
  .next (portCommand false (takeEraseWork number) s)

/-- LENS_TABLE_WRITE (R101). -/
def execLensTableWrite (axis count : Byte) (pairs : List (Word16 × Word16)) (s : State) : Host.Outcome State Fault Refusal :=
  .next (portCommand false (lensTableWriteWork axis count pairs) s)

/-- LENS_TABLE_READ (R101). -/
def execLensTableRead (axis : Byte) (s : State) : Host.Outcome State Fault Refusal :=
  .next (portCommand false (lensTableReadWork axis) s)

/-- SEND_CUE (R163, R189). -/
def execSendCue (kind number mask parameter : Byte) (s : State) : Host.Outcome State Fault Refusal :=
  .next (portCommand false (sendCueWork kind number mask parameter) s)

/-- READ_REQUESTS (R189). -/
def execReadRequests (s : State) : Host.Outcome State Fault Refusal := .next (portCommand true readRequestsWork s)

/-- CLEAR_REQUESTS (R191). -/
def execClearRequests (bits : Word16) (s : State) : Host.Outcome State Fault Refusal :=
  .next (portCommand true (clearRequestsWork bits) s)

/-- WRITE_ENABLES (R192). -/
def execWriteEnables (mask : Word16) (s : State) : Host.Outcome State Fault Refusal :=
  .next (portCommand true (writeEnablesWork mask) s)

/-- READ_SNAPSHOT (R193). -/
def execReadSnapshot (s : State) : Host.Outcome State Fault Refusal := .next (portCommand true readSnapshotWork s)

/-- BAD_COMMAND (R187, R188). -/
def execBadCommand (command : Byte) (s : State) : Host.Outcome State Fault Refusal :=
  .next (portCommand true (badCommandWork command) s)

/-- SHORT_TRANSFER (R187). -/
def execShortTransfer (duringResponse : Bool) (s : State) : Host.Outcome State Fault Refusal :=
  .next (portCommand true (shortTransferWork duringResponse) s)

end Sys2Proof.Machine
end

