-- ==== Sys2Proof/Machine/ResetCommands.lean ====
section
/-! DEFINITION. The meanings of the commands of a reset and of a load (11.1, 11.2).
Each answers a next state: no command stops the station. -/

namespace Sys2Proof.Machine

/-- POWER_ON_RESET: the supply monitor holds the part (R182). -/
def execPowerOnReset (s : State) : Host.Outcome State Fault Refusal := .next (powerOnHold s)

/-- PIN_RESET: the reset pin low for a time (R182). -/
def execPinReset (lowMicros : Nat) (s : State) : Host.Outcome State Fault Refusal := .next (pinHold lowMicros s)

/-- RESET_RELEASE: both sources let the part go, and a start begins (R182). -/
def execResetRelease (s : State) : Host.Outcome State Fault Refusal := .next (releaseReset s)

/-- CONFIG_READ_START: the read of the configuration memory begins (R183). -/
def execConfigReadStart (s : State) : Host.Outcome State Fault Refusal := .next (readStart s)

/-- CONFIG_READ_DONE: the checks run, and the load ends (R184 to R186). -/
def execConfigReadDone (image : List Byte) (levels : Word16) (s : State) : Host.Outcome State Fault Refusal :=
  .next (readDone image levels s)

end Sys2Proof.Machine
end

