-- ==== Sys2Proof/Machine/Dispatch.lean ====
section
/-! DEFINITION. The dispatch of a command to its meaning, one arm for each constructor of Instr. -/

namespace Sys2Proof.Machine

def exec (i : Instr) (s : State) : Host.Outcome State Fault Refusal :=
  match i with
  | .powerOnReset => Sys2Proof.Machine.execPowerOnReset s
  | .pinReset lowMicros => Sys2Proof.Machine.execPinReset lowMicros s
  | .resetRelease => Sys2Proof.Machine.execResetRelease s
  | .configReadStart => Sys2Proof.Machine.execConfigReadStart s
  | .configReadDone image levels => Sys2Proof.Machine.execConfigReadDone image levels s
  | .controlPeriodBoundary levels => Sys2Proof.Machine.execControlPeriodBoundary levels s
  | .qualifiedEdge line => Sys2Proof.Machine.execQualifiedEdge line s
  | .estopEdge line level => Sys2Proof.Machine.execEstopEdge line level s
  | .handwheelCount wheel phaseA phaseB => Sys2Proof.Machine.execHandwheelCount wheel phaseA phaseB s
  | .demandPeriodBoundary => Sys2Proof.Machine.execDemandPeriodBoundary s
  | .statusPeriod => Sys2Proof.Machine.execStatusPeriod s
  | .axisPeriod => Sys2Proof.Machine.execAxisPeriod s
  | .frameStart idleCells => Sys2Proof.Machine.execFrameStart idleCells s
  | .attemptEnd cells => Sys2Proof.Machine.execAttemptEnd cells s
  | .probeDue => Sys2Proof.Machine.execProbeDue s
  | .statusEscalation => Sys2Proof.Machine.execStatusEscalation s
  | .checkWindowEnd => Sys2Proof.Machine.execCheckWindowEnd s
  | .stopFrame w => Sys2Proof.Machine.execStopFrame w s
  | .statusFrame urgent w => Sys2Proof.Machine.execStatusFrame urgent w s
  | .demandFrame w => Sys2Proof.Machine.execDemandFrame w s
  | .axisFrame w => Sys2Proof.Machine.execAxisFrame w s
  | .unknownClass seven w => Sys2Proof.Machine.execUnknownClass seven w s
  | .armRecord w => Sys2Proof.Machine.execArmRecord w s
  | .armPlay w => Sys2Proof.Machine.execArmPlay w s
  | .go w => Sys2Proof.Machine.execGo w s
  | .halt w => Sys2Proof.Machine.execHalt w s
  | .disarm w => Sys2Proof.Machine.execDisarm w s
  | .resume w => Sys2Proof.Machine.execResume w s
  | .erase w => Sys2Proof.Machine.execErase w s
  | .calibrate w => Sys2Proof.Machine.execCalibrate w s
  | .livenessTimeout station => Sys2Proof.Machine.execLivenessTimeout station s
  | .demandTimeout axis => Sys2Proof.Machine.execDemandTimeout axis s
  | .reportStale station axis => Sys2Proof.Machine.execReportStale station axis s
  | .encoderRead axis samples => Sys2Proof.Machine.execEncoderRead axis samples s
  | .dwellEnd axis => Sys2Proof.Machine.execDwellEnd axis s
  | .windowEnd axis => Sys2Proof.Machine.execWindowEnd axis s
  | .seekStall axis => Sys2Proof.Machine.execSeekStall axis s
  | .blocked axis => Sys2Proof.Machine.execBlocked axis s
  | .brakeTimer axis => Sys2Proof.Machine.execBrakeTimer axis s
  | .driveOnBoundary => Sys2Proof.Machine.execDriveOnBoundary s
  | .releaseTimer axis => Sys2Proof.Machine.execReleaseTimer axis s
  | .holdLimit => Sys2Proof.Machine.execHoldLimit s
  | .endReached => Sys2Proof.Machine.execEndReached s
  | .sampleAppend => Sys2Proof.Machine.execSampleAppend s
  | .readStation => Sys2Proof.Machine.execReadStation s
  | .readPeer station => Sys2Proof.Machine.execReadPeer station s
  | .readAxis axis => Sys2Proof.Machine.execReadAxis axis s
  | .readInputs => Sys2Proof.Machine.execReadInputs s
  | .readCounters => Sys2Proof.Machine.execReadCounters s
  | .readTakedir => Sys2Proof.Machine.execReadTakedir s
  | .takeRead number block => Sys2Proof.Machine.execTakeRead number block s
  | .takeCreate number mask period length => Sys2Proof.Machine.execTakeCreate number mask period length s
  | .takeWrite number block words => Sys2Proof.Machine.execTakeWrite number block words s
  | .takeClose number => Sys2Proof.Machine.execTakeClose number s
  | .takeErase number => Sys2Proof.Machine.execTakeErase number s
  | .lensTableWrite axis count pairs => Sys2Proof.Machine.execLensTableWrite axis count pairs s
  | .lensTableRead axis => Sys2Proof.Machine.execLensTableRead axis s
  | .sendCue kind number mask parameter => Sys2Proof.Machine.execSendCue kind number mask parameter s
  | .readRequests => Sys2Proof.Machine.execReadRequests s
  | .clearRequests bits => Sys2Proof.Machine.execClearRequests bits s
  | .writeEnables mask => Sys2Proof.Machine.execWriteEnables mask s
  | .readSnapshot => Sys2Proof.Machine.execReadSnapshot s
  | .badCommand command => Sys2Proof.Machine.execBadCommand command s
  | .shortTransfer duringResponse => Sys2Proof.Machine.execShortTransfer duringResponse s

end Sys2Proof.Machine
end

