-- ==== Sys2Proof/Machine/PortBytes.lean ====
section
/-! DEFINITION. What a service port response looks like on the wire (12.4, 12.5): the result code first, then the data in
the order of its fields, most significant byte first, signed values in two's complement (R188, R194). Where 12.5 gives the
order of the fields and not their widths, the widths are the model's; a code that no table assigns and the bytes of an absent
value are free values (log 9). -/

namespace Sys2Proof.Machine

/-- The codes of the results other than OK, which is 0 (12.4). -/
def resultCode : Result → Nat
  | .badCommand => 1
  | .badArgs => 2
  | .busy => 3
  | .takeExists => 4
  | .dirFull => 5
  | .noSpace => 6
  | .badTable => 7
  | .queueFull => 8

/-- The codes of the refusal reasons, 0 being none; 8 is not used (12.4). -/
def refusalCode : Option RefusalReason → Nat
  | none => 0
  | some .stopped => 1
  | some .badNumber => 2
  | some .notRoster => 3
  | some .noAxis => 4
  | some .takeExists => 5
  | some .dirFull => 6
  | some .noTake => 7
  | some .notCalibrated => 9
  | some .bounds => 10

/-- The codes of the end kinds (12.4). -/
def endKindCode : Option EndKind → Nat
  | none => 0
  | some .endReached => 1
  | some .halted => 2
  | some .storeFull => 3

/-- The codes of the abort kinds (12.4). -/
def abortKindCode : Option AbortKind → Nat
  | none => 0
  | some .byStop => 1
  | some .withoutStop => 2

/-- A word in two bytes (R194). -/
def wordBytes (w : Word16) : List Byte := natBytes 2 w.toNat

/-! ## The bytes of one field (R194, log 9) -/

/-- The codes of a response that no table of chapter 12 assigns. -/
inductive PortCode where
  | load (x : LoadState)
  | mode (x : Option TakeMode)
  | mute (x : Mute)
  | kind (x : AxisKind)
  | owner (x : Owner)
  | gate (x : Gate)
  | profiler (x : ProfilerMode)
  | link (x : LinkState)
  | calibration (x : CalState)
  | calReason (x : Option CalReason)
  | presence (x : Presence)
  | entry (x : EntryState)
  | origin (uploaded : Bool)
deriving DecidableEq, Repr

/-- The fields of a response that can hold no value. -/
inductive PortField where
  | faultReason | faultItem | firstCause | categoryOrigin | blocking | lastArm | armPeriod
  | lastStatus | reportArrival | cueSequence | demandSequence
  | liveUnit | heldCount | measured | following | low | high | span | seekStart | lastUnit
  | firstBlock | lastBlock | axisValues | freeHead
deriving DecidableEq, Repr

/-- Free value: the byte of a code that chapter 12 does not assign (log 9). -/
opaque Config.codeByte (c : PortCode) : Byte

/-- Free value: byte k of a field that holds no value, which chapter 12 does not spell (log 9). -/
opaque Config.noneByte (f : PortField) (k : Nat) : Byte

/-- A flag or mark, in a byte of its own as the marks of READ-SNAPSHOT and LENS-TABLE read are (12.5). -/
def flagByte (b : Bool) : Byte := BitVec.ofNat 8 b.toNat

/-- A code that chapter 12 assigns, in one byte. -/
def codeByte (n : Nat) : Byte := BitVec.ofNat 8 n

/-- A signed value in n bytes, two's complement (R194). -/
def signedBytes (n : Nat) (x : Int) : List Byte := natBytes n (unsignedOf (8 * n) x)

/-- A count of an axis in four bytes, as 12.2 and 12.3 carry one. -/
def countBytes (x : Int) : List Byte := signedBytes 4 x

/-- A station time of 48 bits (R186). -/
def timeBytes (t : Nat) : List Byte := natBytes 6 t

/-- A field of n bytes that may hold no value. -/
def fieldBytes {α : Type} (f : PortField) (n : Nat) (spell : α → List Byte) : Option α → List Byte
  | some x => spell x
  | none => (countFrom 0 n).map (Config.noneByte f)

/-- The code of a sample period (12.2). -/
def periodCode (ms : Nat) : Nat := if ms = 5 then 0 else if ms = 10 then 1 else 2

/-- A list of axes as an axis mask, bit k for axis k (12.2). -/
def axesByte (axes : List AxisNo) : Byte := BitVec.ofNat 8 (axes.foldl (fun n i => n ||| 2 ^ i.val) 0)

/-! ## The fields of each response, in the order of their rules -/

/-- The fault reason: the check number and the item (R185). -/
def faultBytes : Option (Nat × Option Nat) → List Byte :=
  fieldBytes .faultReason 2 fun r => natBytes 1 r.1 ++ fieldBytes .faultItem 1 (natBytes 1) r.2

/-- A cause set: for each code 1 to 14 its local mark and its remote mark (R131). -/
def causeMarks (localMarks remoteMarks : List Cause) : List Byte :=
  (countFrom 1 14).flatMap fun n =>
    [flagByte (localMarks.any fun k => decide (causeCode k = n)), flagByte (remoteMarks.any fun k => decide (causeCode k = n))]

/-- A first cause: code, origin station, station time (R131). -/
def firstCauseBytes : Option (Cause × StationNo × Nat) → List Byte :=
  fieldBytes .firstCause 8 fun f => codeByte (causeCode f.1) :: natBytes 1 f.2.1.val ++ timeBytes f.2.2

/-- The stop record without the last sequences seen (R131). -/
def StopRecord.bytes (r : StopRecord) : List Byte :=
  [codeByte (stopStateCode r.state), codeByte (categoryCode r.category)] ++ causeMarks r.localMarks r.remoteMarks
    ++ firstCauseBytes r.first ++ fieldBytes .categoryOrigin 1 (fun st => natBytes 1 st.val) r.origin
    ++ [r.seq, flagByte r.resumeBlocked] ++ fieldBytes .blocking 1 (fun k => [codeByte (causeCode k)]) r.blocking

/-- The last-ARM context record: kind, take number, participant mask, period code, sender (R37). -/
def armBytes : Option ArmContext → List Byte :=
  fieldBytes .lastArm 5 fun a =>
    [codeByte (cueKindCode (if a.record then .armRecord else .armPlay)), a.number, a.mask]
      ++ fieldBytes .armPeriod 1 (fun p => [codeByte (periodCode p)]) a.period ++ natBytes 1 a.sender.val

/-- A list of pairs of flags. -/
def pairBytes {n : Nat} (pairs : Vector (Bool × Bool) n) : List Byte :=
  pairs.toList.flatMap fun p => [flagByte p.1, flagByte p.2]

/-- The data of READ-STATION (R189). -/
def StationReport.bytes (r : StationReport) : List Byte :=
  Config.codeByte (.load r.load) :: faultBytes r.fault ++ natBytes 1 r.own.val ++ timeBytes r.time ++ r.stop.bytes
    ++ [codeByte (takeStateCode r.take), Config.codeByte (.mode r.mode), r.number] ++ natBytes 3 r.t
    ++ [codeByte (refusalCode r.reason), codeByte (endKindCode r.endKind), codeByte (abortKindCode r.abortKind)]
    ++ armBytes r.lastArm ++ [Config.codeByte (.mute r.mute)] ++ pairBytes r.zones ++ [flagByte r.crewWarn]
    ++ wordBytes r.word ++ pairBytes r.outputs

/-- An axis report: the message as 12.2 lays it out, and its arrival time (R25). -/
def AxisReport.bytes (r : AxisReport) : List Byte :=
  axisPayload { position := r.position, velocity := r.velocity, valid := r.valid, atTarget := r.atTarget, driveOn := r.driveOn }
    ++ fieldBytes .reportArrival 6 timeBytes r.arrival

/-- The data of READ-PEER: the fields of R25 in table order, the last STATUS as 12.2 lays it out. -/
def PeerEntry.bytes (e : PeerEntry) : List Byte :=
  Config.codeByte (.presence e.presence) :: natBytes 1 e.count ++ fieldBytes .lastStatus 8 statusPayload e.last
    ++ timeBytes e.arrival ++ [flagByte e.marker] ++ e.reports.toList.flatMap AxisReport.bytes
    ++ fieldBytes .cueSequence 1 (fun q => [q]) e.cueSeq
    ++ e.demandSeq.toList.flatMap (fieldBytes .demandSequence 1 fun q => natBytes 1 q.toNat)
    ++ e.gaps.toList.flatMap (natBytes 2)

/-- The gate and demand fields of R50: the live target is a Q8 velocity, or a lens unit of a LENS axis.
That the held target count stands among them, and that they stand in the order of R50's table, is the model's (DESIGN CHOICE,
log 36). -/
def Dsl.bytes (kind : AxisKind) (d : Dsl) : List Byte :=
  [Config.codeByte (.owner d.owner), Config.codeByte (.gate d.gate), flagByte d.latch]
    ++ (if kind = .lens then fieldBytes .liveUnit 4 (natBytes 4) d.liveUnit else signedBytes 4 d.liveVel)
    ++ natBytes 2 d.fresh ++ fieldBytes .heldCount 4 countBytes d.held

/-- The profiler fields of R66; a Q8 position takes 40 bits. -/
def Mpr.bytes (m : Mpr) : List Byte :=
  signedBytes 5 m.p ++ signedBytes 4 m.v ++ [Config.codeByte (.profiler m.mode), flagByte m.atTarget, flagByte m.atRest]
    ++ countBytes m.count

/-- The link fields that R82 names for READ-AXIS. -/
def Link.bytes (l : Link) (valid : Bool) : List Byte :=
  Config.codeByte (.link l.state) :: natBytes 1 l.delay ++ natBytes 1 l.pass ++ fieldBytes .measured 4 countBytes l.measured
    ++ [flagByte valid, flagByte l.warning] ++ fieldBytes .following 4 countBytes l.following

/-- The calibration record without its timers (R104). -/
def Cal.bytes (r : Cal) : List Byte :=
  Config.codeByte (.calibration r.state) :: fieldBytes .low 4 countBytes r.low ++ fieldBytes .high 4 countBytes r.high
    ++ fieldBytes .span 4 countBytes r.span ++ [Config.codeByte (.calReason r.reason)]
    ++ fieldBytes .seekStart 4 countBytes r.seekStart ++ [flagByte r.autoPending]

/-- The data of READ-AXIS (R189). R97 and R98 give the drive fields no order: enable, DRIVE-FAULT state, brake release is the
model's (DESIGN CHOICE, log 36). -/
def AxisView.bytes (v : AxisView) : List Byte :=
  Config.codeByte (.kind v.kind) :: v.dsl.bytes v.kind ++ v.mpr.bytes ++ natBytes 4 v.cap ++ v.link.bytes v.positionValid
    ++ [flagByte v.enable, flagByte v.driveFault, flagByte v.released] ++ v.cal.bytes
    ++ fieldBytes .lastUnit 2 (natBytes 2) v.lastUnit

/-- The counters of READ-COUNTERS as two bytes each, in the order of R190 (12.5). -/
def CounterReport.counterBytes (r : CounterReport) : List Byte :=
  (r.line ++ [r.mismatched, r.foreign] ++ r.frameErrors
    ++ [r.calIgnored, r.eraseIgnored, r.armIgnored, r.goDeclined, r.shortTransfers, r.badCommands]).flatMap (natBytes 2)

/-- The data of READ-COUNTERS: the counters, then the check-failure threshold flag and each axis's alert flag (R190). -/
def CounterReport.bytes (r : CounterReport) : List Byte := r.counterBytes ++ (r.thresholdFlag :: r.alerts).map flagByte

/-- The values of a listed axis: minimum, maximum, first sample (R150). -/
def AxisStat.bytes (x : AxisStat) : List Byte := signedBytes 4 x.minimum ++ signedBytes 4 x.maximum ++ signedBytes 4 x.firstSample

/-- A directory entry in table order (R150). -/
def DirEntry.bytes (e : DirEntry) : List Byte :=
  [e.number, Config.codeByte (.entry e.state), Config.codeByte (.origin e.uploaded), codeByte (periodCode e.period),
    axesByte e.axes] ++ natBytes 3 e.length ++ fieldBytes .firstBlock 2 (natBytes 2) e.first
    ++ fieldBytes .lastBlock 2 (natBytes 2) e.last ++ natBytes 2 e.blocks
    ++ fieldBytes .axisValues (12 * e.axes.length) (List.flatMap AxisStat.bytes) e.stats

/-- The fields of a filled snapshot (R193). -/
def Snapshot.bytes (x : Snapshot) : List Byte :=
  timeBytes x.time ++ wordBytes x.flags ++ [codeByte (stopStateCode x.stop), codeByte (categoryCode x.category)]
    ++ firstCauseBytes x.first ++ causeMarks x.localMarks x.remoteMarks ++ [codeByte (takeStateCode x.take), x.number]
    ++ natBytes 3 x.t ++ x.presence.toList.map fun p => Config.codeByte (.presence p)

/-- The data of READ-SNAPSHOT: the armed-and-empty mark, then the snapshot; an empty one is its mark alone (12.5, R193). -/
def snapshotBytes : Option Snapshot → List Byte
  | none => [flagByte true]
  | some x => flagByte false :: x.bytes

/-! ## A response (R188, 12.5) -/

/-- The bytes of a response, the result code first. -/
def Response.bytes : Response → List Byte
  | .refused r => [codeByte (resultCode r)]
  | .ok => [0]
  | .station r => 0 :: r.bytes
  | .peer e => 0 :: e.bytes
  | .axis v => 0 :: v.bytes
  | .inputs levels unqualified latches => 0 :: (wordBytes levels ++ wordBytes unqualified ++ wordBytes latches)
  | .counters r => 0 :: r.bytes
  | .takedir entries count head => 0 :: (entries.toList.flatMap DirEntry.bytes ++ natBytes 2 count
      ++ fieldBytes .freeHead 2 (natBytes 2) head)
  | .block words => 0 :: words.flatMap fun w => natBytes 4 w.toNat
  | .table count fromPort pairs => 0 :: BitVec.ofNat 8 count :: flagByte fromPort
      :: pairs.flatMap fun p => natBytes 2 p.1 ++ natBytes 2 p.2
  | .requests flags enables => 0 :: (wordBytes flags ++ wordBytes enables)
  | .snapshot x => 0 :: snapshotBytes x

end Sys2Proof.Machine
end

