-- ==== Sys2Proof/Machine/Transfer.lean ====
section
/-! DEFINITION. A transfer of the service port byte by byte (R187, 12.5): which command the bytes shifted in spell, what that
does, and the bytes shifted out meanwhile. The commands themselves are rows of the table; a transfer is the way in which the
board processor sends one (log 30). -/

namespace Sys2Proof.Machine

/-! ## The command that a transfer spells (12.5, R194) -/

/-- How many argument bytes a command byte takes; none for a byte that names no command (12.5). -/
def argumentCount (command : Byte) : Option Nat :=
  match command.toNat with
  | 0x01 | 0x04 | 0x05 | 0x06 | 0x40 | 0x43 => some 0
  | 0x02 | 0x03 | 0x13 | 0x14 | 0x21 => some 1
  | 0x41 | 0x42 => some 2
  | 0x10 => some 3
  | 0x30 => some 4
  | 0x11 => some 6
  | 0x20 => some 66
  | 0x12 => some 259
  | _ => none

/-- The number in n argument bytes from byte k on, most significant byte first (R194). -/
def argNat (args : List Byte) (k n : Nat) : Nat := bytesNat ((args.drop k).take n)

/-- The 16-bit argument from byte k on. -/
def argWord (args : List Byte) (k : Nat) : Word16 := BitVec.ofNat 16 (argNat args k 2)

/-- The 64 words of TAKE-WRITE, from argument byte 3 on (12.5). -/
def argWords (args : List Byte) : List Word32 := (countFrom 0 64).map fun j => BitVec.ofNat 32 (argNat args (3 + 4 * j) 4)

/-- The sixteen pairs of LENS-TABLE write, from argument byte 2 on (12.5). -/
def argPairs (args : List Byte) : List (Word16 × Word16) :=
  (countFrom 0 16).map fun j => (argWord args (2 + 4 * j), argWord args (4 + 4 * j))

/-- The command that a command byte and its argument bytes spell (12.5). -/
def spelled (command : Byte) (args : List Byte) : Instr :=
  let arg (k : Nat) : Byte := args.getD k 0
  match command.toNat with
  | 0x01 => .readStation
  | 0x02 => .readPeer (arg 0)
  | 0x03 => .readAxis (arg 0)
  | 0x04 => .readInputs
  | 0x05 => .readCounters
  | 0x06 => .readTakedir
  | 0x10 => .takeRead (arg 0) (argWord args 1)
  | 0x11 => .takeCreate (arg 0) (arg 1) (arg 2) (BitVec.ofNat 24 (argNat args 3 3))
  | 0x12 => .takeWrite (arg 0) (argWord args 1) (argWords args)
  | 0x13 => .takeClose (arg 0)
  | 0x14 => .takeErase (arg 0)
  | 0x20 => .lensTableWrite (arg 0) (arg 1) (argPairs args)
  | 0x21 => .lensTableRead (arg 0)
  | 0x30 => .sendCue (arg 0) (arg 1) (arg 2) (arg 3)
  | 0x40 => .readRequests
  | 0x41 => .clearRequests (argWord args 0)
  | 0x42 => .writeEnables (argWord args 0)
  | 0x43 => .readSnapshot
  | _ => .badCommand command

/-- The bytes that a board processor shifts in for a command of the service port: the command byte and its arguments, most
significant byte first (12.5, R194). -/
def shiftedIn : Instr → Option (List Byte)
  | .readStation => some [0x01]
  | .readPeer station => some [0x02, station]
  | .readAxis axis => some [0x03, axis]
  | .readInputs => some [0x04]
  | .readCounters => some [0x05]
  | .readTakedir => some [0x06]
  | .takeRead number block => some ([0x10, number] ++ wordBytes block)
  | .takeCreate number mask period length => some ([0x11, number, mask, period] ++ natBytes 3 length.toNat)
  | .takeWrite number block words =>
    some ([0x12, number] ++ wordBytes block ++ words.flatMap fun w => natBytes 4 w.toNat)
  | .takeClose number => some [0x13, number]
  | .takeErase number => some [0x14, number]
  | .lensTableWrite axis count pairs =>
    some ([0x20, axis, count] ++ pairs.flatMap fun p => wordBytes p.1 ++ wordBytes p.2)
  | .lensTableRead axis => some [0x21, axis]
  | .sendCue kind number mask parameter => some [0x30, kind, number, mask, parameter]
  | .readRequests => some [0x40]
  | .clearRequests bits => some (0x41 :: wordBytes bits)
  | .writeEnables mask => some (0x42 :: wordBytes mask)
  | .readSnapshot => some [0x43]
  | .badCommand command => some [command]
  | _ => none

/-- What the bytes of a transfer, from the fall of select to its rise, come to: the command once its last argument byte has
arrived, with the number of bytes it has taken; a select that rises before that ends the transfer unexecuted (R187; a
transfer without any byte is such a one, log 30). -/
def transferred : List Byte → Instr × Nat
  | [] => (.shortTransfer false, 0)
  | command :: rest =>
    match argumentCount command with
    | none => (.badCommand command, 1)
    | some n => if rest.length < n then (.shortTransfer false, rest.length + 1) else (spelled command (rest.take n), n + 1)

/-! ## The transfer (R187) -/

/-- The bytes of the response that stands in the port. -/
def State.responseBytes (s : State) : List Byte :=
  match s.svp.response with
  | none => []
  | some r => r.bytes

/-- The bytes that a command which has been carried out shifts out: none for a transfer that ended unexecuted. -/
def answered (c : Instr) (t : State) : List Byte :=
  match c with
  | .shortTransfer _ => []
  | _ => t.responseBytes

/-- A whole transfer: the command it comes to is executed in one event, and a select that rises before the last response byte
has been shifted out is counted (R187). -/
def transfer (bytes : List Byte) (s : State) : Host.Outcome State Fault Refusal :=
  match exec (transferred bytes).1 s with
  | .next t =>
    if bytes.length < (transferred bytes).2 + (answered (transferred bytes).1 t).length then exec (.shortTransfer true) t
    else .next t
  | o => o

/-- The fill byte (12.5). -/
def fillByte : Byte := 0xFF#8

/-- The bytes shifted out, one for each byte in: fill while the command and its arguments come in, then the response, and
fill after its last byte (R187, 12.5). While the part is held in reset the data output is undriven, and nothing is shifted
out (R182). -/
def shiftedOut (bytes : List Byte) (s : State) : Option (List Byte) :=
  if s.inReset then none
  else match exec (transferred bytes).1 s with
    | .next t =>
      some ((List.replicate (transferred bytes).2 fillByte ++ answered (transferred bytes).1 t
        ++ List.replicate bytes.length fillByte).take bytes.length)
    | _ => none

end Sys2Proof.Machine
end

