-- ==== Sys2Proof/Safety.lean ====
section
/-! DEFINITION. What counts as a safe station, and what the reactions of a station to an event leave alone; the claims are
stated in these terms. -/

namespace Sys2Proof.Machine

/-! ## What reactions leave alone

A stop, an announcement of a changed STATUS, a re-forming of gates, zones, owners, caps and outputs, and the attention
output are the reactions to an event. The quiet part of a state is what none of them changes. -/

/-- A line interface without the content that a stop and a STATUS place. -/
def Lif.quiet (l : Lif) : Lif :=
  { l with
    stop := none, status := none, lastPlaced := none, onLine := l.onLine.map fun f => { f with renewed := false } }

/-- An own entry without the mirror of the last STATUS. -/
def PeerEntry.quiet (e : PeerEntry) : PeerEntry := { e with last := none, arrival := 0, marker := false }

/-- An axis without owner, gate, latch, cap, drive switching, stop timers and the progress of a seek. -/
def AxisState.quiet (a : AxisState) : AxisState :=
  { a with
    dsl := { a.dsl with owner := .hold, gate := .opened, latch := false }
    mpr := { a.mpr with reseed := false }
    drive := { a.drive with enable := false, released := false, word := 0 }
    lens := { a.lens with cal := {}, stall := 0, blocked := 0 }
    cap := 0
    brakeTimer := none
    releaseTimer := none }

/-- A store without the states of its entries. -/
def Tks.quiet (t : Tks) : Tks := { t with dir := Vector.ofFn fun i => { t.dir[i] with state := .empty } }

/-- A take record without its state and how it ended by an abort. -/
def Tkq.quiet (q : Tkq) : Tkq := { q with state := .idle, abortKind := none, appendDue := false }

/-- A service port without its flags, attention and snapshot. -/
def Svp.quiet (p : Svp) : Svp := { p with flags := 0, attention := false, snapArmed := false, snap := none }

/-- The part of a state that no reaction changes. -/
def State.quiet (s : State) : State :=
  { s with
    lif := s.lif.quiet
    peers := s.peers.set s.cfg.own s.peers[s.cfg.own].quiet
    word := 0
    outputs := Vector.replicate 8 false
    axes := Vector.ofFn fun i => s.axes[i].quiet
    zones := Vector.replicate 8 {}
    crewWarn := false
    stop := {}
    driveOn := .idle
    tks := s.tks.quiet
    tkq := s.tkq.quiet
    svp := s.svp.quiet }

/-! ## Safe stations -/

/-- The drive of an axis is off, its brake engaged and no brake is on its way to be released. -/
def AxisState.secured (a : AxisState) : Bool := !a.drive.enable && !a.drive.released && decide (a.releaseTimer = none)

/-- Every axis is secured. -/
def State.secured (s : State) : Bool := allAxes.all fun i => s.axes[i].secured

/-- Drives are on only where the specification lets them be: never before the load, never under CUT (R95, R139). -/
def State.drivesSafe (s : State) : Prop :=
  (s.cfl.load ≠ .runReady → s.secured = true) ∧ (s.stop.category = some .cut → s.secured = true)

/-- The stop record agrees with itself: no category is held exactly in RUN and RESUMING, a drive-on boundary is awaited
only in RESUMING, and a release timer runs only there, past the drive-on boundary, on an axis whose brake is still engaged
(R131, R132, R142, R144, R145). -/
def State.stopAgrees (s : State) : Prop :=
  (s.stop.category = none ↔ (s.stop.state = .run ∨ s.stop.state = .resuming))
    ∧ (s.driveOn ≠ .idle → s.stop.state = .resuming)
    ∧ ∀ i : AxisNo, s.axes[i].releaseTimer ≠ none →
        s.stop.state = .resuming ∧ s.driveOn = .idle ∧ s.used i = true ∧ s.axes[i].drive.released = false

/-- A take is armed or under way only while the stop state is RUN (R167, R180). -/
def State.takeAgrees (s : State) : Prop :=
  s.tkq.state = .idle ∨ s.tkq.state = .aborted ∨ s.tkq.state = .refused ∨ s.stop.state = .run

/-- The line word of an operating station carries its sources (R46). -/
def State.settled (s : State) : Prop := s.operating = true → s.word = s.formWord

/-- The owner of every axis of an operating station is the one that R51 gives. -/
def State.owned (s : State) : Prop := s.operating = true → ∀ i : AxisNo, s.axes[i].dsl.owner = s.ownerOf i

/-- The crew-warn state and the cap of every axis of an operating station are the ones that R122 and R123 give. -/
def State.capped (s : State) : Prop :=
  s.operating = true → s.crewWarn = s.crewWarning ∧ ∀ i : AxisNo, s.axes[i].cap = s.capOf s.crewWarn (s.ownerOf i) i

/-- Every output of an operating station has the value of its mapping, a HOLD fallback the value it had (R47). -/
def State.shown (s : State) : Prop := s.operating = true → ∀ k : OutNo, s.outputs[k] = s.outputNow k

/-- Attention is asserted exactly while a set flag is enabled and the part is not held in reset (R182, R192). -/
def State.attends (s : State) : Prop := s.svp.attention = (!s.inReset && s.svp.calling)

/-- An operating station in which everything that an event re-forms at its end stands as its sources give it. An event
that changes none of those sources is then followed by no reaction. -/
def State.calm (s : State) : Prop :=
  s.operating = true ∧ s.settled ∧ s.owned ∧ s.capped ∧ s.shown ∧ s.attends

/-- The commanded velocity and the cap of every axis are within its vmax, and both are 0 before the load (R66, R72, R123,
R128). -/
def State.speedSafe (s : State) : Prop :=
  ∀ i : AxisNo,
    (s.axes[i].mpr.v.natAbs ≤ s.cfg.axes[i].vmax ∧ s.axes[i].cap ≤ s.cfg.axes[i].vmax)
      ∧ (s.cfl.load ≠ .runReady → s.axes[i].mpr.v = 0 ∧ s.axes[i].cap = 0)

/-- The transmit queue within its bounds: 1 to 3 copies of a STOP remaining with the index that follows from them, at most
4 cues with at most 2 attempts used each, and a failure count of at most 16 (R11, R13, R16, R17, R21). -/
def Lif.bounded (l : Lif) : Prop :=
  (∀ x, l.stop = some x → 1 ≤ x.copies ∧ x.copies + x.nextIndex = 3)
    ∧ l.cues.length ≤ 4 ∧ (∀ c ∈ l.cues, c.attempts ≤ 2) ∧ l.failures ≤ 16

/-- Every saturating counter is a 16-bit number (R19, R36, R64, R92, R166, R187). -/
def State.countersFit (s : State) : Prop :=
  (∀ n ∈ (counterReport s).line, n ≤ 65535)
    ∧ (∀ n ∈ (counterReport s).frameErrors, n ≤ 65535)
    ∧ (∀ n ∈ [s.mismatched, s.foreign, s.calIgnored, s.tks.eraseIgnored, s.tkq.armIgnored, s.tkq.goDeclined,
        s.svp.shortTransfers, s.svp.badCommands, s.lif.windowCount], n ≤ 65535)
    ∧ ∀ (st : StationNo) (i : Fin 4), s.peers[st].gaps[i] ≤ 65535

/-- The store's bytes are in canonical form. -/
def State.storeSound (s : State) : Prop := Memory.wf s.tks.mem

/-- A directory entry agrees with its chain: an EMPTY entry holds the values of an EMPTY entry, and any other lists one to
four axes and has a chain of as many blocks as its length needs, whose last block is its last block and has the link END
(R148, R150, R151). -/
def Tks.entrySound (t : Tks) (e : DirEntry) : Prop :=
  (e.state = .empty → e = {})
    ∧ (e.state ≠ .empty → 1 ≤ e.axes.length ∧ e.axes.length ≤ 4 ∧ 1 ≤ e.length
      ∧ e.blocks = (e.length + 64 / e.axes.length - 1) / (64 / e.axes.length)
      ∧ (t.chain e).length = e.blocks ∧ (t.chain e).getLast? = e.last ∧ ∀ l, e.last = some l → look t.links l = none)

/-- The free list and the chains of all takes together hold each of the 2048 blocks exactly once, every free block has the
link END, and every entry agrees with its chain (R148, R149). -/
def Tks.blocksSound (t : Tks) : Prop :=
  (t.free ++ allSixteen.flatMap fun i => t.chain t.dir[i]).Perm (countFrom 0 2048)
    ∧ (∀ b ∈ t.free, look t.links b = none) ∧ ∀ i : EntryNo, t.entrySound t.dir[i]

/-- The store's blocks are in order, and a recording that is armed lists one to four axes (R149, R168). -/
def State.blocksSound (s : State) : Prop :=
  s.tks.blocksSound
    ∧ (s.tkq.mode = some .record → s.tkq.state = .armed → 1 ≤ s.tkq.axes.length ∧ s.tkq.axes.length ≤ 4)

/-! ## The checks of a load, as ranges of the settings (R184) -/

/-- What check n of R184 asks of one axis, for the checks 9 to 16 that concern the value of a setting. -/
def axisPasses (c : AxisCfg) : Nat → Prop
  | 9 => c.softLow < c.softHigh ∧ -(2 ^ 30) ≤ c.softLow ∧ c.softHigh ≤ 2 ^ 30
  | 10 => 1 ≤ c.vmax ∧ c.vmax ≤ 2 ^ 20 ∧ 1 ≤ c.a ∧ c.a ≤ c.ad ∧ c.ad ≤ 65535
  | 11 => c.crewSpeed ≤ c.vmax ∧ c.prerollSpeed ≤ c.vmax ∧ c.calSpeed ≤ c.vmax ∧ c.deadband ≤ 4095
      ∧ 10 ≤ c.demandTimeout ∧ c.demandTimeout ≤ 250 ∧ 2 ≤ c.tolerance ∧ c.tolerance ≤ 65535
      ∧ 1 ≤ c.followLimit ∧ c.followLimit ≤ 2 ^ 30
  | 13 => 12 ≤ c.positionBits ∧ c.positionBits ≤ 30 ∧ c.origin ≤ 2 ^ c.positionBits - 1 ∧ c.clockCode ≤ 3
      ∧ c.floorDelay ≤ 15 ∧ c.badThreshold ≤ 15
  | 14 => c.brakeDelay ≤ 500
  | 15 => c.kind = .lens → tableWellFormed c.table = true
  | 16 => c.kind = .lens → 1 ≤ c.stallThreshold ∧ c.stallThreshold ≤ 65535 ∧ 2 * c.guardBand < c.minSpan
      ∧ c.minSpan ≤ c.maxSpan ∧ c.guardBand ≤ 2 ^ 29 ∧ c.maxSpan ≤ 2 ^ 31 - 1
  | _ => True

/-- What check 17 of R184 asks of one zone. -/
def zonePasses (c : Settings) (z : ZoneCfg) : Prop :=
  z.inUse = true →
    c.axes[z.axis].kind ≠ .unused ∧ z.lo ≤ z.hi ∧ -(2 ^ 30) ≤ z.lo ∧ z.hi ≤ 2 ^ 30
    ∧ ∀ q, z.qualifier = some q → q.qlo ≤ q.qhi ∧ (q.station = c.own → c.axes[q.axis].kind ≠ .unused)

/-- What check n of R184 asks of a station's settings, for item k where the check concerns items. The checks that judge a
code alone have passed once the code has been read as a setting (log 5). -/
def settingsPass (c : Settings) (n k : Nat) : Prop :=
  match n with
  | 3 => names c.roster c.own.val = true
  | 4 => c.statusPeriod ∈ [4, 8, 16] ∧ c.axisPeriod ∈ [2, 4, 8] ∧ c.demandPeriod ∈ [2, 4]
  | 5 => 12 ≤ c.liveness ∧ c.liveness ≤ 200 ∧ 3 * c.statusPeriod ≤ c.liveness
  | 6 => c.skewWindow ≤ 50 ∧ 100 ≤ c.holdLimit ∧ c.holdLimit ≤ 5000
  | 7 => c.estopCategory ≠ .hold ∧ c.peerLossCategory ≠ .cut ∧ ∀ g : GroupNo, c.groupCategory[g] ≠ .cut
  | 17 => ∀ z : ZoneNo, z.val = k → zonePasses c c.zones[z]
  | 18 => ∀ j : LineNo, j.val = k →
      (∀ i highEnd, c.lines[j].function = .limit i highEnd → c.axes[i].kind ≠ .unused)
      ∧ ∀ i, c.lines[j].function = .driveFault i → c.axes[i].kind ≠ .unused
  | _ => ∀ i : AxisNo, i.val = k → c.axes[i].kind ≠ .unused → axisPasses c.axes[i] n

/-! ## Terms of the claims about commands -/

/-- The frame that a frame row carries (R4, 12.2). -/
def frameOf : Instr → Option Frame
  | .stopFrame w => some { cls := 0, wire := w }
  | .statusFrame urgent w => some { cls := if urgent then 1 else 5, wire := w }
  | .demandFrame w => some { cls := 3, wire := w }
  | .axisFrame w => some { cls := 4, wire := w }
  | .unknownClass seven w => some { cls := if seven then 7 else 6, wire := w }
  | .armRecord w | .armPlay w | .go w | .halt w | .disarm w | .resume w | .erase w | .calibrate w =>
    some { cls := 2, wire := w }
  | _ => none

/-- A CUE row carries a cue: it is the row of the cue's kind, and the frame spells the cue (12.2). -/
def cueRow (c : Instr) (w : Wire) (m : CueMsg) : Prop :=
  parseCue w.payload = some m
    ∧ match m.kind with
      | .armRecord => c = .armRecord w
      | .armPlay => c = .armPlay w
      | .go => c = .go w
      | .halt => c = .halt w
      | .disarm => c = .disarm w
      | .resume => c = .resume w
      | .erase => c = .erase w
      | .calibrate => c = .calibrate w

/-- A calm station receives a frame that its receive judgement passes (R9). -/
def State.hears (s : State) (f : Frame) : Prop := s.calm ∧ f.judge (some s.cfg.own) = .received

/-- A calm station receives a new cue: received, not a repeat, and naming the own station (R165). -/
def State.hearsCue (s : State) (c : Instr) (w : Wire) (m : CueMsg) : Prop :=
  s.hears { cls := 2, wire := w } ∧ cueRow c w m ∧ s.peers[w.sender].cueSeq ≠ some m.seq
    ∧ names m.mask s.cfg.own.val = true

/-- The line interface once a received frame stands in its buffer, acknowledged unless in permanent mute (R7). -/
def Lif.received (f : Frame) (l : Lif) : Lif :=
  { l with rx := some f, idle := 0, ackDriven := decide (l.mute ≠ .permanent) }

/-- A calm station once a received cue has been recorded: in the receive buffer, in the sender's entry and in the last-ARM
record (R36, R37). -/
def State.heardCue (s : State) (w : Wire) (m : CueMsg) : State :=
  { s with
    lif := s.lif.received { cls := 2, wire := w }
    peers := s.peers.set w.sender { s.peers[w.sender] with cueSeq := some m.seq }
    lastArm :=
      if m.kind = .armRecord then
        some { record := true, number := m.number, mask := m.mask, period := periodOf m.parameter.toNat, sender := w.sender }
      else if m.kind = .armPlay then
        some { record := false, number := m.number, mask := m.mask, period := none, sender := w.sender }
      else s.lastArm }

/-- The first reason of the common list of R167 for which an arming is refused, none where the three checks pass. -/
def State.refusesArm (s : State) (m : CueMsg) : Option RefusalReason :=
  if s.stop.state ≠ .run then some .stopped
  else if m.number.toNat < 1 ∨ 250 < m.number.toNat then some .badNumber
  else if ∃ st : StationNo, names m.mask st.val = true ∧ names s.cfg.roster st.val = false then some .notRoster
  else none

/-- The codes of the persisting conditions, in the order of R142. -/
def persistingOrder : List Cause :=
  [.estop, .crewTrip, .limit, .driveFault, .encLost, .zoneBreach, .peerLost, .duplicate, .lineMute]

/-- A line that is not active and has been qualified. -/
def State.clear (s : State) (k : LineNo) : Prop := s.lines[k].qualified = some (!s.cfg.lines[k].activeHigh)

/-- The condition of a code of R142 holds. -/
def State.persistsBy (s : State) : Cause → Prop
  | .estop => ∃ k : LineNo, s.cfg.lines[k].function = .estop ∧ ¬ s.clear k
  | .crewTrip => (∃ g : GroupNo, s.groups[g] = true)
      ∨ ∃ k : LineNo, s.cfg.lines[k].function = .crewTrip ∧ s.lines[k].qualified = none
  | .limit => ∃ (k : LineNo) (i : AxisNo) (highEnd : Bool), s.cfg.lines[k].function = .limit i highEnd
      ∧ ¬ (s.cfg.axes[i].kind = .lens ∧ s.axes[i].lens.cal.state = .calibrated) ∧ ¬ s.clear k
  | .driveFault => ∃ (k : LineNo) (i : AxisNo), s.cfg.lines[k].function = .driveFault i ∧ ¬ s.clear k
  | .encLost => ∃ i : AxisNo, s.cfg.axes[i].kind ≠ .unused ∧ s.axes[i].link.state ≠ .locked
  | .zoneBreach => ∃ z : ZoneNo, s.zones[z].breached = true
  | .peerLost => ∃ st : StationNo, names s.cfg.roster st.val = true ∧ st ≠ s.cfg.own ∧ s.peers[st].presence ≠ .present
  | .duplicate => s.lif.mute = .permanent
  | .lineMute => s.lif.mute = .lineMute
  | _ => False

/-- A RESUME that is taken in this state is accepted (R141, R142). -/
def State.resumable (s : State) : Prop := s.stop.state = .stopped ∧ ∀ k : Cause, ¬ s.persistsBy k

/-- A frame is a RESUME cue (12.2). -/
def Frame.isResume (f : Frame) : Prop := f.cls = 2 ∧ cueKindOf (payloadByte f.wire.payload 0) = some .resume

/-- The command hands on a RESUME that is accepted: one received, an own one that ends ACKED (R10), or one that is read back
late after a BIT-ERROR (R6). An acknowledged probe can end LINE-MUTE in its own event, so that one which carried a RESUME, as
none does (R22), would find that condition gone. -/
def State.acceptsResume (s : State) (c : Instr) : Prop :=
  (∃ w, c = .resume w ∧ s.resumable)
    ∨ ∃ (cells : List Bool) (f : TxFrame), c = .attemptEnd cells ∧ s.lif.onLine = some f
      ∧ ((readBack 0 (frameCells s.cfg.own f) cells = some .acked ∧ (ownFrame s.cfg.own f).isResume
          ∧ (f.slot = .probe ∨ s.resumable))
        ∨ (readBack 0 (frameCells s.cfg.own f) cells = some .bitError ∧ (frameOfCells cells).isResume ∧ s.resumable))

/-- No zone has its gate on the own line word, so that a change of that word can stop nothing. -/
def State.noOwnGates (s : State) : Prop := ∀ z : ZoneNo, s.zonesOfOwnWord z = false

/-- The identifiers of the occupied slots of the transmit queue (1.5, R4). -/
def Lif.pendingIds (own : StationNo) (l : Lif) : List Nat :=
  (if l.stop.isSome then [identifier 0 own 0] else [])
    ++ (if l.status.isSome then [identifier (if l.statusUrgent then 1 else 5) own 0] else [])
    ++ (if l.cues.isEmpty then [] else [identifier 2 own 0])
    ++ (allAxes.filter fun i => l.demand[i].isSome).map (identifier 3 own)
    ++ (allAxes.filter fun i => l.axis[i].isSome).map (identifier 4 own)

/-- The value of an axis of the armed take at a take time: between two samples the fraction of their difference that has
passed, cut toward zero, and the last sample from there on (R175). -/
def State.takeValue (s : State) (time : Nat) (i : AxisNo) : Int :=
  match s.tks.entry s.tkq.number with
  | none => 0
  | some e =>
    let sample (j : Nat) : Int := s.tks.sampleValue e j (e.axes.idxOf i)
    let j := time / s.tkq.period
    if j + 1 < e.length then sample j + ((sample (j + 1) - sample j) * ((time % s.tkq.period : Nat) : Int)).tdiv s.tkq.period
    else sample j

/-- The targets of the claimed axes at a take time, the lens map's count of the value for a LENS axis (R175). -/
def State.takeGoals (s : State) (time : Nat) : Vector (Option Int) 4 :=
  Vector.ofFn fun i => if s.claims i then s.targetCount i (s.takeValue time i) else s.tkq.goal[i]

/-- The lag marks after the tracking distances to these targets are judged: set above the tolerance, cleared at half of it
(R176). -/
def State.takeLags (s : State) (goals : Vector (Option Int) 4) : Vector Bool 4 :=
  Vector.ofFn fun i =>
    match s.claims i, goals[i] with
    | true, some x =>
      let distance := (x - s.axes[i].mpr.count).natAbs
      decide (s.cfg.axes[i].tolerance < distance) || (s.tkq.lag[i] && decide (s.cfg.axes[i].tolerance / 2 < distance))
    | _, _ => s.tkq.lag[i]

end Sys2Proof.Machine
end

