-- ==== Sys2Proof/Certificates/Slice0/Obligations.lean ====
section
/-! DEFINITION. The statements about the KS48 model, for the provers. Each docstring names the rules of spec/ that its
statement formalises, or says that the statement rests on a choice of the model and names the log entry.

Three premises recur. `calm` (Safety.lean) says that what an event re-forms at its end stands as its sources give it; the
statements `FormedOwnersAreKept`, `FormedCapsAndOutputsAreKept` and `AttentionIsKept` say that every step keeps this.
`noOwnGates` says that no zone is gated by the own line word, so that a change of that word cannot stop the station within
the same event. `quiet` is the part of a state that no reaction of the stop machinery changes. -/

open Sys2Proof Sys2Proof.Machine

/-! ## The machine -/

/-- A step takes the command at the front of the queue and runs it on the state with the queue's rest; on an empty queue
the block idles (the model's choice, log 1). -/
def Obligations.StepRunsTheFrontCommand : Prop :=
  (∀ (c : Instr) (rest : List Instr) (s : State), s.pending = c :: rest → step s = exec c { s with pending := rest })
    ∧ ∀ s : State, s.pending = [] → step s = .next s

/-- Every command of every state answers a next state, with the queue of waiting commands as it was: the specification
gives no command that stops the block, and a command acts on everything but the queue (log 1). -/
def Obligations.EveryCommandCompletes : Prop :=
  ∀ (c : Instr) (s : State), ∃ t, exec c s = .next t ∧ t.pending = s.pending

/-! ## Invariants -/

/-- The machine after reset meets every invariant that the statements below say every step keeps. -/
def Obligations.ResetMeetsTheInvariants : Prop :=
  State.reset.storeSound ∧ State.reset.blocksSound ∧ State.reset.settled ∧ State.reset.owned ∧ State.reset.capped
    ∧ State.reset.shown ∧ State.reset.attends ∧ State.reset.drivesSafe ∧ State.reset.stopAgrees ∧ State.reset.takeAgrees
    ∧ State.reset.speedSafe ∧ State.reset.lif.bounded ∧ State.reset.countersFit

/-- R147 to R151: every step keeps the free list and the chains of the takes together holding each of the 2048 blocks exactly
once, with the link END at the end of each chain and on each free block, and with as many blocks in each chain as the length of
its take needs; and every step keeps the store's bytes in canonical form: the model's own form of the memory, in which an
unlisted byte is the 0 of R147 (log 23). -/
def Obligations.StoreFormIsKept : Prop :=
  (∀ s t : State, s.storeSound → step s = .next t → t.storeSound)
    ∧ ∀ s t : State, s.blocksSound → step s = .next t → t.blocksSound

/-- R46, R51: every step of an operating station leaves the line word and the owner of every axis as their sources now
give them, for each change of a source is followed by a re-forming in its own event. -/
def Obligations.FormedOwnersAreKept : Prop :=
  ∀ s t : State, s.settled → s.owned → step s = .next t → t.settled ∧ t.owned

/-- R122 to R124, R47: every step of an operating station leaves the crew-warn state, the caps and the outputs as their
sources now give them; that the cap of an UNUSED axis reads 0 is the model's choice (log 36). -/
def Obligations.FormedCapsAndOutputsAreKept : Prop :=
  ∀ s t : State, s.settled → s.owned → s.capped → s.shown → step s = .next t → t.capped ∧ t.shown

/-- R192: every step leaves the attention output asserted exactly while at least one flag is both set and enabled (and, by
R182, not asserted while the part is held in reset); the enable mask is 0 after a reset, and WRITE-ENABLES replaces it
whole, forming attention in its own event. -/
def Obligations.AttentionIsKept : Prop :=
  (∀ s t : State, s.attends → step s = .next t →
    (t.svp.attention = true ↔
      t.inReset = false ∧ ∃ k : Nat, t.svp.flags.getLsbD k = true ∧ t.svp.enables.getLsbD k = true))
    ∧ (∀ s t : State, s.attends → step s = .next t → t.attends)
    ∧ (∀ s : State, s.inReset = true → ∃ t, exec .resetRelease s = .next t ∧ t.svp.enables = 0 ∧ t.svp.attention = false)
    ∧ ∀ (mask : Word16) (s : State), s.inReset = false → ∃ t, exec (.writeEnables mask) s = .next t
      ∧ (∀ k : Nat, t.svp.enables.getLsbD k = (mask.getLsbD k && decide (k < 10)))
      ∧ (t.svp.attention = true ↔ ∃ k : Nat, s.svp.flags.getLsbD k = true ∧ t.svp.enables.getLsbD k = true)

/-- R95, R139, R144: no step leaves a drive on or a brake released before a load has succeeded or under category CUT. The
stop record's agreement with itself is kept with it: a category is held exactly outside RUN and RESUMING, and the
drive-on boundary and the release timers belong to RESUMING. R141, R142: the held category never falls, but where a start begins or
a RESUME is handed on that is accepted: one received, an own one that ends ACKED (R10), or one read back late after a BIT-ERROR
(log 16), in STOPPED with no condition that persists. The end of any other own frame, and a RESUME that is blocked or comes in
another stop state, leave it or raise it. -/
def Obligations.StopsStaySafe : Prop :=
  (∀ s t : State, s.drivesSafe → s.stopAgrees → step s = .next t → t.drivesSafe ∧ t.stopAgrees)
    ∧ ∀ (c : Instr) (rest : List Instr) (s t : State), s.pending = c :: rest → s.stopAgrees → c ≠ .resetRelease →
      ¬ s.acceptsResume c → step s = .next t →
      categoryRank s.stop.category ≤ categoryRank t.stop.category

/-- R167, R180: no step leaves a take armed or under way while the stop state is other than RUN. -/
def Obligations.TakesEndWithTheStopState : Prop :=
  ∀ s t : State, s.takeAgrees → step s = .next t → t.takeAgrees

/-- R66, R123, R128: every step keeps the commanded velocity of every axis within -vmax..vmax and its cap within vmax, and
both at 0 until a load has succeeded. -/
def Obligations.SpeedStaysWithinVmax : Prop :=
  ∀ s t : State, s.speedSafe → step s = .next t → t.speedSafe

/-- R11, R13, R16, R17, R21: every step keeps the transmit queue within its bounds; R19, R36, R64, R92, R187: no step takes a
saturating counter above 65535. -/
def Obligations.QueueAndCountersStayInRange : Prop :=
  (∀ s t : State, s.lif.bounded → step s = .next t → t.lif.bounded)
    ∧ ∀ s t : State, s.countersFit → step s = .next t → t.countersFit

/-! ## Resets and the load -/

/-- R182: while the part is held in reset it begins no frame and no acknowledge, engages every brake, drives every output
low and leaves attention not asserted; a low level of less than 10 µs is ignored. That every other field keeps its value
while the part is held is the model's choice (log 20): R182 states the pins alone. -/
def Obligations.ResetHoldsThePart : Prop :=
  (∀ (c : Instr) (s : State) (h : ResetSources),
    (c = .powerOnReset ∧ h = { s.hold with supply := true, supplyRose := true })
        ∨ (∃ n, 10 ≤ n ∧ c = .pinReset n ∧ h = { s.hold with pin := true }) →
    ∃ t, exec c s = .next t ∧ t.inReset = true ∧ t.lif.onLine = none ∧ t.lif.ackDriven = false
      ∧ (∀ i : AxisNo,
          t.axes[i] = { s.axes[i] with drive := { s.axes[i].drive with released := false } })
      ∧ (∀ k : OutNo, t.outputs[k] = false) ∧ t.svp.attention = false ∧ t.svp.response = none
      ∧ t = { s with hold := h, lif := { s.lif with onLine := none, ackDriven := false }, outputs := t.outputs,
                     axes := t.axes, svp := { s.svp with attention := false, response := none, responseCut := false } })
    ∧ ∀ (s : State) (n : Nat), n < 10 → exec (.pinReset n) s = .next s

/-- R182, R131, R146, R147, R162, R191: when the part is let go, a start begins: a power-on start leaves the state after
reset, and a reset-pin start leaves the same but for the cause RESET-PIN and the take store, which it keeps: a recording ends
as TRUNCATED, an upload is cut to its written blocks, its surplus blocks joining the tail of the free list, or emptied where
none is written, and TAKE-CHANGE is set where an entry was RECORDING; START is set and every other flag is clear. The values
that the spec does not give for the time before a load are the model's: raw levels and phases (log 7), settings and the origin station 0 (log 8). The commands that
wait, wait on, and both sources let go at once (logs 1 and 20). -/
def Obligations.ReleaseBeginsAStart : Prop :=
  ∀ s : State, s.inReset = true →
    ∃ t, exec .resetRelease s = .next t ∧ t.pending = s.pending
      ∧ (s.hold.supplyRose = true → t = { State.reset with pending := s.pending })
      ∧ (s.hold.supplyRose = false →
          t = { State.reset with
                pending := s.pending, tks := t.tks, svp := { State.reset.svp with flags := t.svp.flags },
                stop := { State.reset.stop with localMarks := [.resetPin], first := some (.resetPin, 0, 0) } }
          ∧ t.svp.flags.getLsbD flagStart = true
          ∧ (t.svp.flags.getLsbD flagTakeChange = true ↔ ∃ i : EntryNo, s.tks.dir[i].state = .recording)
          ∧ (∀ k : Nat, k ≠ flagStart → k ≠ flagTakeChange → t.svp.flags.getLsbD k = false)
          ∧ t.tks.mem = s.tks.mem ∧ t.tks.upload = none ∧ t.tks.eraseIgnored = 0
          ∧ (∀ i : EntryNo, s.tks.dir[i].state ≠ .recording → t.tks.dir[i] = s.tks.dir[i])
          ∧ (∀ i : EntryNo, s.tks.dir[i].state = .recording → s.tks.dir[i].uploaded = false →
              t.tks.dir[i] = { s.tks.dir[i] with state := .truncated })
          ∧ ((∀ i : EntryNo, s.tks.dir[i].state = .recording → s.tks.dir[i].uploaded = false) →
              t.tks.free = s.tks.free ∧ t.tks.links = s.tks.links)
          ∧ ∀ (i : EntryNo) (e : DirEntry) (number : Byte) (written spb length keep : Nat),
              e = s.tks.dir[i] → e.state = .recording → e.uploaded = true →
              (∀ j : EntryNo, j ≠ i → s.tks.dir[j].state = .recording → s.tks.dir[j].uploaded = false) →
              s.tks.upload = some (number, written) → spb = 64 / e.axes.length → length = min e.length (written * spb) →
              keep = (length + spb - 1) / spb →
            (length = 0 → t.tks.dir[i] = {} ∧ t.tks.free = s.tks.free ++ s.tks.chain e
              ∧ ∀ b, look t.tks.links b = if b ∈ s.tks.chain e then none else look s.tks.links b)
            ∧ (length ≠ 0 →
              t.tks.dir[i] = { e with
                state := .truncated, length := length, blocks := keep, last := some ((s.tks.chain e).getD (keep - 1) 0),
                stats := s.tks.statsOver e length }
              ∧ t.tks.free = s.tks.free ++ (s.tks.chain e).drop keep
              ∧ ∀ b, look t.tks.links b =
                  if b ∈ (s.tks.chain e).drop keep ∨ b = (s.tks.chain e).getD (keep - 1) 0 then none
                  else look s.tks.links b))

/-- R186, R146, R131: a load whose checks all pass ends in RUN-READY, with station time 0, the settings of the image, the
own entry PRESENT with a count of 3, and PEER-CHANGE and STOP-ENTER set; the origin fields of the stop record take the own
station number, and the first cause and its time stay. The byte places of the image are the model's (log 5). -/
def Obligations.LoadEndsInRunReady : Prop :=
  ∀ (image : List Byte) (levels : Word16) (s : State),
    s.inReset = false → s.cfl.load = .loading → s.cfl.sent ≠ [] → image.length = 1024 → firstFault image = none →
    ∃ t, exec (.configReadDone image levels) s = .next t
      ∧ t.cfl = { s.cfl with load := .runReady, fault := none, image := image }
      ∧ t.time = 0 ∧ t.cfg = imageSettings image ∧ t.lif.slowRate = t.cfg.slowRate
      ∧ t.peers[t.cfg.own].presence = .present ∧ t.peers[t.cfg.own].count = 3
      ∧ (∀ st : StationNo, st ≠ t.cfg.own → t.peers[st] = s.peers[st])
      ∧ t.svp.flags.getLsbD flagPeerChange = true ∧ t.svp.flags.getLsbD flagStopEnter = true
      ∧ t.stop.origin = some t.cfg.own
      ∧ (∀ k o x, s.stop.state = .stopping ∨ s.stop.state = .stopped → s.stop.first = some (k, o, x) →
          t.stop.first = some (k, t.cfg.own, x))
      ∧ (∀ i : AxisNo, t.axes[i].link.delay = t.cfg.axes[i].floorDelay ∧ t.axes[i].lens.table = t.cfg.axes[i].table)
      ∧ ∀ z : ZoneNo, t.cfg.zones[z].inUse = true → t.cfg.zones[z].qualifier = none → t.cfg.zones[z].gateLine = none →
          t.zones[z].active = true

/-- R183 to R185: while loading, the read of the configuration memory begins with the read command byte 0x03 and three address
bytes of 0, and changes nothing else; the load ends in CONFIG-FAULT at the first check that fails, with the check number and
the item as fault reason (an item for the checks 8 to 22 alone), and only the line rate follows the image, once check 2 has
passed. The first check fails on the image check, the second on a line rate code above 1. The settings that the image spells
meet the ranges of every check before the one that fails, and of that one for every item before the failing one; where none
fails, they meet all. The codes and byte places are the model's (log 5). -/
def Obligations.LoadReadsAndFaults : Prop :=
  (∀ s : State, s.inReset = false → s.cfl.load = .loading → s.cfl.sent = [] →
    exec .configReadStart s = .next { s with cfl := { s.cfl with sent := [0x03#8, 0x00#8, 0x00#8, 0x00#8] } })
  ∧ (∀ (image : List Byte) (levels : Word16) (s : State) (r : Nat × Option Nat),
    s.inReset = false → s.cfl.load = .loading → s.cfl.sent ≠ [] → image.length = 1024 →
    (firstFault image = some r →
      exec (.configReadDone image levels) s = .next { s with
        cfl := { s.cfl with load := .configFault, fault := some r, image := image }
        lif := { s.lif with slowRate := decide (2 < r.1) && (imageByte image 0 == 1) } })
    ∧ ((crc16 (bytesBits (image.take 1022))).toNat ≠ imageNat image 1022 2 → firstFault image = some (1, none))
    ∧ ((crc16 (bytesBits (image.take 1022))).toNat = imageNat image 1022 2 → 1 < imageByte image 0 →
        firstFault image = some (2, none)))
  ∧ ∀ image : List Byte,
    (∀ n item, firstFault image = some (n, item) → 1 ≤ n ∧ n ≤ 22 ∧ (item = none ↔ n ≤ 7))
    ∧ ∀ n k : Nat,
        (firstFault image = none ∨ (∃ m item, firstFault image = some (m, item) ∧ n < m)
          ∨ ∃ j, firstFault image = some (n, some j) ∧ k < j) →
        settingsPass (imageSettings image) n k

/-! ## The control period and the profiler -/

/-- R186, R57, R20, R33, R38, R60, R83: at a control period boundary station time advances by 1 and saturates at 2^48 - 1,
every freshness timer advances, and the work of the periods that begin at the new time falls due, with one read on each link;
that this work is done by commands of its own, and that a boundary first does what is still due, is the model's (logs 2, 3 and
29). R170, R173: where nothing was still due and no stop comes at the boundary, a recording's take time advances, with an
append due at each multiple of the sample period; R174 to R176: a take in play holds where an axis has its lag mark or the take
time of another participant is behind by more than the skew window, and otherwise advances, its targets formed at its take
time and its lag marks judged, while a hold past the limit waits for HOLD_LIMIT (log 2); and a pre-roll is READY when every
claimed axis has been marked as arrived. While the station loads or is in CONFIG-FAULT every channel sends enable 0 and count
0 (R95, R183), and while it is held in reset nothing happens (the model's choice, log 20). -/
def Obligations.BoundaryAdvancesTime : Prop :=
  ∀ (levels : Word16) (s : State),
    (s.operating = true → ∃ t, exec (.controlPeriodBoundary levels) s = .next t
      ∧ t.time = min (s.time + 1) (2 ^ 48 - 1) ∧ t.cfg = s.cfg
      ∧ (∀ i : AxisNo, t.axes[i].dsl.fresh = min (s.axes[i].dsl.fresh + 1) 65535)
      ∧ t.due.status = decide (t.time % s.cfg.statusPeriod = 0) ∧ t.due.axis = decide (t.time % s.cfg.axisPeriod = 0)
      ∧ t.due.demand = decide (t.time % s.cfg.demandPeriod = 0)
      ∧ t.due.window = decide (0 < t.time ∧ t.time % 1000 = 0)
      ∧ (∀ i : AxisNo, t.due.reads[i] = decide (s.cfg.axes[i].kind ≠ .unused))
      ∧ (closePeriod s = s → t.stop.state = .run →
        (s.tkq.state = .running → s.tkq.mode = some .record →
          t.tkq = { s.tkq with
            t := min (s.tkq.t + 1) 16777215, appendDue := decide (min (s.tkq.t + 1) 16777215 % s.tkq.period = 0) })
        ∧ (s.tkq.state = .running ∨ s.tkq.state = .waiting → s.tkq.mode = some .play → ∃ holding : Bool,
          (holding = true ↔ (∃ i : AxisNo, s.claims i = true ∧ s.tkq.lag[i] = true)
            ∨ ∃ st : StationNo, names s.tkq.mask st.val = true ∧ st ≠ s.cfg.own
              ∧ ¬ (s.peers[st].takeState = .ended ∧ s.peers[st].takeNumber = s.tkq.number)
              ∧ ({ s with time := t.time } : State).estimate st + s.cfg.skewWindow < s.tkq.t)
          ∧ (holding = true → s.cfg.holdLimit < min (s.tkq.holdTimer + 1) 5001 →
            t.tkq = { s.tkq with holdTimer := min (s.tkq.holdTimer + 1) 5001 })
          ∧ (holding = true → min (s.tkq.holdTimer + 1) 5001 ≤ s.cfg.holdLimit →
            t.tkq = { s.tkq with
              state := .waiting, holdTimer := min (s.tkq.holdTimer + 1) 5001
              goal := s.takeGoals s.tkq.t, lag := s.takeLags (s.takeGoals s.tkq.t) })
          ∧ (holding = false →
            t.tkq = { s.tkq with
              state := .running, holdTimer := 0, t := min (s.tkq.t + 1) 16777215
              goal := s.takeGoals (min (s.tkq.t + 1) 16777215)
              lag := s.takeLags (s.takeGoals (min (s.tkq.t + 1) 16777215)) }))
        ∧ (s.tkq.state = .preroll → ∃ state,
          t.tkq = { s.tkq with
            state := state, arrived := Vector.ofFn fun i => s.tkq.arrived[i] || (s.claims i && t.axes[i].mpr.atTarget) }
          ∧ ((∀ i : AxisNo, s.claims i = true → t.tkq.arrived[i] = true) → state = .ready)
          ∧ ((∃ i : AxisNo, s.claims i = true ∧ t.tkq.arrived[i] = false) → state = .preroll))
        ∧ (s.tkq.state ≠ .running → s.tkq.state ≠ .waiting → s.tkq.state ≠ .preroll → t.tkq = s.tkq)))
    ∧ (s.inReset = false → s.cfl.load ≠ .runReady → ∃ t, exec (.controlPeriodBoundary levels) s = .next t
      ∧ (∀ i : AxisNo, t.axes[i] = { s.axes[i] with drive := { s.axes[i].drive with word := 0, lastCount := 0 } })
      ∧ t = { s with axes := t.axes })
    ∧ (s.inReset = true → exec (.controlPeriodBoundary levels) s = .next s)

/-- R75, R76, R95, R96, R98, 12.3: after a control period boundary of an operating station, every MOTION or LENS axis has
the commanded count that its commanded position gives, its at-rest flag set exactly at velocity 0, and a setpoint word that
carries the count and the drive enable as they stand; an UNUSED axis sends enable 0 and count 0, and its profiler state
stays. R93: the following error of an axis with a measured position is the count less that position; where it is beyond the
follow limit with the drive on, the link LOCKED and no seek, the check gives cause FOLLOW with category CUT, so that no such
axis has its drive on after the boundary. R138: an axis at rest under BRAKE whose drive is still on has its brake engaged and
its brake timer started. R15, R22: the age of an occupied STATUS slot advances by 1, and so does the probe timer in LINE-MUTE below
the liveness timeout, and in no other mute state. Where nothing was still due (log 3): R136: a brake timer advances by 1 while the
held category stays below CUT and the brake engaged, a release timer while no stop begins, and a brake timer that was stopped stays
so or starts at 0; R108: the stall timer of an axis that goes on seeking advances up to 20 where the following error is at the stall
threshold in the direction of the seek, and returns to 0 otherwise, and its blocked timer follows the at-rest flag alike. -/
def Obligations.BoundaryWritesSetpoints : Prop :=
  (∀ (levels : Word16) (s t : State), s.operating = true → exec (.controlPeriodBoundary levels) s = .next t →
    ∀ i : AxisNo,
      (s.used i = true →
        t.axes[i].mpr.count = (t.axes[i].mpr.p + 128) / 256
        ∧ (t.axes[i].mpr.atRest = true ↔ t.axes[i].mpr.v = 0)
        ∧ t.axes[i].drive.lastCount = t.axes[i].mpr.count
        ∧ t.axes[i].drive.word.getLsbD 39 = t.axes[i].drive.enable
        ∧ t.axes[i].drive.word.setWidth 32 = BitVec.ofInt 32 t.axes[i].mpr.count
        ∧ (∀ x, t.axes[i].link.measured = some x → t.axes[i].link.following = some (t.axes[i].mpr.count - x))
        ∧ (s.noOwnGates → t.axes[i].drive.enable = true → t.axes[i].link.state = .locked → t.axes[i].seeking = false →
            ∀ e, t.axes[i].link.following = some e → e.natAbs ≤ s.cfg.axes[i].followLimit)
        ∧ (t.stop.category = some .brake → t.axes[i].mpr.atRest = true → t.axes[i].drive.enable = true →
            t.axes[i].drive.released = false ∧ t.axes[i].brakeTimer ≠ none))
      ∧ (s.used i = false → t.axes[i].drive.word = 0 ∧ t.axes[i].drive.lastCount = 0
        ∧ t.axes[i].mpr.p = s.axes[i].mpr.p ∧ t.axes[i].mpr.v = s.axes[i].mpr.v))
  ∧ (∀ (levels : Word16) (s t : State), s.operating = true → exec (.controlPeriodBoundary levels) s = .next t →
    (s.lif.status.isSome = true → t.lif.statusAge = s.lif.statusAge + 1)
    ∧ (s.lif.mute = .lineMute → s.lif.probeTimer < s.cfg.liveness → t.lif.probeTimer = s.lif.probeTimer + 1)
    ∧ (s.lif.mute ≠ .lineMute → t.lif.probeTimer = s.lif.probeTimer)
    ∧ (closePeriod s = s → ∀ i : AxisNo,
      (s.axes[i].brakeTimer = none → t.axes[i].brakeTimer = none ∨ t.axes[i].brakeTimer = some 0)
      ∧ (s.stop.category ≠ some .cut → t.stop.category = s.stop.category →
        (∀ n, s.axes[i].brakeTimer = some n → s.axes[i].drive.released = false → t.axes[i].brakeTimer = some (n + 1))
        ∧ (∀ n, s.axes[i].releaseTimer = some n → t.stop.state = s.stop.state → t.axes[i].releaseTimer = some (n + 1)))
      ∧ ∀ l u : Lens, l = s.axes[i].lens → u = t.axes[i].lens → s.axes[i].seeking = true → t.axes[i].seeking = true →
        (∀ e, t.axes[i].link.following = some e →
          (l.cal.state = .seekLow →
            u.stall = if e ≤ -(s.cfg.axes[i].stallThreshold : Int) then min (l.stall + 1) 20 else 0)
          ∧ (l.cal.state = .seekHigh →
            u.stall = if (s.cfg.axes[i].stallThreshold : Int) ≤ e then min (l.stall + 1) 20 else 0))
        ∧ u.blocked = if t.axes[i].mpr.atRest = true then min (l.blocked + 1) 20 else 0))
  ∧ ∀ (s : State) (beyond : AxisNo → Prop),
      (∀ i, beyond i ↔ s.used i = true ∧ s.axes[i].drive.enable = true ∧ s.axes[i].link.state = .locked
        ∧ s.axes[i].seeking = false ∧ ∃ e, s.axes[i].link.following = some e ∧ s.cfg.axes[i].followLimit < e.natAbs) →
      ((∃ i, beyond i) →
        .follow ∈ (giveFollow s).stop.localMarks ∧ (giveFollow s).stop.category = some .cut
        ∧ (giveFollow s).stop.state ≠ .run ∧ (giveFollow s).stop.state ≠ .resuming
        ∧ (s.stop.category ≠ some .cut → (giveFollow s).secured = true))
      ∧ ((∀ i, ¬ beyond i) → giveFollow s = s)

/-- R68: the stopping bound of a distance x and a step s is the largest whole v for which v² + s·v does not exceed
2·s·x; it is evaluated as floor((isqrt(s² + 8·s·x) - s) / 2) with the integer floor square root, which is exact here; 8·s·x
stays below 2^58 and s² below 2^32; a distance that is 0 or negative has the bound 0; and the step is a for the distance to a
position target and ad for the distance to an edge. -/
def Obligations.StoppingBoundIsTheLargest : Prop :=
  (∀ x s : Nat, x ≤ 2 ^ 39 → s ≤ 65535 →
    ∃ v : Nat, stoppingBound x s = v ∧ v * v + s * v ≤ 2 * s * x ∧ (∀ w : Nat, w * w + s * w ≤ 2 * s * x → w ≤ v)
      ∧ (∀ r : Nat, r * r ≤ s * s + 8 * s * x → s * s + 8 * s * x < (r + 1) * (r + 1) → v = (r - s) / 2)
      ∧ 8 * s * x < 2 ^ 58 ∧ s * s < 2 ^ 32)
    ∧ (∀ (x : Int) (s : Nat), x ≤ 0 → stoppingBound x s = 0)
    ∧ (∀ (n : ProfilerInput) (d : Int),
      n.approach d = d.sign * min (n.cap : Int) (stoppingBound d.natAbs n.cfg.a))
    ∧ ∀ (n : ProfilerInput) (p g e : Int),
      (n.upEdge = some e → n.downEdge = none → n.limited p g = min g (stoppingBound (e * 256 - p) n.cfg.ad))
      ∧ (n.upEdge = none → n.downEdge = some e → n.limited p g = max g (-(stoppingBound (p - e * 256) n.cfg.ad)))

/-- R70, R71, R73: a computation that does not track never carries the commanded position past an edge it has not passed,
in either direction, whatever the goal, the velocity and the cap. -/
def Obligations.EdgesAreNotCrossed : Prop :=
  ∀ (n : ProfilerInput) (m : Mpr) (e : Int), n.tracks = false → -(2 ^ 30) ≤ e → e < 2 ^ 30 →
    (n.upEdge = some e → m.p ≤ e * 256 → (n.compute m).p ≤ e * 256)
    ∧ (n.downEdge = some e → e * 256 ≤ m.p → e * 256 ≤ (n.compute m).p)

/-- R78, R79, R93: with the drive off or under CUT an axis tracks: its commanded position is the measured one, its velocity
0, its commanded count the measured position, its following error 0 and its at-target flag clear, whatever its owner; with
no measured position yet, it stays where it is. -/
def Obligations.DriveOffTracks : Prop :=
  ∀ (s : State) (i : AxisNo), s.used i = true →
    s.stop.category = some .cut ∨ s.axes[i].drive.enable = false →
    (∀ x, s.axes[i].link.measured = some x →
      (s.axisComputed i).mpr = { p := x * 256, v := 0, mode := .velocity, atTarget := false, atRest := true, count := x,
                                 reseed := false }
      ∧ (s.axisComputed i).link.following = some 0)
    ∧ (s.axes[i].link.measured = none → (s.axisComputed i).mpr.p = s.axes[i].mpr.p ∧ (s.axisComputed i).mpr.v = 0)

/-- R102: with a well-formed table (R100), the shaped unit of u in a segment is m of its first pair plus the truncated
fraction, and lies between the m of its two pairs; at 65535 it is the m of the last pair. R103: the target count is
low + guard plus the floor of m times the usable span over 65535; it lies within low + guard to high - guard, which 0 and 65535
reach exactly. -/
def Obligations.LensMapStaysInside : Prop :=
  ∀ (table : List (Nat × Nat)) (low high : Int) (guardBand u : Nat),
    tableWellFormed table = true → (∀ p ∈ table, p.2 ≤ 65535) → u ≤ 65535 → low + guardBand ≤ high - guardBand →
    (u < 65535 → ∃ (i u0 m0 u1 m1 : Nat), table[i]? = some (u0, m0) ∧ table[i + 1]? = some (u1, m1) ∧ u0 ≤ u ∧ u < u1
      ∧ shapeUnit table u = m0 + (((u : Int) - u0) * ((m1 : Int) - m0)).tdiv ((u1 : Int) - u0)
      ∧ min (m0 : Int) m1 ≤ shapeUnit table u ∧ shapeUnit table u ≤ max (m0 : Int) m1
      ∧ (u = u0 → shapeUnit table u = m0))
    ∧ (∀ p, u = 65535 → table.getLast? = some p → shapeUnit table u = p.2)
    ∧ (∀ m : Int, scaleUnit low high guardBand m =
        (low + guardBand) + (m * ((high - guardBand) - (low + guardBand))).fdiv 65535)
    ∧ low + guardBand ≤ scaleUnit low high guardBand (shapeUnit table u)
    ∧ scaleUnit low high guardBand (shapeUnit table u) ≤ high - guardBand
    ∧ scaleUnit low high guardBand 0 = low + guardBand ∧ scaleUnit low high guardBand 65535 = high - guardBand

/-! ## Input lines and handwheels -/

/-- R39, R41 to R43: a line whose hold count has reached q + 1 takes its raw level, its count returns to 0 and its latch is
set, a first level only when it is active; an edge that is not due does nothing (log 2). At a sample, a level equal to the
qualified one sets the count to 0 and one that differs raises it by 1, but a raw sample at the inactive level of an ENABLE
line qualifies at once. A line without a qualified level stays without one, and its count is the number of samples that its
raw level has held, an ENABLE line's too (log 13). -/
def Obligations.LinesQualify : Prop :=
  (∀ (k : LineNo) (s : State), s.operating = true → s.cfg.lines[k].function ≠ .estop →
    (s.lines[k].hold = s.cfg.lines[k].qualTime + 1 →
      ∃ t, exec (.qualifiedEdge k) s = .next t ∧ t.lines = s.lines.set k
        { raw := s.lines[k].raw, qualified := some s.lines[k].raw, hold := 0,
          latch := s.lines[k].latch || s.lines[k].qualified.isSome || s.lines[k].raw == s.cfg.lines[k].activeHigh })
    ∧ (s.lines[k].hold ≠ s.cfg.lines[k].qualTime + 1 → exec (.qualifiedEdge k) s = .next s))
  ∧ ∀ (levels : Word16) (k : LineNo) (s t : State),
      s.operating = true → s.cfg.lines[k].function ≠ .estop →
      s.lines[k].hold ≤ s.cfg.lines[k].qualTime → exec (.controlPeriodBoundary levels) s = .next t →
      t.lines[k].raw = levels.getLsbD k.val
        ∧ (∀ q, s.lines[k].qualified = some q →
          (levels.getLsbD k.val = q → t.lines[k].hold = 0 ∧ t.lines[k].qualified = some q)
          ∧ (levels.getLsbD k.val ≠ q → s.cfg.lines[k].function = .enable → q = s.cfg.lines[k].activeHigh →
              t.lines[k].hold = 0 ∧ t.lines[k].qualified = some (levels.getLsbD k.val) ∧ t.lines[k].latch = true)
          ∧ (levels.getLsbD k.val ≠ q → (s.cfg.lines[k].function ≠ .enable ∨ q ≠ s.cfg.lines[k].activeHigh) →
              t.lines[k].hold = s.lines[k].hold + 1 ∧ t.lines[k].qualified = some q))
        ∧ (s.lines[k].qualified = none →
          t.lines[k].qualified = none ∧ t.lines[k].latch = s.lines[k].latch
          ∧ (s.lines[k].hold = 0 ∨ levels.getLsbD k.val ≠ s.lines[k].raw → t.lines[k].hold = 1)
          ∧ (s.lines[k].hold ≠ 0 → levels.getLsbD k.val = s.lines[k].raw → t.lines[k].hold = s.lines[k].hold + 1))

/-- R40, R42, R43, R132, R139: an ESTOP line follows its raw level at once, without qualification; a change is latched, and
an edge to active gives cause ESTOP, which leaves the station stopped with at least the configured category, and with every
drive off and every brake engaged where that is CUT. -/
def Obligations.EstopActsAtOnce : Prop :=
  ∀ (k : LineNo) (level : Bool) (s : State),
    s.operating = true → s.cfg.lines[k].function = .estop → s.lines[k].qualified ≠ some level →
    ∃ t, exec (.estopEdge k level) s = .next t
      ∧ t.lines = s.lines.set k
          { s.lines[k] with
            raw := level, qualified := some level,
            latch := s.lines[k].latch || s.lines[k].qualified.isSome || level == s.cfg.lines[k].activeHigh }
      ∧ (level = s.cfg.lines[k].activeHigh →
          .estop ∈ t.stop.localMarks ∧ t.stop.state ≠ .run ∧ t.stop.state ≠ .resuming
          ∧ categoryRank (some s.cfg.estopCategory) ≤ categoryRank t.stop.category
          ∧ (s.cfg.estopCategory = .cut → s.stop.category ≠ some .cut → t.secured = true))

/-- R44, R97, R125 to R127, R109: the qualified edge to active of a DRIVE-FAULT line, of a LIMIT line whose axis is not
seeking, and of a STOP-BUTTON gives its cause, and the station is then stopped with at least the category of that cause. R45:
the first member of a CREW-TRIP group to become active trips the group with cause CREW-TRIP and the group's category; a
further one gives no cause, and the group untrips when its last active member becomes inactive. R164: a GO-, HALT- or
RESUME-BUTTON that becomes active places its cue with the own cue sequence, or counts it as dropped where the FIFO does not
take it; its first qualified level makes no cue, nor does a GO- or HALT-BUTTON without a last-ARM record. -/
def Obligations.StopLinesGiveTheirCauses : Prop :=
  ∀ (k : LineNo) (s : State) (c : LineCfg), s.operating = true → c = s.cfg.lines[k] → s.lines[k].hold = c.qualTime + 1 →
    (∀ (cause : Cause) (category : Category), s.lines[k].raw = c.activeHigh →
      ((∃ i, c.function = .driveFault i) ∧ cause = .driveFault ∧ category = .cut)
        ∨ ((∃ i highEnd, c.function = .limit i highEnd ∧ s.axes[i].seeking = false) ∧ cause = .limit ∧ category = .cut)
        ∨ (c.function = .stopButton ∧ cause = .operator ∧ category = .hold)
        ∨ (c.function = .crewTrip ∧ s.groups[c.group] = false ∧ cause = .crewTrip ∧ category = s.cfg.groupCategory[c.group]) →
      ∃ t, exec (.qualifiedEdge k) s = .next t ∧ cause ∈ t.stop.localMarks
        ∧ t.stop.state ≠ .run ∧ t.stop.state ≠ .resuming
        ∧ categoryRank (some category) ≤ categoryRank t.stop.category
        ∧ t.groups = if c.function = .crewTrip then s.groups.set c.group true else s.groups)
    ∧ (c.function = .crewTrip → ∀ others : Prop,
        (others ↔ ∃ j : LineNo, j ≠ k ∧ s.cfg.lines[j].function = .crewTrip ∧ s.cfg.lines[j].group = c.group
          ∧ s.lines[j].qualified = some s.cfg.lines[j].activeHigh) →
      (s.lines[k].raw = c.activeHigh ∨ others → s.groups[c.group] = true →
        ∃ t, exec (.qualifiedEdge k) s = .next t ∧ t.groups = s.groups ∧ (s.noOwnGates → t.stop = s.stop))
      ∧ (s.lines[k].raw ≠ c.activeHigh → ¬ others →
        ∃ t, exec (.qualifiedEdge k) s = .next t ∧ t.groups = s.groups.set c.group false ∧ (s.noOwnGates → t.stop = s.stop)))
    ∧ (∀ (kind : CueKind) (number mask : Byte),
      (c.function = .goButton ∧ kind = .go ∧ s.lastArm.map (fun a => (a.number, a.mask)) = some (number, mask))
        ∨ (c.function = .haltButton ∧ kind = .halt ∧ s.lastArm.map (fun a => (a.number, a.mask)) = some (number, mask))
        ∨ (c.function = .resumeButton ∧ kind = .resume ∧ number = 0 ∧ mask = s.cfg.roster) →
      ∃ t, exec (.qualifiedEdge k) s = .next t
        ∧ (s.lines[k].raw = c.activeHigh → s.lines[k].qualified ≠ none →
          (s.lif.cues.length < 4 → s.lif.mute = .off →
            t.lif.cues = s.lif.cues ++ [{ attempts := 0, cue :=
              { kind := kind, seq := s.tkq.cueSeq, number := number, mask := mask, parameter := 0 } }]
            ∧ t.tkq.cueSeq = s.tkq.cueSeq + 1 ∧ t.lif.droppedCues = s.lif.droppedCues)
          ∧ (4 ≤ s.lif.cues.length ∨ s.lif.mute ≠ .off →
            t.lif.cues = s.lif.cues ∧ t.tkq.cueSeq = s.tkq.cueSeq
            ∧ t.lif.droppedCues = min (s.lif.droppedCues + 1) 65535))
        ∧ (s.lines[k].raw ≠ c.activeHigh ∨ s.lines[k].qualified = none →
            t.lif.cues = s.lif.cues ∧ t.tkq.cueSeq = s.tkq.cueSeq ∧ t.lif.droppedCues = s.lif.droppedCues))
    ∧ (c.function = .goButton ∨ c.function = .haltButton → s.lastArm = none →
      ∃ t, exec (.qualifiedEdge k) s = .next t
        ∧ t.lif.cues = s.lif.cues ∧ t.tkq.cueSeq = s.tkq.cueSeq ∧ t.lif.droppedCues = s.lif.droppedCues)

/-- R60: an observation in which one phase changes is one count up or down, one in which both or neither change is none;
turning back counts the other way, a whole cycle of the phases counts the same way four times, and the period count
saturates. A count is kept only in operation. Which order counts up is a free value (log 6). -/
def Obligations.HandwheelCounts : Prop :=
  ∀ (k : WheelNo) (a b : Bool) (s : State), s.inReset = false →
    ∃ d : Int,
      ((s.wheels[k].phaseA != a) = (s.wheels[k].phaseB != b) → d = 0)
      ∧ ((s.wheels[k].phaseA != a) ≠ (s.wheels[k].phaseB != b) →
          (d = 1 ∨ d = -1) ∧ quadrature a b s.wheels[k].phaseA s.wheels[k].phaseB = -d)
      ∧ d = quadrature s.wheels[k].phaseA s.wheels[k].phaseB a b
      ∧ exec (.handwheelCount k a b) s = .next { s with
          wheels := s.wheels.set k { s.wheels[k] with
            phaseA := a, phaseB := b,
            count := if s.operating then max (-32768) (min (s.wheels[k].count + d) 32767) else s.wheels[k].count } }
      ∧ quadrature false false true false = quadrature true false true true
      ∧ quadrature true false true true = quadrature true true false true
      ∧ quadrature true true false true = quadrature false true false false

/-- R60 to R63: at a demand period boundary every period count is read and set to 0; a mapped input makes a DEMAND with its
sequence, which then rises, and with the value that its kind gives; an unmapped input makes none; both mutes discard the
content (R21, R23). R12: a frame on the line that came from a slot which takes new content is marked as renewed and otherwise
stays. Nothing else changes. -/
def Obligations.DemandPeriodMakesDemands : Prop :=
  ∀ s : State, s.calm → s.due.demand = true →
    ∃ t, exec .demandPeriodBoundary s = .next t
      ∧ (∀ k : WheelNo, t.wheels[k].count = 0
        ∧ (s.cfg.wheels[k].target = none →
            t.wheels[k] = { s.wheels[k] with count := 0 } ∧ t.lif.demand[k] = s.lif.demand[k])
        ∧ ∀ st i, s.cfg.wheels[k].target = some (st, i) →
            t.wheels[k] = { s.wheels[k] with count := 0, seq := s.wheels[k].seq + 1, acc := t.wheels[k].acc }
            ∧ ∃ value : Int,
              (s.cfg.wheels[k].lens = false → t.wheels[k].acc = s.wheels[k].acc
                ∧ value = max (-(2 ^ 20)) (min (s.wheels[k].count * s.cfg.wheels[k].gain) (2 ^ 20)))
              ∧ (s.cfg.wheels[k].lens = true →
                t.wheels[k].acc = max 0 (min (s.wheels[k].acc + s.wheels[k].count * s.cfg.wheels[k].gain) 16776960)
                ∧ value = t.wheels[k].acc / 256)
              ∧ (s.lif.mute = .off → t.lif.demand[k] = some
                  { station := st, axis := i, lens := s.cfg.wheels[k].lens, seq := s.wheels[k].seq, value := value })
              ∧ (s.lif.mute ≠ .off → t.lif.demand[k] = s.lif.demand[k]))
      ∧ t.lif.onLine = s.lif.onLine.map (fun f => { f with
          renewed := f.renewed || decide (s.lif.mute = .off ∧ ∃ k : WheelNo, f.slot = .demand k ∧ s.cfg.wheels[k].target ≠ none) })
      ∧ t = { s with wheels := t.wheels, due := { s.due with demand := false },
                     lif := { s.lif with demand := t.lif.demand, onLine := t.lif.onLine } }

/-! ## The station's own messages -/

/-- R32, R33, R26, R35: at a status period the station composes a STATUS from the current state of its owners, places it in
the STATUS slot and mirrors it in its own entry; permanent mute discards the content, and the mirror is updated all the
same. R12, R22: a STATUS or a probe on the line is then marked as renewed and otherwise stays. Nothing else changes. -/
def Obligations.StatusPeriodComposes : Prop :=
  ∀ s : State, s.calm → s.due.status = true →
    ∃ t m, exec .statusPeriod s = .next t
      ∧ m = { startFlag := decide (s.time < s.cfg.liveness), resumeBlocked := s.stop.resumeBlocked,
              encodersLocked := m.encodersLocked, lensCalibrated := m.lensCalibrated, stop := s.stop.state,
              category := if s.stop.state = .run then none else s.stop.category, take := s.tkq.state,
              number := s.tkq.number, time := min s.tkq.t 16777215, word := s.word }
      ∧ (m.encodersLocked = true ↔ ∀ i : AxisNo, s.cfg.axes[i].kind = .unused ∨ s.axes[i].link.state = .locked)
      ∧ (m.lensCalibrated = true ↔ ∀ i : AxisNo, s.cfg.axes[i].kind ≠ .lens ∨ s.axes[i].lens.cal.state = .calibrated)
      ∧ t.lif.status = (if s.lif.mute = .permanent then s.lif.status else some m)
      ∧ t.lif.lastPlaced = (if s.lif.mute = .permanent then s.lif.lastPlaced else some m)
      ∧ t.lif.onLine = s.lif.onLine.map (fun f => { f with
          renewed := f.renewed || decide (s.lif.mute ≠ .permanent ∧ (f.slot = .status ∨ f.slot = .probe)) })
      ∧ t = { s with
              due := { s.due with status := false }
              lif := { s.lif with status := t.lif.status, lastPlaced := t.lif.lastPlaced, onLine := t.lif.onLine }
              peers := s.peers.set s.cfg.own
                { s.peers[s.cfg.own] with last := some m, arrival := s.time, marker := m.startFlag } }

/-- R38, R26: at an axis period every axis that is not UNUSED composes an AXIS message with its measured position, its
velocity over the axis period rounded toward zero and saturated, 0 where either position was invalid, and its flags; the
message is placed in the axis's slot, unless a mute discards it, and mirrored in the own entry. R12: a frame on the line that
came from a slot which takes new content is marked as renewed and otherwise stays. Nothing else changes. -/
def Obligations.AxisPeriodComposes : Prop :=
  ∀ s : State, s.calm → s.due.axis = true →
    ∃ t, exec .axisPeriod s = .next t
      ∧ (∀ i : AxisNo,
        (s.cfg.axes[i].kind = .unused → t.lif.axis[i] = s.lif.axis[i]
          ∧ t.peers[s.cfg.own].reports[i] = s.peers[s.cfg.own].reports[i])
        ∧ (s.cfg.axes[i].kind ≠ .unused → ∃ m : AxisMsg,
            m.position = s.axes[i].link.measured.getD 0 ∧ m.valid = decide (s.axes[i].link.state = .locked)
            ∧ m.atTarget = s.axes[i].mpr.atTarget ∧ m.driveOn = s.axes[i].drive.enable
            ∧ (∀ x y, s.axes[i].link.state = .locked → s.axes[i].link.measured = some x → s.axes[i].prevPos = some y →
                m.velocity = max (-32768) (min ((x - y).tdiv s.cfg.axisPeriod) 32767))
            ∧ (s.axes[i].link.state ≠ .locked ∨ s.axes[i].prevPos = none → m.velocity = 0)
            ∧ t.lif.axis[i] = (if s.lif.mute = .off then some m else s.lif.axis[i])
            ∧ t.peers[s.cfg.own].reports[i] =
                { position := m.position, velocity := m.velocity, valid := m.valid, atTarget := m.atTarget,
                  driveOn := m.driveOn, arrival := some s.time }))
      ∧ t.lif.onLine = s.lif.onLine.map (fun f => { f with
          renewed := f.renewed || decide (s.lif.mute = .off ∧ ∃ i : AxisNo, f.slot = .axis i ∧ s.cfg.axes[i].kind ≠ .unused) })
      ∧ t = { s with
              due := { s.due with axis := false }
              lif := { s.lif with axis := t.lif.axis, onLine := t.lif.onLine }
              peers := s.peers.set s.cfg.own { s.peers[s.cfg.own] with reports := t.peers[s.cfg.own].reports }
              axes := t.axes }
      ∧ ∀ i : AxisNo, t.axes[i] =
          { s.axes[i] with prevPos := if s.axes[i].link.state = .locked then s.axes[i].link.measured else none }

/-! ## The crane line -/

/-- R14, R4, R2, R16: at a start opportunity with an idle count of at least 6 the frame with the lowest identifier among the
occupied slots begins, and none where no slot is occupied; at 3 to 5 idle cells only a later copy of a STOP burst begins,
and below 3 nothing. A STOP copy carries its content, the own station as origin and its copy index. The start cell of the
frame sets the idle count to 0, and while an own frame is on the line none begins. R22: in LINE-MUTE only a probe that is due
begins, at 6 idle cells, with the STATUS slot's content, or the content most recently placed there. R23: in permanent mute
no frame begins. -/
def Obligations.LowestIdentifierBegins : Prop :=
  ∀ (n : Nat) (s : State), s.operating = true →
    (s.lif.onLine ≠ none → exec (.frameStart n) s = .next s)
    ∧ (s.lif.mute = .off → s.lif.onLine = none →
      ∃ o, exec (.frameStart n) s = .next { s with lif := { s.lif with idle := if o.isSome then 0 else n, onLine := o } }
        ∧ (6 ≤ n → (o = none ↔ s.lif.pendingIds s.cfg.own = [])
            ∧ ∀ f, o = some f → identifier f.cls s.cfg.own f.index ∈ s.lif.pendingIds s.cfg.own
                ∧ ∀ k ∈ s.lif.pendingIds s.cfg.own, identifier f.cls s.cfg.own f.index ≤ k)
        ∧ (3 ≤ n → n < 6 → ((∃ x, s.lif.stop = some x ∧ 0 < x.nextIndex) ↔ o.isSome = true)
            ∧ ∀ f, o = some f → f.slot = .stop)
        ∧ (n < 3 → o = none)
        ∧ ∀ f x, o = some f → f.slot = .stop → s.lif.stop = some x →
            f.payload = [BitVec.ofNat 8 (64 * categoryCode (some x.category) + causeCode x.cause),
              BitVec.ofNat 8 (32 * s.cfg.own.val + x.nextIndex), x.seq])
    ∧ (s.lif.mute = .lineMute → s.lif.onLine = none →
      (n < 6 ∨ s.lif.probeDue = false ∨ s.lif.status = none ∧ s.lif.lastPlaced = none →
        exec (.frameStart n) s = .next { s with lif := { s.lif with idle := n } })
      ∧ ∀ m, 6 ≤ n → s.lif.probeDue = true →
          s.lif.status = some m ∨ s.lif.status = none ∧ s.lif.lastPlaced = some m →
        exec (.frameStart n) s = .next { s with lif := { s.lif with
          idle := 0, probeDue := false, onLine := some
            { slot := .probe, cls := if s.lif.status.isSome ∧ s.lif.statusUrgent = true then 1 else 5, index := 0,
              payload := statusPayload m, renewed := false } } })
    ∧ (s.lif.mute = .permanent → s.lif.onLine = none →
      exec (.frameStart n) s = .next { s with lif := { s.lif with idle := n } })

/-- R5, R7, R8, R21: the read-back of an own frame settles its outcome. All cells as sent: UNACKED. The acknowledge cell
read as 0: ACKED. A 1 of the identifier read as 0: LOST. Any other difference before the acknowledge cell: BIT-ERROR. Each
outcome raises its own counter alone, an acknowledge sets the failure count to 0, a failed attempt raises it, and a lost
frame leaves it. R22: a probe that is acknowledged ends LINE-MUTE, sets the failure count to 0 and frees the STATUS slot; one
that is not leaves LINE-MUTE as it is. R17: the third failed attempt of a cue sets CUE-FAIL. R10: an own cue that ends ACKED is
handed to the station's own blocks, which record it and act on it as on a received one: a RESUME is evaluated; an own DEMAND is
recorded in the own entry. A frame that ends UNACKED or LOST is handed to no block, and changes nothing but the Line Interface
and its flag. -/
def Obligations.AttemptOutcomesAreCounted : Prop :=
  ∀ (f : TxFrame) (s : State), s.operating = true → s.lif.onLine = some f →
    (s.lif.failures < 15 →
      (∃ t, exec (.attemptEnd (frameCells s.cfg.own f)) s = .next t ∧ t.lif.onLine = none
        ∧ t.lif.unacknowledged = min (s.lif.unacknowledged + 1) 65535 ∧ t.lif.failures = s.lif.failures + 1
        ∧ t.lif.bitErrors = s.lif.bitErrors ∧ t.lif.arbitrationLosses = s.lif.arbitrationLosses)
      ∧ (∃ t, exec (.attemptEnd ((frameCells s.cfg.own f).dropLast ++ [false])) s = .next t ∧ t.lif.onLine = none
        ∧ t.lif.failures = 0 ∧ t.lif.unacknowledged = s.lif.unacknowledged
        ∧ t.lif.bitErrors = s.lif.bitErrors ∧ t.lif.arbitrationLosses = s.lif.arbitrationLosses)
      ∧ (∀ (k : Nat) (rest : List Bool), 1 ≤ k → k ≤ 8 → (frameCells s.cfg.own f)[k]? = some true →
        ∃ t, exec (.attemptEnd ((frameCells s.cfg.own f).take k ++ false :: rest)) s = .next t ∧ t.lif.onLine = none
          ∧ t.lif.arbitrationLosses = min (s.lif.arbitrationLosses + 1) 65535 ∧ t.lif.failures = s.lif.failures
          ∧ t.lif.unacknowledged = s.lif.unacknowledged ∧ t.lif.bitErrors = s.lif.bitErrors)
      ∧ ∀ (k : Nat) (b : Bool) (rest : List Bool), (frameCells s.cfg.own f)[k]? = some b →
          k + 1 < (frameCells s.cfg.own f).length → ¬ (1 ≤ k ∧ k ≤ 8 ∧ b = true) →
        ∃ t, exec (.attemptEnd ((frameCells s.cfg.own f).take k ++ (!b) :: rest)) s = .next t ∧ t.lif.onLine = none
          ∧ t.lif.bitErrors = min (s.lif.bitErrors + 1) 65535 ∧ t.lif.failures = s.lif.failures + 1
          ∧ t.lif.unacknowledged = s.lif.unacknowledged ∧ t.lif.arbitrationLosses = s.lif.arbitrationLosses)
    ∧ (f.slot = .probe → s.lif.mute = .lineMute →
      (∃ t, exec (.attemptEnd ((frameCells s.cfg.own f).dropLast ++ [false])) s = .next t ∧ t.lif.onLine = none
        ∧ t.lif.mute = .off ∧ t.lif.failures = 0
        ∧ (s.calm → f.cls = 1 ∨ f.cls = 5 → f.renewed = false →
            t.lif.status = none ∧ t.lif.statusAge = 0 ∧ t.lif.statusUrgent = false))
      ∧ ∃ t, exec (.attemptEnd (frameCells s.cfg.own f)) s = .next t ∧ t.lif.onLine = none
        ∧ t.lif.mute = .lineMute ∧ t.lif.failures = min (s.lif.failures + 1) 16
        ∧ t.lif.unacknowledged = min (s.lif.unacknowledged + 1) 65535)
    ∧ (∀ (x : CueSlot) (more : List CueSlot) (cells : List Bool), f.slot = .cue → s.lif.cues = x :: more → x.attempts = 2 →
        cells = frameCells s.cfg.own f
          ∨ (∃ (k : Nat) (b : Bool) (rest : List Bool), (frameCells s.cfg.own f)[k]? = some b
            ∧ k + 1 < (frameCells s.cfg.own f).length ∧ ¬ (1 ≤ k ∧ k ≤ 8 ∧ b = true)
            ∧ cells = (frameCells s.cfg.own f).take k ++ (!b) :: rest) →
        ∃ t, exec (.attemptEnd cells) s = .next t ∧ t.svp.flags.getLsbD flagCueFail = true)
    ∧ (s.calm →
      (∀ (m : CueMsg) (w : Wire), f.cls = 2 → parseCue f.payload = some m → w.sender = s.cfg.own →
        ∃ t, exec (.attemptEnd ((frameCells s.cfg.own f).dropLast ++ [false])) s = .next t
          ∧ t.peers[s.cfg.own].cueSeq = some m.seq ∧ t.lastArm = (s.heardCue w m).lastArm
          ∧ (s.peers[s.cfg.own].cueSeq = some m.seq ∨ names m.mask s.cfg.own.val = false →
              t = { s.heardCue w m with lif := t.lif })
          ∧ (s.noOwnGates → s.peers[s.cfg.own].cueSeq ≠ some m.seq → names m.mask s.cfg.own.val = true → m.kind = .resume →
              s.stop.state = .stopped → t.stop.state = .resuming ∨ t.stop.resumeBlocked = true))
      ∧ (f.cls = 3 → ∃ t, exec (.attemptEnd ((frameCells s.cfg.own f).dropLast ++ [false])) s = .next t
          ∧ t.peers[s.cfg.own].demandSeq = s.peers[s.cfg.own].demandSeq.set f.index (some (parseDemand f.payload).seq))
      ∧ (s.lif.failures < 15 → ∃ t, exec (.attemptEnd (frameCells s.cfg.own f)) s = .next t
          ∧ t = { s with lif := t.lif, svp := t.svp })
      ∧ ∀ (k : Nat) (rest : List Bool), s.lif.failures < 15 → 1 ≤ k → k ≤ 8 → (frameCells s.cfg.own f)[k]? = some true →
        ∃ t, exec (.attemptEnd ((frameCells s.cfg.own f).take k ++ false :: rest)) s = .next t
          ∧ t = { s with lif := t.lif })

/-- R5, R8, R16 to R18, R22: an attempt's end acts on the slot of its frame alone (a probe's is the STATUS slot), and on no
other field of the Line Interface but the count of dropped cues and the mark that a lost probe is due again. A lost frame leaves
every slot as it was. An attempt that fails lowers the copies of a STOP by one, uses one of a cue's three attempts, and frees a
DEMAND, AXIS or STATUS slot, unless new content was placed meanwhile; an acknowledge removes the cue instead. That the new
content of the STATUS slot stays when a probe ends ACKED is the model's reading of R12 against R22 (log 15). -/
def Obligations.AttemptRuleOfEachSlot : Prop :=
  ∀ (f : TxFrame) (r : AttemptResult) (l t : Lif), t = l.attemptRule f r →
    t = { l with stop := t.stop, status := t.status, statusAge := t.statusAge, statusUrgent := t.statusUrgent,
                 cues := t.cues, droppedCues := t.droppedCues, demand := t.demand, axis := t.axis, probeDue := t.probeDue }
    ∧ (f.slot ≠ .stop → t.stop = l.stop)
    ∧ (f.slot ≠ .status → f.slot ≠ .probe →
        t.status = l.status ∧ t.statusAge = l.statusAge ∧ t.statusUrgent = l.statusUrgent)
    ∧ (f.slot ≠ .cue → t.cues = l.cues ∧ t.droppedCues = l.droppedCues)
    ∧ (∀ i : Fin 4, f.slot ≠ .demand i → t.demand[i] = l.demand[i])
    ∧ (∀ i : Fin 4, f.slot ≠ .axis i → t.axis[i] = l.axis[i])
    ∧ (t.probeDue = true ↔ l.probeDue = true ∨ f.slot = .probe ∧ r = .lost)
    ∧ (r = .lost → t.stop = l.stop ∧ t.status = l.status ∧ t.statusAge = l.statusAge ∧ t.statusUrgent = l.statusUrgent
      ∧ t.cues = l.cues ∧ t.droppedCues = l.droppedCues ∧ t.demand = l.demand ∧ t.axis = l.axis)
    ∧ (f.renewed = true → t.stop = l.stop ∧ t.status = l.status ∧ t.statusAge = l.statusAge
      ∧ t.statusUrgent = l.statusUrgent ∧ t.demand = l.demand ∧ t.axis = l.axis)
    ∧ (r ≠ .lost → f.renewed = false →
      (∀ x, f.slot = .stop → l.stop = some x → 1 ≤ x.copies →
        (x.copies = 1 → t.stop = none)
        ∧ (1 < x.copies → t.stop = some { x with copies := x.copies - 1, nextIndex := x.nextIndex + 1 }))
      ∧ (f.slot = .status ∨ f.slot = .probe → t.status = none ∧ t.statusAge = 0 ∧ t.statusUrgent = false)
      ∧ (∀ i, f.slot = .demand i → t.demand = l.demand.set i none)
      ∧ ∀ i, f.slot = .axis i → t.axis = l.axis.set i none)
    ∧ ∀ c rest, f.slot = .cue → l.cues = c :: rest →
      (r = .acked → t.cues = rest ∧ t.droppedCues = l.droppedCues)
      ∧ (r = .unacked ∨ r = .bitError → c.attempts < 2 →
          t.cues = { c with attempts := c.attempts + 1 } :: rest ∧ t.droppedCues = l.droppedCues)
      ∧ (r = .unacked ∨ r = .bitError → c.attempts = 2 →
          t.cues = rest ∧ t.droppedCues = min (l.droppedCues + 1) 65535)

/-- R21: the sixteenth failed attempt in a row brings LINE-MUTE at its end: the CUE FIFO is emptied, each cue counted as
dropped and CUE-FAIL set if there was one; the DEMAND and AXIS slots are emptied; the probe timer starts at 0; and cause
LINE-MUTE stops the station with at least category BRAKE. The failed attempt may end UNACKED, or in a BIT-ERROR at any cell
of the frame after which no other station drives it on. -/
def Obligations.SixteenFailuresMute : Prop :=
  ∀ (f : TxFrame) (s : State) (cells : List Bool), s.operating = true → s.lif.onLine = some f → s.lif.failures = 15 →
    s.lif.mute = .off →
    cells = frameCells s.cfg.own f
      ∨ (f.payload.length ≤ 8 ∧ ∃ (k : Nat) (b : Bool), (frameCells s.cfg.own f)[k]? = some b
        ∧ k + 1 < (frameCells s.cfg.own f).length ∧ ¬ (1 ≤ k ∧ k ≤ 8 ∧ b = true)
        ∧ cells = (frameCells s.cfg.own f).take k ++ [!b]) →
    ∃ t, exec (.attemptEnd cells) s = .next t
      ∧ t.lif.mute = .lineMute ∧ t.lif.failures = 16 ∧ t.lif.cues = [] ∧ t.lif.probeTimer = 0
      ∧ (∀ i : Fin 4, t.lif.demand[i] = none ∧ t.lif.axis[i] = none)
      ∧ t.lif.droppedCues = min (s.lif.droppedCues + s.lif.cues.length) 65535
      ∧ (s.lif.cues ≠ [] → t.svp.flags.getLsbD flagCueFail = true)
      ∧ .lineMute ∈ t.stop.localMarks ∧ t.stop.state ≠ .run ∧ t.stop.state ≠ .resuming
      ∧ categoryRank (some .brake) ≤ categoryRank t.stop.category

/-- R15, R20, R22: a probe becomes due when the probe timer reaches the liveness timeout, and the timer restarts; the STATUS
slot becomes urgent when its age exceeds half the liveness timeout; the window count restarts at 0 at a window boundary.
Nothing else changes, and nothing at all where the event is not due (log 2). -/
def Obligations.LineTimersAct : Prop :=
  ∀ s : State, s.calm →
    (s.lif.mute = .lineMute → s.cfg.liveness ≤ s.lif.probeTimer →
      exec .probeDue s = .next { s with lif := { s.lif with probeDue := true, probeTimer := 0 } })
    ∧ (s.lif.mute ≠ .lineMute ∨ s.lif.probeTimer < s.cfg.liveness → exec .probeDue s = .next s)
    ∧ (s.lif.status.isSome = true → s.lif.statusUrgent = false → s.cfg.liveness < 2 * s.lif.statusAge →
      exec .statusEscalation s = .next { s with lif := { s.lif with statusUrgent := true } })
    ∧ (s.lif.status = none ∨ 2 * s.lif.statusAge ≤ s.cfg.liveness → exec .statusEscalation s = .next s)
    ∧ (s.due.window = true →
      exec .checkWindowEnd s = .next { s with lif := { s.lif with windowCount := 0 }, due := { s.due with window := false } })
    ∧ (s.due.window = false → exec .checkWindowEnd s = .next s)

/-- R3, R4, R7, R9, R19, R20, R196: a discarded frame changes nothing but the receive buffer and its one counter. A length
above 8 or an idle cell inside is a format error; a failed check is a check failure, whatever else is wrong, and where it
brings the window count to an armed threshold it sets the threshold flag and COUNTER-ALERT; a frame of class 6 or 7 whose check
passes is acknowledged and counted as unknown class; a frame of another length than its kind's, with an index where the class
has none, or with a content that R196 refuses, is acknowledged and counted as a format error. -/
def Obligations.DiscardedFramesOnlyCount : Prop :=
  ∀ (c : Instr) (f : Frame) (s : State), s.calm → frameOf c = some f →
    (8 < f.wire.length.val ∨ f.wire.idleInside = true →
      exec c s = .next { s with lif := { s.lif with
        rx := some f, idle := 0, ackDriven := false, formatErrors := min (s.lif.formatErrors + 1) 65535 } })
    ∧ (f.wire.length.val ≤ 8 → f.wire.idleInside = false →
        lineCheck f.cls f.wire.sender f.wire.index f.wire.length.val f.wire.payload ≠ f.wire.check →
      (s.cfg.checkThreshold = 0 ∨ min (s.lif.windowCount + 1) 65535 < s.cfg.checkThreshold →
        exec c s = .next { s with lif := { s.lif with
          rx := some f, idle := 0, ackDriven := false, checkFailures := min (s.lif.checkFailures + 1) 65535,
          windowCount := min (s.lif.windowCount + 1) 65535 } })
      ∧ (s.cfg.checkThreshold ≠ 0 → s.cfg.checkThreshold ≤ min (s.lif.windowCount + 1) 65535 →
        ∃ t, exec c s = .next t ∧ t.svp.flags = s.svp.flags ||| BitVec.twoPow 16 flagCounterAlert
          ∧ t = { s with
                  svp := t.svp
                  lif := { s.lif with
                    rx := some f, idle := 0, ackDriven := false, checkFailures := min (s.lif.checkFailures + 1) 65535,
                    windowCount := min (s.lif.windowCount + 1) 65535, thresholdFlag := true } }))
    ∧ (f.wire.length.val ≤ 8 → f.wire.idleInside = false →
        lineCheck f.cls f.wire.sender f.wire.index f.wire.length.val f.wire.payload = f.wire.check →
      (6 ≤ f.cls.val →
        exec c s = .next { s with lif := { s.lif with
          rx := some f, idle := 0, ackDriven := decide (s.lif.mute ≠ .permanent),
          unknownClass := min (s.lif.unknownClass + 1) 65535 } })
      ∧ ∀ byte : Nat → Nat, (∀ k, byte k = (f.wire.payload.getD k 0).toNat) →
        (f.cls.val < 6 ∧ classLength f.cls ≠ some f.wire.length.val)
          ∨ ((f.cls = 0 ∨ f.cls = 1 ∨ f.cls = 2 ∨ f.cls = 5) ∧ f.wire.index ≠ 0)
          ∨ (f.cls = 0 ∧ (byte 0 / 64 = 0 ∨ byte 0 % 32 = 0 ∨ 15 ≤ byte 0 % 32 ∨ byte 1 % 4 = 3
              ∨ byte 1 / 32 ≠ f.wire.sender.val))
          ∨ ((f.cls = 1 ∨ f.cls = 5) ∧ 9 ≤ byte 1 / 16)
          ∨ (f.cls = 2 ∧ (byte 0 = 0 ∨ 9 ≤ byte 0 ∨ byte 0 = 1 ∧ 3 ≤ byte 4)) →
        exec c s = .next { s with lif := { s.lif with
          rx := some f, idle := 0, ackDriven := decide (s.lif.mute ≠ .permanent),
          formatErrors := min (s.lif.formatErrors + 1) 65535 } })

/-- R135, R132, R133, R145, R180: a STOP frame that is a repeat is not taken. One that is not, taken in RUN or RESUMING,
begins a stop with its code as remote cause and first cause and at least its category, aborts a take in any state other than
IDLE, gives every axis to STOP and sets STOP-ENTER; taken in STOPPING or STOPPED it joins the cause set, the first cause
stays, and the category does not fall. Its sequence becomes the last one seen for its origin. That a stop which begins in RESUMING
aborts a take too is the model's choice (log 32). R112: a stop that begins cancels every seek: the axis is UNCALIBRATED again, with
no ends, span and seek start and both timers at 0, CAL-DONE is set, and the ramp starts from the measured position (R80). -/
def Obligations.StopFramesStop : Prop :=
  ∀ (w : Wire) (m : StopMsg) (s : State), s.hears { cls := 0, wire := w } → parseStop w.payload = some m →
    (m.copy ≠ 0 → s.stopSeen[m.origin] = some m.seq →
      exec (.stopFrame w) s = .next { s with lif := s.lif.received { cls := 0, wire := w } })
    ∧ (m.copy = 0 ∨ s.stopSeen[m.origin] ≠ some m.seq →
      ∃ t, exec (.stopFrame w) s = .next t ∧ t.stopSeen = s.stopSeen.set m.origin (some m.seq)
        ∧ m.cause ∈ t.stop.remoteMarks ∧ t.stop.state ≠ .run ∧ t.stop.state ≠ .resuming
        ∧ categoryRank (some m.category) ≤ categoryRank t.stop.category
        ∧ (∀ i : AxisNo, t.axes[i].dsl.owner = .stop)
        ∧ (s.stop.state = .run ∨ s.stop.state = .resuming →
            t.stop.first = some (m.cause, m.origin, s.time) ∧ t.svp.flags.getLsbD flagStopEnter = true
            ∧ (s.tkq.state ≠ .idle → t.tkq.state = .aborted ∧ t.tkq.abortKind = some .byStop ∧ t.tkq.t = s.tkq.t)
            ∧ (m.category = .cut → t.secured = true)
            ∧ ∀ i : AxisNo,
              (s.axes[i].seeking = true → t.svp.flags.getLsbD flagCalDone = true ∧ t.axes[i].mpr.reseed = true
                ∧ t.axes[i].lens = { s.axes[i].lens with
                    stall := 0, blocked := 0
                    cal := { s.axes[i].lens.cal with
                      state := .uncalibrated, low := none, high := none, span := none, seekStart := none } })
              ∧ (s.axes[i].seeking = false → t.axes[i].lens = s.axes[i].lens))
        ∧ (s.stop.state = .stopping ∨ s.stop.state = .stopped →
            t.stop.first = s.stop.first ∧ categoryRank s.stop.category ≤ categoryRank t.stop.category
            ∧ ∀ k ∈ s.stop.remoteMarks, k ∈ t.stop.remoteMarks))

/-- R29 to R31: a STATUS taken from a peer moves its presence as the tables of R29 and R30 say, is stored, and sets the
start-flag-seen marker; a restart of a roster peer gives cause PEER-RESTART. The entries of the other peers stay. R171, R177: a
participant that shows REFUSED or ABORTED with the armed number returns a take in ARMED, PREROLL or READY to IDLE, and one
that shows ABORTED aborts a take in RUNNING or WAITING without a stop, an append that was due being dropped (log 2); any other
STATUS leaves the take as it is. This holds where the STATUS itself gives no stop cause; which of the two comes first is the
model's choice (log 12). -/
def Obligations.StatusFramesMovePresence : Prop :=
  ∀ (w : Wire) (urgent : Bool) (m : StatusMsg) (s : State),
    s.hears { cls := if urgent then 1 else 5, wire := w } → parseStatus w.payload = some m →
    ∃ t e, exec (.statusFrame urgent w) s = .next t
      ∧ t.peers[w.sender] = { e with last := some m, arrival := s.time, marker := m.startFlag }
      ∧ (∀ st : StationNo, st ≠ w.sender → st ≠ s.cfg.own → t.peers[st] = s.peers[st])
      ∧ (∀ old : PeerEntry, old = s.peers[w.sender] →
        (old.presence = .absent → e = { old with presence := .joining, count := 1 })
        ∧ (old.presence = .lost →
            e = { old with presence := .joining, count := 1, cueSeq := none, demandSeq := Vector.replicate 4 none })
        ∧ (old.presence = .joining → s.time - old.arrival ≤ s.cfg.liveness →
            (old.count = 1 → e = { old with count := 2 })
            ∧ (old.count = 2 → e = { old with presence := .present, count := 3 }))
        ∧ (old.presence = .present → m.startFlag = false ∨ old.marker = true → e = { old with count := 3 })
        ∧ (old.presence = .present → m.startFlag = true → old.marker = false →
            e = { old with presence := .joining, count := 1, cueSeq := none, demandSeq := Vector.replicate 4 none }
            ∧ (names s.cfg.roster w.sender.val = true →
                .peerRestart ∈ t.stop.localMarks ∧ t.stop.state ≠ .run ∧ t.stop.state ≠ .resuming)))
      ∧ (e.presence ≠ s.peers[w.sender].presence → t.svp.flags.getLsbD flagPeerChange = true)
      ∧ ∀ early late : Prop,
        (early ↔ names s.tkq.mask w.sender.val = true ∧ m.number = s.tkq.number ∧ (m.take = .refused ∨ m.take = .aborted)
          ∧ (s.tkq.state = .armed ∨ s.tkq.state = .preroll ∨ s.tkq.state = .ready)) →
        (late ↔ names s.tkq.mask w.sender.val = true ∧ m.number = s.tkq.number ∧ m.take = .aborted
          ∧ (s.tkq.state = .running ∨ s.tkq.state = .waiting)) →
        s.noOwnGates → (∀ z : ZoneNo, s.cfg.zones[z].gateLine.map Prod.fst ≠ some w.sender
          ∧ s.cfg.zones[z].qualifier.map Qualifier.station ≠ some w.sender) →
        m.startFlag = false ∨ s.peers[w.sender].marker = true ∨ s.peers[w.sender].presence ≠ .present
          ∨ names s.cfg.roster w.sender.val = false →
        t.stop = s.stop
        ∧ (early → t.tks = s.tks
          ∧ t.tkq = { armIgnored := s.tkq.armIgnored, goDeclined := s.tkq.goDeclined, cueSeq := s.tkq.cueSeq })
        ∧ (late → t.tkq = { s.tkq with state := .aborted, abortKind := some .withoutStop, appendDue := false }
          ∧ (s.tkq.mode = some .play → t.tks = s.tks)
          ∧ ∀ i, s.tkq.mode = some .record → s.tkq.state = .running → s.tks.find s.tkq.number = some i →
              s.tks.dir[i].state = .recording → s.tks.dir[i].uploaded = false →
              t.tks = { s.tks with dir := s.tks.dir.set i { s.tks.dir[i] with state := .truncated } })
        ∧ (¬ early → ¬ late → t.tkq = s.tkq ∧ t.tks = s.tks)

/-- R36, R64, R65, R55, R56: a DEMAND is recorded for its sender, with a gap counted where its sequence is not the next one;
one for another station is passed over; one of the wrong kind counts as mismatched, and otherwise one from another sender
than the live source counts as foreign; one that passes is taken: the freshness timer restarts, the value is stored clamped,
and the latch clears where the source is PRESENT, the enable line reads 1, and a velocity lies within the deadband. -/
def Obligations.DemandFramesAreJudged : Prop :=
  ∀ (w : Wire) (m : DemandMsg) (s : State), s.hears { cls := 3, wire := w } → m = parseDemand w.payload →
    ∃ t e, exec (.demandFrame w) s = .next t
      ∧ e.demandSeq = s.peers[w.sender].demandSeq.set w.index (some m.seq)
      ∧ (s.peers[w.sender].demandSeq[w.index] = none ∨ s.peers[w.sender].demandSeq[w.index] = some (m.seq - 1) →
          e.gaps = s.peers[w.sender].gaps)
      ∧ (∀ old, s.peers[w.sender].demandSeq[w.index] = some old → m.seq ≠ old + 1 →
          e.gaps = s.peers[w.sender].gaps.set w.index (min (s.peers[w.sender].gaps[w.index] + 1) 65535))
      ∧ e = { s.peers[w.sender] with demandSeq := e.demandSeq, gaps := e.gaps }
      ∧ t = { s with
              lif := s.lif.received { cls := 3, wire := w }, peers := s.peers.set w.sender e,
              mismatched := t.mismatched, foreign := t.foreign, axes := t.axes }
      ∧ (∀ i : AxisNo, i ≠ m.axis → t.axes[i] = s.axes[i])
      ∧ (m.station ≠ s.cfg.own → t.mismatched = s.mismatched ∧ t.foreign = s.foreign ∧ t.axes = s.axes)
      ∧ (m.station = s.cfg.own →
        ∀ fits : Prop, (fits ↔ (s.cfg.axes[m.axis].kind = .motion ∧ m.lens = false)
            ∨ (s.cfg.axes[m.axis].kind = .lens ∧ m.lens = true)) →
        (¬ fits → t.mismatched = min (s.mismatched + 1) 65535 ∧ t.foreign = s.foreign ∧ t.axes = s.axes)
        ∧ (fits → s.cfg.axes[m.axis].liveSource ≠ some w.sender →
            t.mismatched = s.mismatched ∧ t.foreign = min (s.foreign + 1) 65535 ∧ t.axes = s.axes)
        ∧ (fits → s.cfg.axes[m.axis].liveSource = some w.sender →
            t.mismatched = s.mismatched ∧ t.foreign = s.foreign
            ∧ t.axes[m.axis] = { s.axes[m.axis] with dsl := t.axes[m.axis].dsl }
            ∧ t.axes[m.axis].dsl.owner = s.axes[m.axis].dsl.owner ∧ t.axes[m.axis].dsl.held = s.axes[m.axis].dsl.held
            ∧ t.axes[m.axis].dsl.fresh = 0
            ∧ (m.lens = false → t.axes[m.axis].dsl.liveVel =
                max (-(s.cfg.axes[m.axis].vmax : Int)) (min m.value s.cfg.axes[m.axis].vmax))
            ∧ (m.lens = true → t.axes[m.axis].dsl.liveUnit = some (max 0 (min m.value 65535)).toNat)
            ∧ (s.present w.sender = true → s.enableOpen m.axis = false →
                m.lens = true ∨ m.value.natAbs ≤ s.cfg.axes[m.axis].deadband →
                t.axes[m.axis].dsl.latch = false ∧ t.axes[m.axis].dsl.gate = .opened)
            ∧ (s.present w.sender = true → s.enableOpen m.axis = false → m.lens = false →
                s.cfg.axes[m.axis].deadband < m.value.natAbs → s.axes[m.axis].dsl.latch = true →
                t.axes[m.axis].dsl.latch = true ∧ t.axes[m.axis].dsl.gate = .zeroWait)
            ∧ (s.present w.sender = false → t.axes[m.axis].dsl.gate = .closedSource)
            ∧ (s.present w.sender = true → s.enableOpen m.axis = true → t.axes[m.axis].dsl.gate = .closedEnable)))

/-- R27, R115: an AXIS frame of a peer replaces its report of that axis, with the station time as arrival; the entries of
the other peers stay (the own entry mirrors a STATUS that the frame may cause, R26), and so does the last-ARM record. A zone
that qualifies on the axis takes its reading from the new report. R117, R119, R120: a zone without a gate that it makes active
is tested at once: it is breached exactly where the guarded axis's measured position lies in the zone deeper than the
tolerance, and a new breach gives cause ZONE-BREACH with at least category BRAKE. -/
def Obligations.AxisFramesUpdateReports : Prop :=
  ∀ (w : Wire) (m : AxisMsg) (s : State), s.hears { cls := 4, wire := w } → m = parseAxis w.payload →
    ∃ t, exec (.axisFrame w) s = .next t
      ∧ t.peers[w.sender] = { s.peers[w.sender] with
          reports := s.peers[w.sender].reports.set w.index
            ({ position := m.position, velocity := m.velocity, valid := m.valid, atTarget := m.atTarget,
               driveOn := m.driveOn, arrival := some s.time } : AxisReport) }
      ∧ (∀ st : StationNo, st ≠ w.sender → st ≠ s.cfg.own → t.peers[st] = s.peers[st])
      ∧ t.lastArm = s.lastArm
      ∧ ∀ (z : ZoneNo) (c : ZoneCfg) (q : Qualifier), c = s.cfg.zones[z] → c.inUse = true → c.qualifier = some q →
          q.station = w.sender → q.axis = w.index →
          (s.present w.sender = true → m.valid = true →
            t.zones[z].qualifier = if q.qlo ≤ m.position ∧ m.position ≤ q.qhi then .inside else .outside)
          ∧ (s.present w.sender = false ∨ m.valid = false → t.zones[z].qualifier = .unknown)
          ∧ ∀ x : Int, c.gateLine = none → s.zones[z].active = false → s.zones[z].breached = false →
              s.axes[c.axis].link.state = .locked → s.axes[c.axis].link.measured = some x →
            (t.zones[z].active = true ↔ t.zones[z].qualifier ≠ .outside)
            ∧ (t.zones[z].breached = true ↔ t.zones[z].active = true ∧ c.lo ≤ x ∧ x ≤ c.hi
              ∧ (c.tolerance : Int) < min (x - c.lo) (c.hi - x))
            ∧ (t.zones[z].breached = true → .zoneBreach ∈ t.stop.localMarks ∧ t.stop.state ≠ .run ∧ t.stop.state ≠ .resuming
              ∧ categoryRank (some .brake) ≤ categoryRank t.stop.category)

/-- R23: a frame whose check passes and that carries the own station number from another station brings permanent mute: all
slots are emptied, each cue counted as dropped and CUE-FAIL set if there was one, and cause DUPLICATE stops the station with
category CUT; in permanent mute, further such frames have no effect. -/
def Obligations.DuplicateMutesForGood : Prop :=
  ∀ (c : Instr) (f : Frame) (s : State), s.calm → frameOf c = some f → f.judge (some s.cfg.own) = .duplicate →
    (s.lif.mute ≠ .permanent →
      ∃ t, exec c s = .next t ∧ t.lif.mute = .permanent ∧ t.lif.pendingIds s.cfg.own = [] ∧ t.lif.onLine = none
        ∧ t.lif.droppedCues = min (s.lif.droppedCues + s.lif.cues.length) 65535
        ∧ (s.lif.cues ≠ [] → t.svp.flags.getLsbD flagCueFail = true)
        ∧ .duplicate ∈ t.stop.localMarks ∧ t.stop.category = some .cut
        ∧ (s.stop.category ≠ some .cut → t.secured = true))
    ∧ (s.lif.mute = .permanent → exec c s = .next { s with lif := s.lif.received f })

/-! ## Cues -/

/-- R165, R36, R37: a received cue that is a repeat, or whose mask does not name the own station, is recorded and not acted
on: its sequence becomes the sender's last one, and an ARM cue becomes the last-ARM context record. -/
def Obligations.RepeatsAreOnlyRecorded : Prop :=
  ∀ (c : Instr) (w : Wire) (m : CueMsg) (s : State), s.hears { cls := 2, wire := w } → cueRow c w m →
    s.peers[w.sender].cueSeq = some m.seq ∨ names m.mask s.cfg.own.val = false →
    exec c s = .next (s.heardCue w m)

/-- R167, R168, R152, R166: a new ARM-RECORD is ignored and counted in ARMED, PREROLL, READY, RUNNING and WAITING; elsewhere
it is refused with the first reason that applies, or the station is ARMED to record its takeable axes. The fields that the
rules do not name take their reset values (log 17). The stop record and the store stay as they are. -/
def Obligations.ArmRecordArmsOrRefuses : Prop :=
  ∀ (c : Instr) (w : Wire) (m : CueMsg) (s : State), s.hearsCue c w m → m.kind = .armRecord →
    (s.tkq.state = .armed ∨ s.tkq.state = .preroll ∨ s.tkq.state = .ready ∨ s.tkq.state = .running ∨ s.tkq.state = .waiting →
      exec c s = .next { s.heardCue w m with
        tkq := { s.tkq with armIgnored := min (s.tkq.armIgnored + 1) 65535 } })
    ∧ (s.tkq.state = .idle ∨ s.tkq.state = .ended ∨ s.tkq.state = .aborted ∨ s.tkq.state = .refused →
      ∃ t reason, exec c s = .next t
        ∧ reason = (if (s.refusesArm m).isSome then s.refusesArm m
            else if ∀ i : AxisNo, s.cfg.axes[i].kind = .unused ∨ s.cfg.axes[i].takeable = false then some .noAxis
            else if ∃ i : EntryNo, s.tks.dir[i].state ≠ .empty ∧ s.tks.dir[i].number = m.number then some .takeExists
            else if ∀ i : EntryNo, s.tks.dir[i].state ≠ .empty then some .dirFull
            else none)
        ∧ (∀ r, reason = some r → t.tkq =
            { state := .refused, mode := some .record, number := m.number, mask := m.mask, reason := some r,
              armIgnored := s.tkq.armIgnored, goDeclined := s.tkq.goDeclined, cueSeq := s.tkq.cueSeq })
        ∧ (reason = none → periodOf m.parameter.toNat = some t.tkq.period
            ∧ (∀ i : AxisNo, i ∈ t.tkq.axes ↔ s.cfg.axes[i].kind ≠ .unused ∧ s.cfg.axes[i].takeable = true)
            ∧ t.tkq =
              { state := .armed, mode := some .record, number := m.number, mask := m.mask, period := t.tkq.period,
                axes := t.tkq.axes, armIgnored := s.tkq.armIgnored, goDeclined := s.tkq.goDeclined, cueSeq := s.tkq.cueSeq })
        ∧ t.stop = s.stop ∧ t.tks = s.tks ∧ t.lastArm = (s.heardCue w m).lastArm
        ∧ (t.tkq.state ≠ s.tkq.state → t.svp.flags.getLsbD flagTakeChange = true))

/-- R167, R169, R51, R52: a new ARM-PLAY that the checks pass brings PREROLL, with the entry's period, axis list and length
and, for each claimed axis, the target of its first sample; a claimed axis that is not seeking goes to TAKE. R99, R103: the
target of a LENS axis is in the same event its held target count, and its unit the last lens unit. A refused one
keeps the first reason that applies, and one outside IDLE, ENDED, ABORTED and REFUSED is ignored and counted. The fields
that the rules do not name take their reset values (log 17). -/
def Obligations.ArmPlayPrerollsOrRefuses : Prop :=
  ∀ (c : Instr) (w : Wire) (m : CueMsg) (s : State), s.hearsCue c w m → m.kind = .armPlay →
    (s.tkq.state = .armed ∨ s.tkq.state = .preroll ∨ s.tkq.state = .ready ∨ s.tkq.state = .running ∨ s.tkq.state = .waiting →
      exec c s = .next { s.heardCue w m with
        tkq := { s.tkq with armIgnored := min (s.tkq.armIgnored + 1) 65535 } })
    ∧ (s.tkq.state = .idle ∨ s.tkq.state = .ended ∨ s.tkq.state = .aborted ∨ s.tkq.state = .refused →
      ∃ t, exec c s = .next t ∧ t.stop = s.stop ∧ t.tks = s.tks
        ∧ (t.tkq.state ≠ s.tkq.state → t.svp.flags.getLsbD flagTakeChange = true)
        ∧ ∀ reason : Option RefusalReason,
          reason = (if (s.refusesArm m).isSome then s.refusesArm m
            else match s.tks.entry m.number with
              | none => some .noTake
              | some e =>
                if e.state = .recording then some .noTake
                else if (∃ i ∈ e.axes, s.cfg.axes[i].kind = .unused) ∨ ∀ i ∈ e.axes, s.cfg.axes[i].takeable = false then some .noAxis
                else if ∃ i ∈ e.axes, s.cfg.axes[i].kind = .lens ∧ s.axes[i].lens.cal.state ≠ .calibrated then some .notCalibrated
                else if ∃ p ∈ e.axes.zip (e.stats.getD []),
                    ¬ (if s.cfg.axes[p.1].kind = .lens then 0 ≤ p.2.minimum ∧ p.2.maximum ≤ 65535
                      else s.cfg.axes[p.1].softLow ≤ p.2.minimum ∧ p.2.maximum ≤ s.cfg.axes[p.1].softHigh) then some .bounds
                else none) →
          (∀ r, reason = some r → t.tkq =
            { state := .refused, mode := some .play, number := m.number, mask := m.mask, reason := some r,
              armIgnored := s.tkq.armIgnored, goDeclined := s.tkq.goDeclined, cueSeq := s.tkq.cueSeq })
          ∧ (reason = none → ∃ e, s.tks.entry m.number = some e
            ∧ t.tkq =
              { state := .preroll, mode := some .play, number := m.number, mask := m.mask, period := e.period, axes := e.axes,
                length := e.length, goal := t.tkq.goal, armIgnored := s.tkq.armIgnored, goDeclined := s.tkq.goDeclined,
                cueSeq := s.tkq.cueSeq }
            ∧ ∀ i ∈ e.axes, s.cfg.axes[i].takeable = true →
                (s.axes[i].seeking = false → t.axes[i].dsl.owner = .take)
                ∧ (s.cfg.axes[i].kind = .motion → t.tkq.goal[i] = some (s.tks.sampleValue e 0 (e.axes.idxOf i)))
                ∧ (s.cfg.axes[i].kind = .lens → t.tkq.goal[i] =
                    mapUnit s.cfg.axes[i] s.axes[i].lens (s.tks.sampleValue e 0 (e.axes.idxOf i)).toNat)
                ∧ ∀ x, s.cfg.axes[i].kind = .lens → t.tkq.goal[i] = some x → t.axes[i].dsl.held = some x
                    ∧ t.axes[i].lens.lastUnit = some (s.tks.sampleValue e 0 (e.axes.idxOf i)).toNat))

/-- R172, R153, R151, R147, R149: a new GO with the armed number starts an ARMED recording, which opens the lowest EMPTY entry with
sample 0 in a fresh block, whose link is END and whose other words are 0; each axis's first sample, minimum and maximum are the
sample's value. Or it ends by STORE-FULL where no block is free; it starts a READY take where every other participant
is READY with that number, and is declined and counted otherwise. Any other GO is ignored. -/
def Obligations.GoStartsTheTake : Prop :=
  ∀ (c : Instr) (w : Wire) (m : CueMsg) (s : State), s.hearsCue c w m → m.kind = .go → s.noOwnGates →
    (m.number ≠ s.tkq.number ∨ ¬ (s.tkq.state = .armed ∧ s.tkq.mode = some .record)
        ∧ ¬ (s.tkq.state = .ready ∧ s.tkq.mode = some .play) → exec c s = .next (s.heardCue w m))
    ∧ (m.number = s.tkq.number → s.tkq.state = .armed → s.tkq.mode = some .record → s.tkq.axes.length ≤ 4 →
      ∃ t, exec c s = .next t
        ∧ (s.tks.free = [] → t.tks = s.tks ∧ t.tkq =
            { s.tkq with state := .ended, endKind := some .storeFull, t := 0, lag := Vector.replicate 4 false, holdTimer := 0 })
        ∧ ∀ b rest i, s.tks.free = b :: rest → s.tks.lowestEmpty = some i →
            t.tkq = { s.tkq with state := .running, t := 0, lag := Vector.replicate 4 false, holdTimer := 0 }
            ∧ t.tks.free = rest
            ∧ (∀ j : EntryNo, j ≠ i → t.tks.dir[j] = s.tks.dir[j])
            ∧ t.tks.dir[i] =
              { number := s.tkq.number, state := .recording, uploaded := false, period := s.tkq.period, axes := s.tkq.axes,
                length := 1, first := some b, last := some b, blocks := 1
                stats := some (s.tkq.axes.map fun a =>
                  { minimum := s.sampleNow a, maximum := s.sampleNow a, firstSample := s.sampleNow a }) }
            ∧ t.tks.links = s.tks.links
            ∧ ((∀ x ∈ s.tks.free, look s.tks.links x = none) → look t.tks.links b = none)
            ∧ (∀ (j : Nat) (a : AxisNo), s.tkq.axes[j]? = some a →
                readWord t.tks.mem b j = BitVec.ofInt 32 (s.sampleNow a))
            ∧ (∀ a, 256 * b + 4 * s.tkq.axes.length ≤ a → a < 256 * b + 256 → readByte t.tks.mem a = 0)
            ∧ ∀ a, a < 256 * b ∨ 256 * b + 256 ≤ a → readByte t.tks.mem a = readByte s.tks.mem a)
    ∧ (m.number = s.tkq.number → s.tkq.state = .ready → s.tkq.mode = some .play →
      ((∀ st : StationNo, names s.tkq.mask st.val = true → st ≠ s.cfg.own →
          s.peers[st].takeState = .ready ∧ s.peers[st].takeNumber = s.tkq.number) →
        ∃ t, exec c s = .next t ∧ t.tks = s.tks
          ∧ (s.tkq.length ≠ 1 →
            t.tkq = { s.tkq with state := .running, t := 0, lag := Vector.replicate 4 false, holdTimer := 0 })
          ∧ (s.tkq.length = 1 → t.tkq =
            { s.tkq with state := .ended, endKind := some .endReached, t := 0, lag := Vector.replicate 4 false, holdTimer := 0 }))
      ∧ ((∃ st : StationNo, names s.tkq.mask st.val = true ∧ st ≠ s.cfg.own
          ∧ ¬ (s.peers[st].takeState = .ready ∧ s.peers[st].takeNumber = s.tkq.number)) →
        exec c s = .next { s.heardCue w m with tkq := { s.tkq with goDeclined := min (s.tkq.goDeclined + 1) 65535 } }))

/-- R178, R155: a new HALT with the armed number ends a take in RUNNING or WAITING: the state becomes ENDED by HALTED and the
take time stays; a recording's entry becomes COMPLETE; each claimed axis of a play take receives its stopping point as the
last target. Any other HALT is ignored, the HALT of a READY take among them (log 33). An append that was still due is dropped
(the model's choice, log 2). No zone is gated by the own line word, so that the end of the take cannot stop the station. -/
def Obligations.HaltEndsTheTake : Prop :=
  ∀ (c : Instr) (w : Wire) (m : CueMsg) (s : State), s.hearsCue c w m → m.kind = .halt → s.noOwnGates →
    (m.number ≠ s.tkq.number ∨ s.tkq.state ≠ .running ∧ s.tkq.state ≠ .waiting → exec c s = .next (s.heardCue w m))
    ∧ (m.number = s.tkq.number → s.tkq.state = .running ∨ s.tkq.state = .waiting →
      ∃ t, exec c s = .next t
        ∧ t.tkq = { s.tkq with state := .ended, endKind := some .halted, goal := t.tkq.goal, appendDue := false }
        ∧ (∀ i : AxisNo, s.claims i = true → t.tkq.goal[i] = some
            ((s.axes[i].mpr.p + s.axes[i].mpr.v.sign * (s.axes[i].mpr.v * s.axes[i].mpr.v / (2 * (s.cfg.axes[i].a : Int))) + 128) / 256))
        ∧ (∀ i : AxisNo, s.claims i = true → t.axes[i].dsl.owner = .take →
            ∃ x, t.tkq.goal[i] = some x ∧ t.goalOf i = .position x)
        ∧ (s.tkq.mode = some .play → t.tks = s.tks ∧ ∀ i : AxisNo, s.claims i = true → t.claims i = true)
        ∧ ∀ i, s.tkq.mode = some .record → s.tkq.state = .running → s.tks.find s.tkq.number = some i →
            s.tks.dir[i].state = .recording → s.tks.dir[i].uploaded = false →
            t.tks = { s.tks with dir := s.tks.dir.set i { s.tks.dir[i] with state := .complete } })

/-- R179: a new DISARM with the armed number or 0, in any take state but IDLE, closes a recording and returns the take record
to its reset values, the counters and the own cue sequence excepted; an append that was still due is dropped with the record (the
model's choice, log 2). Any other DISARM is ignored. R54: a MOTION axis whose claim ends and that goes to LIVE has its zero-start
latch set. -/
def Obligations.DisarmReturnsToIdle : Prop :=
  ∀ (c : Instr) (w : Wire) (m : CueMsg) (s : State), s.hearsCue c w m → m.kind = .disarm → s.noOwnGates →
    (m.number ≠ s.tkq.number ∧ m.number ≠ 0 ∨ s.tkq.state = .idle → exec c s = .next (s.heardCue w m))
    ∧ (m.number = s.tkq.number ∨ m.number = 0 → s.tkq.state ≠ .idle →
      ∃ t, exec c s = .next t
        ∧ t.tkq = { armIgnored := s.tkq.armIgnored, goDeclined := s.tkq.goDeclined, cueSeq := s.tkq.cueSeq }
        ∧ (∀ i : AxisNo, t.claims i = false) ∧ t.svp.flags.getLsbD flagTakeChange = true
        ∧ (∀ i : AxisNo, s.claims i = true → s.stop.state = .run → s.axes[i].seeking = false → s.cfg.axes[i].kind = .motion →
            s.cfg.axes[i].liveSource ≠ none →
            t.axes[i].dsl.owner = .live ∧ t.axes[i].dsl.latch = true ∧ t.axes[i].dsl.gate ≠ .opened)
        ∧ ∀ i, s.tkq.mode = some .record → s.tkq.state = .running → s.tks.find s.tkq.number = some i →
            s.tks.dir[i].state = .recording → s.tks.dir[i].uploaded = false →
            t.tks = { s.tks with dir := s.tks.dir.set i { s.tks.dir[i] with state := .complete } })

/-- R141 to R144, R134: a RESUME is evaluated in STOPPED and ignored elsewhere. Where none of the persisting conditions holds
it is accepted: RESUMING, no category, no cause, and the drive-on boundary awaited. Otherwise it is blocked: the first
condition in the order of R142 becomes the blocking condition, RESUME-BLOCKED is set, and a burst is requested with the held
category and that code. -/
def Obligations.ResumeIsEvaluatedInStopped : Prop :=
  ∀ (c : Instr) (w : Wire) (m : CueMsg) (s : State), s.hearsCue c w m → m.kind = .resume →
    (s.stop.state ≠ .stopped → exec c s = .next (s.heardCue w m))
    ∧ (s.stop.state = .stopped → (∀ k ∈ persistingOrder, ¬ s.persistsBy k) →
      ∃ t, exec c s = .next t ∧ t.driveOn = .awaited ∧ t.axes = s.axes
        ∧ t.stop = { s.stop with
            state := .resuming, category := none, localMarks := [], remoteMarks := [], first := none, origin := none,
            resumeBlocked := false, blocking := none })
    ∧ ∀ before k after, s.stop.state = .stopped → persistingOrder = before ++ k :: after →
        (∀ j ∈ before, ¬ s.persistsBy j) → s.persistsBy k →
      ∃ t, exec c s = .next t ∧ t.axes = s.axes ∧ t.driveOn = s.driveOn
        ∧ t.stop = { s.stop with resumeBlocked := true, blocking := some k, seq := s.stop.seq + 1 }
        ∧ t.svp.flags.getLsbD flagResumeBlocked = true
        ∧ (∀ category, s.stop.category = some category → s.lif.mute ≠ .permanent →
            t.lif.stop = some { category := category, cause := k, seq := s.stop.seq + 1, copies := 3, nextIndex := 0 })

/-- R157, R149: a new ERASE of a take that exists and is not in use frees its blocks at the tail of the free list, in chain
order, empties its entry and closes an open upload of that take; one of a take in use is counted, and one of no take does nothing. The bytes of the store and
every other entry stay. -/
def Obligations.EraseFreesTheTake : Prop :=
  ∀ (c : Instr) (w : Wire) (m : CueMsg) (s : State), s.hearsCue c w m → m.kind = .erase →
    (m.number.toNat < 1 ∨ 250 < m.number.toNat ∨ s.tks.find m.number = none → exec c s = .next (s.heardCue w m))
    ∧ ∀ i, 1 ≤ m.number.toNat → m.number.toNat ≤ 250 → s.tks.find m.number = some i →
      (m.number = s.tkq.number → s.tkq.state ≠ .idle → s.tkq.state ≠ .refused →
        exec c s = .next { s.heardCue w m with
          tks := { s.tks with eraseIgnored := min (s.tks.eraseIgnored + 1) 65535 } })
      ∧ (m.number ≠ s.tkq.number ∨ s.tkq.state = .idle ∨ s.tkq.state = .refused →
        ∃ t, exec c s = .next t ∧ t.tks.dir = s.tks.dir.set i {} ∧ t.tks.mem = s.tks.mem
          ∧ t.tks.free = s.tks.free ++ s.tks.chain s.tks.dir[i]
          ∧ (∀ b, look t.tks.links b = if b ∈ s.tks.chain s.tks.dir[i] then none else look s.tks.links b)
          ∧ t.tks.eraseIgnored = s.tks.eraseIgnored
          ∧ (∀ written, s.tks.upload = some (m.number, written) → t.tks.upload = none)
          ∧ ((∀ written, s.tks.upload ≠ some (m.number, written)) → t.tks.upload = s.tks.upload)
          ∧ t.tkq = s.tkq ∧ t.stop = s.stop ∧ t.svp.flags.getLsbD flagTakeChange = true)

/-- R105, R107, R51: a new CALIBRATE that names one axis starts a seek toward the low end where the axis is a LENS axis, the
stop state is RUN, no take claim stands, it is not seeking and no low-end LIMIT line is active; the axis then goes to CAL.
R111: where a low-end LIMIT line is active, the low seek ends at once at the measured position and the high seek starts there;
where a high-end one is active too, that ends at once with a span of 0: CAL-FAULT with SPAN-SHORT, CAL-DONE set, and the next
computation of the profiler starting from the measured position (R80). Where one of the first four conditions fails, the cue
is counted as ignored for that axis. -/
def Obligations.CalibrateSeeksOrCounts : Prop :=
  ∀ (c : Instr) (w : Wire) (m : CueMsg) (s : State) (i : AxisNo), s.hearsCue c w m → m.kind = .calibrate →
    (∀ j : AxisNo, names m.parameter j.val = decide (j = i)) →
    (s.cfg.axes[i].kind = .lens → s.stop.state = .run → s.claims i = false → s.axes[i].seeking = false →
      s.limitActive i false = false →
      ∃ t, exec c s = .next t ∧ t.axes[i].dsl.owner = .cal ∧ t.axes[i].dsl.held = none ∧ t.calIgnored = s.calIgnored
        ∧ t.axes[i].lens = { s.axes[i].lens with
            stall := 0, blocked := 0
            cal := { s.axes[i].lens.cal with
              state := .seekLow, low := none, high := none, span := none, reason := none,
              seekStart := s.axes[i].link.measured } }
        ∧ (∀ j : AxisNo, j ≠ i → t.axes[j] = s.axes[j]) ∧ t.stop = s.stop ∧ t.tkq = s.tkq)
    ∧ (s.cfg.axes[i].kind = .lens → s.stop.state = .run → s.claims i = false → s.axes[i].seeking = false →
      s.limitActive i false = true →
      ∃ t, exec c s = .next t ∧ t.axes[i].dsl.held = none ∧ t.calIgnored = s.calIgnored
        ∧ (s.limitActive i true = false → t.axes[i].dsl.owner = .cal ∧ t.axes[i].lens.cal =
            { s.axes[i].lens.cal with
              state := .seekHigh, low := s.axes[i].link.measured, high := none, span := none, reason := none,
              seekStart := s.axes[i].link.measured })
        ∧ (s.limitActive i true = true → 0 < s.cfg.axes[i].minSpan → t.axes[i].lens.cal =
            { s.axes[i].lens.cal with
              state := .calFault, low := s.axes[i].link.measured, high := s.axes[i].link.measured,
              span := s.axes[i].link.measured.map fun _ => 0, reason := some .spanShort,
              seekStart := s.axes[i].link.measured }
            ∧ t.axes[i].mpr.reseed = true ∧ t.svp.flags.getLsbD flagCalDone = true)
        ∧ (∀ j : AxisNo, j ≠ i → t.axes[j] = s.axes[j]) ∧ t.stop = s.stop ∧ t.tkq = s.tkq)
    ∧ (s.cfg.axes[i].kind ≠ .lens ∨ s.stop.state ≠ .run ∨ s.claims i = true ∨ s.axes[i].seeking = true →
      exec c s = .next { s.heardCue w m with calIgnored := min (s.calIgnored + 1) 65535 })

/-! ## What falls due within a control period -/

/-- R28, R31, R57, R55, R56, R117: a peer silent for longer than the liveness timeout becomes LOST, and a roster peer that was
PRESENT gives cause PEER-LOST; a freshness timer that first exceeds the demand timeout closes the gate as stale and sets the
latch of a MOTION axis; an axis report that first exceeds the liveness timeout makes the qualifiers that read it UNKNOWN.
An event that is not due does nothing (log 2). -/
def Obligations.TimeoutsAct : Prop :=
  ∀ (s : State), s.calm →
    (∀ st : StationNo, st ≠ s.cfg.own →
      (s.peers[st].presence = .joining ∨ s.peers[st].presence = .present → s.cfg.liveness < s.time - s.peers[st].arrival →
        ∃ t, exec (.livenessTimeout st) s = .next t
          ∧ t.peers[st] = { s.peers[st] with presence := .lost, count := 0 }
          ∧ (∀ other : StationNo, other ≠ st → other ≠ s.cfg.own → t.peers[other] = s.peers[other])
          ∧ t.svp.flags.getLsbD flagPeerChange = true
          ∧ (s.peers[st].presence = .present → names s.cfg.roster st.val = true →
              .peerLost ∈ t.stop.localMarks ∧ t.stop.state ≠ .run ∧ t.stop.state ≠ .resuming))
      ∧ (s.peers[st].presence = .absent ∨ s.peers[st].presence = .lost ∨ s.time - s.peers[st].arrival ≤ s.cfg.liveness →
        exec (.livenessTimeout st) s = .next s))
    ∧ (∀ (i : AxisNo) (st : StationNo), s.cfg.axes[i].kind ≠ .unused → s.cfg.axes[i].liveSource = some st →
      (s.axes[i].dsl.fresh = s.cfg.axes[i].demandTimeout + 1 →
        ∃ t, exec (.demandTimeout i) s = .next t
          ∧ (s.present st = true → s.enableOpen i = false → t.axes[i].dsl.gate = .closedStale)
          ∧ t.axes[i].dsl.latch = (s.axes[i].dsl.latch || decide (s.cfg.axes[i].kind = .motion))
          ∧ t = { s with axes := t.axes }
          ∧ (∀ j : AxisNo, j ≠ i → t.axes[j] = s.axes[j])
          ∧ t.axes[i] = { s.axes[i] with dsl := { s.axes[i].dsl with
              gate := t.axes[i].dsl.gate, latch := t.axes[i].dsl.latch } })
      ∧ (s.axes[i].dsl.fresh ≠ s.cfg.axes[i].demandTimeout + 1 → exec (.demandTimeout i) s = .next s))
    ∧ ∀ (st : StationNo) (i : AxisNo) (a : Nat), st ≠ s.cfg.own → s.peers[st].reports[i].arrival = some a →
      (min (s.time - a) 65535 = s.cfg.liveness + 1 →
        ∃ t, exec (.reportStale st i) s = .next t
          ∧ ∀ (z : ZoneNo) (q : Qualifier), s.cfg.zones[z].inUse = true → s.cfg.zones[z].qualifier = some q →
              q.station = st → q.axis = i →
              t.zones[z].qualifier = .unknown ∧ (s.cfg.zones[z].gateLine = none → t.zones[z].active = true))
      ∧ (min (s.time - a) 65535 ≠ s.cfg.liveness + 1 → exec (.reportStale st i) s = .next s)

/-- R83, R195: a burst whose start bit is among its first four samples, and whose W + 8 samples after it are the position bits,
the error bit, the warning bit and the CRC-6 over them, is read as GOOD with its raw value and warning where the error bit is
0, as ERROR where it is 1, and as CHECK where the six bits differ; without a start bit it is read as NO-START. -/
def Obligations.EncoderFramesAreRead : Prop :=
  ∀ (positionBits raw lead : Nat) (warning : Bool) (crc : BitVec 6) (rest : List Bool),
    raw < 2 ^ positionBits → lead ≤ 3 →
    (∀ error, readSamples positionBits (List.replicate lead false ++ true :: (natBits positionBits raw ++ [error, warning]
          ++ natBits 6 crc.toNat) ++ rest)
        = if crc ≠ crc6 (natBits positionBits raw ++ [error, warning]) then .check
          else if error then .error else .good raw warning)
    ∧ readSamples positionBits (List.replicate 4 false ++ rest) = .noStart

/-- R83 to R85, R88, R89, R91, R92: the one read of a period that is made on a link: in SEARCH or LOST it is counted by the
dwell, and judged among reads 17 to 32; a GOOD read while LOCKED becomes the measured position; a bad one holds it and is
counted, sets the alert and COUNTER-ALERT at an armed threshold, and, where it is one more than the bad-count threshold in a
window, makes the link LOST with its counts at 0, which gives cause ENC-LOST where the drive is on. In FAULT no read is made. A
second read of a period is passed over (the model's choice, log 29). R119, R120: at the end of a GOOD read an active zone that
guards the axis is breached exactly where the position lies in it deeper than the tolerance, and a new breach gives cause
ZONE-BREACH. R110: a GOOD read of a seeking axis that has travelled farther than the maximum span and the guard ends the seek in
CAL-FAULT with NO-END, with CAL-DONE set (R111); one within that distance leaves the seek as it is. That the
travel test comes before the zones, so that NO-END stands also where the same read newly breaches a zone whose stop would cancel
the seek (R112), is the model's order (log 12), not the spec's. -/
def Obligations.ReadsMoveTheLink : Prop :=
  ∀ (i : AxisNo) (samples : List Bool) (r : ReadResult) (l : Link) (s : State), s.calm → s.cfg.axes[i].kind ≠ .unused →
    l = s.axes[i].link → l.dwell < 32 → l.window < 32 → r = readSamples s.cfg.axes[i].positionBits samples →
    (l.state = .fault ∨ s.due.reads[i] = false → exec (.encoderRead i samples) s = .next s)
    ∧ (l.state ≠ .fault → s.due.reads[i] = true → ∀ alerts : Bool,
      (alerts = true ↔ s.cfg.axes[i].alertThreshold ≠ 0 ∧ s.cfg.axes[i].alertThreshold ≤ min (l.frameErrors + 1) 65535) →
      ∃ t, exec (.encoderRead i samples) s = .next t ∧ t.due = { s.due with reads := s.due.reads.set i false }
      ∧ (l.state = .search ∨ l.state = .lost → t.axes[i].link.state = l.state ∧ t.axes[i].link.dwell = l.dwell + 1
        ∧ t.axes[i].link.measured = l.measured
        ∧ (∀ raw w, r = .good raw w → t.axes[i].link.lastGood = some ((raw : Int) - s.cfg.axes[i].origin)
            ∧ t.axes[i].link.dwellBad = l.dwellBad ∧ t.axes[i].link.warning = w)
        ∧ ((∀ raw w, r ≠ .good raw w) → t.axes[i].link.lastGood = l.lastGood ∧ t.axes[i].link.warning = l.warning
            ∧ t.axes[i].link.dwellBad = if 16 ≤ l.dwell then l.dwellBad + 1 else l.dwellBad))
      ∧ (l.state = .locked →
        (∀ raw w, r = .good raw w → l.windowBad ≤ s.cfg.axes[i].badThreshold → ∀ x : Int,
            x = (raw : Int) - s.cfg.axes[i].origin →
          t.axes[i].link = { l with measured := some x, lastGood := some x, warning := w, window := l.window + 1 }
          ∧ (∀ y : Int, s.axes[i].seeking = true → s.axes[i].lens.cal.seekStart = some y →
              (s.cfg.axes[i].maxSpan + s.cfg.axes[i].guardBand < (x - y).natAbs →
                t.svp.flags.getLsbD flagCalDone = true ∧ t.axes[i].mpr.reseed = true
                ∧ t.axes[i].lens = { s.axes[i].lens with
                    cal := { s.axes[i].lens.cal with state := .calFault, reason := some .noEnd } })
              ∧ ((x - y).natAbs ≤ s.cfg.axes[i].maxSpan + s.cfg.axes[i].guardBand → t.stop = s.stop →
                t.axes[i].lens = s.axes[i].lens))
          ∧ ∀ (z : ZoneNo) (c : ZoneCfg), c = s.cfg.zones[z] → c.inUse = true → c.axis = i → s.zones[z].active = true →
              (∀ q, c.qualifier = some q → ¬ (q.station = s.cfg.own ∧ q.axis = i)) → s.zonesOfOwnWord z = false →
            ∃ b, t.zones[z] = { s.zones[z] with breached := b }
              ∧ (b = true ↔ c.lo ≤ x ∧ x ≤ c.hi ∧ (c.tolerance : Int) < min (x - c.lo) (c.hi - x))
              ∧ (b = true → s.zones[z].breached = false →
                  .zoneBreach ∈ t.stop.localMarks ∧ t.stop.state ≠ .run ∧ t.stop.state ≠ .resuming))
        ∧ ((∀ raw w, r ≠ .good raw w) →
          t.svp.flags.getLsbD flagCounterAlert = (s.svp.flags.getLsbD flagCounterAlert || alerts)
          ∧ (l.windowBad < s.cfg.axes[i].badThreshold → t.axes[i].link = { l with
              window := l.window + 1, windowBad := l.windowBad + 1, frameErrors := min (l.frameErrors + 1) 65535,
              alert := l.alert || alerts })
          ∧ (s.cfg.axes[i].badThreshold ≤ l.windowBad → t.axes[i].link = { l with
              state := .lost, delay := s.cfg.axes[i].floorDelay, pass := 0, dwell := 0, dwellBad := 0, window := 0,
              windowBad := 0, frameErrors := 0, alert := l.alert || alerts }
            ∧ t.svp.flags.getLsbD flagEncChange = true
            ∧ (s.axes[i].drive.enable = true → .encLost ∈ t.stop.localMarks ∧ t.stop.category = some .cut
                ∧ (s.stop.category ≠ some .cut → t.secured = true))))))

/-- R85 to R88: a dwell of 32 reads ends with the link LOCKED at the last good read where its bad count is within the
threshold; otherwise the setting advances, and from 15 it wraps to the floor, the third wrap ending in FAULT. A window of 32
reads within the threshold ends with both its counts at 0. A dwell or window that is not full does nothing (log 2). -/
def Obligations.DwellsAndWindowsEnd : Prop :=
  ∀ (i : AxisNo) (l : Link) (c : AxisCfg) (s : State), s.calm → s.cfg.axes[i] = c → c.kind ≠ .unused →
    l = s.axes[i].link →
    (l.state = .search ∨ l.state = .lost → l.dwell = 32 →
      ∃ t, exec (.dwellEnd i) s = .next t
        ∧ (l.dwellBad ≤ c.badThreshold → t.axes[i].link =
            { l with state := .locked, measured := l.lastGood, pass := 0, dwell := 0, dwellBad := 0, window := 0, windowBad := 0 }
            ∧ t.svp.flags.getLsbD flagEncChange = true)
        ∧ (c.badThreshold < l.dwellBad → l.delay < 15 → t.axes[i].link =
            { l with delay := l.delay + 1, dwell := 0, dwellBad := 0 })
        ∧ (c.badThreshold < l.dwellBad → 15 ≤ l.delay → l.pass ≠ 2 → t.axes[i].link =
            { l with delay := c.floorDelay, pass := l.pass + 1, dwell := 0, dwellBad := 0 })
        ∧ (c.badThreshold < l.dwellBad → 15 ≤ l.delay → l.pass = 2 → t.axes[i].link =
            { l with state := .fault, delay := c.floorDelay, pass := 3, dwell := 0, dwellBad := 0 }
            ∧ t.svp.flags.getLsbD flagEncChange = true))
    ∧ (l.state = .locked ∨ l.state = .fault ∨ l.dwell ≠ 32 → exec (.dwellEnd i) s = .next s)
    ∧ (l.state = .locked → l.window = 32 → l.windowBad ≤ c.badThreshold →
      exec (.windowEnd i) s = .next { s with
        axes := s.axes.set i { s.axes[i] with link := { l with window := 0, windowBad := 0 } } })
    ∧ (l.state ≠ .locked ∨ l.window ≠ 32 ∨ c.badThreshold < l.windowBad → exec (.windowEnd i) s = .next s)

/-- R108, R109, R111: a stall timer at 20, or the edge to active of the LIMIT line of the end toward which the axis seeks, ends
the low seek at the measured position, from which the high seek starts, and ends the high seek with its span judged: too short
or too long a span is CAL-FAULT, and any other calibrates the axis. A low seek that ends while a high-end LIMIT line is active
ends the high seek too, with a span of 0. A blocked timer at 20 ends the calibration in CAL-FAULT with reason BLOCKED. R80: every
end of a seek makes the next computation start from the measured position; R111: the end of a calibration sets CAL-DONE. R109,
R126: the low-end edge during the high seek ends it too, judged as at its end input (the model's reading, log 35), and the
high-end edge during the low seek is cause LIMIT. The two timers act in events of their own, which do nothing where they are not
due (log 2). -/
def Obligations.SeeksEnd : Prop :=
  ∀ (i : AxisNo) (c : Instr) (s : State) (r : Cal) (x : Option Int), s.calm → r = s.axes[i].lens.cal →
    x = s.axes[i].link.measured → ∀ edge : Bool → Prop,
    (∀ highEnd, edge highEnd ↔ s.noOwnGates ∧ ∃ k : LineNo, c = .qualifiedEdge k
      ∧ s.cfg.lines[k].function = .limit i highEnd ∧ s.lines[k].hold = s.cfg.lines[k].qualTime + 1
      ∧ s.lines[k].raw = s.cfg.lines[k].activeHigh) →
    ((c = .seekStall i ∧ s.axes[i].lens.stall = 20) ∨ edge (decide (r.state = .seekHigh)) ∨ (r.state = .seekHigh ∧ edge false) →
      (r.state = .seekLow → s.limitActive i true = false →
        ∃ t, exec c s = .next t ∧ t.stop = s.stop ∧ t.axes[i].dsl.owner = s.axes[i].dsl.owner
          ∧ t.axes[i].lens = { s.axes[i].lens with
              stall := 0, blocked := 0, cal := { r with low := x, state := .seekHigh, seekStart := x } })
      ∧ (r.state = .seekLow → s.limitActive i true = true → 0 < s.cfg.axes[i].minSpan →
        ∃ t, exec c s = .next t ∧ t.stop = s.stop ∧ t.svp.flags.getLsbD flagCalDone = true ∧ t.axes[i].mpr.reseed = true
          ∧ t.axes[i].lens = { s.axes[i].lens with
              stall := 0, blocked := 0
              cal := { r with
                low := x, high := x, span := x.map fun _ => 0, state := .calFault, reason := some .spanShort, seekStart := x } })
      ∧ ∀ low high : Int, r.state = .seekHigh → r.low = some low → x = some high →
        ∃ t, exec c s = .next t ∧ t.stop = s.stop ∧ t.svp.flags.getLsbD flagCalDone = true ∧ t.axes[i].mpr.reseed = true
          ∧ t.axes[i].lens = { s.axes[i].lens with cal := t.axes[i].lens.cal }
          ∧ t.axes[i].lens.cal = { r with
              high := some high, span := some (high - low), state := t.axes[i].lens.cal.state,
              reason := t.axes[i].lens.cal.reason }
          ∧ (high - low < s.cfg.axes[i].minSpan →
              t.axes[i].lens.cal.state = .calFault ∧ t.axes[i].lens.cal.reason = some .spanShort)
          ∧ (s.cfg.axes[i].minSpan ≤ high - low → (s.cfg.axes[i].maxSpan : Int) < high - low →
              t.axes[i].lens.cal.state = .calFault ∧ t.axes[i].lens.cal.reason = some .spanLong)
          ∧ (s.cfg.axes[i].minSpan ≤ high - low → high - low ≤ s.cfg.axes[i].maxSpan →
              t.axes[i].lens.cal.state = .calibrated ∧ t.axes[i].lens.cal.reason = none))
    ∧ (s.axes[i].lens.blocked = 20 → r.state = .seekLow ∨ r.state = .seekHigh →
      ∃ t, exec (.blocked i) s = .next t ∧ t.stop = s.stop ∧ t.svp.flags.getLsbD flagCalDone = true
        ∧ t.axes[i].mpr.reseed = true ∧ t.axes[i].lens.cal = { r with state := .calFault, reason := some .blocked })
    ∧ (edge true → r.state = .seekLow →
      ∃ t, exec c s = .next t ∧ .limit ∈ t.stop.localMarks ∧ t.stop.category = some .cut
        ∧ t.stop.state ≠ .run ∧ t.stop.state ≠ .resuming)
    ∧ (s.axes[i].seeking = false ∨ s.axes[i].lens.stall ≠ 20 → exec (.seekStall i) s = .next s)
    ∧ (s.axes[i].seeking = false ∨ s.axes[i].lens.blocked ≠ 20 → exec (.blocked i) s = .next s)

/-- R136, R138, R140, R144, R91, R96: a brake timer at its delay switches the drive off, with a setpoint word of enable 0 and
the last count, and STOPPING becomes STOPPED where that completes the sequence; the drive-on boundary switches every drive
on and starts the release timers, or gives cause ENC-LOST where a link is not LOCKED; a release timer at its delay releases
the brake; and with every drive on and every brake released the stop state becomes RUN and STOP-CLEAR is set. R137 to R139: the
sequence of the held category leaves every axis as it is under HOLD; under BRAKE it engages the brake of an axis at rest and
starts its timer, or switches the drive off at once where the delay is 0 or the brake was engaged before; under CUT it switches
every drive off, engages every brake and stops the timers. R106: at the release that enters RUN each LENS axis with automatic
pending starts its low seek in the owner CAL, and its pending flag clears. R54: a MOTION axis that goes to LIVE there has its
zero-start latch set, so its gate is not OPEN, and a LENS axis takes none; live target and freshness timer stay.
That a timer at its delay and the drive-on boundary act by events of their own, after that boundary's computations and setpoint
words, is the model's choice (logs 2 and 25). -/
def Obligations.BrakesAndReleasesFinish : Prop :=
  ∀ (s : State), s.calm → s.noOwnGates →
    (∀ i : AxisNo, s.axes[i].brakeTimer = some s.cfg.axes[i].brakeDelay →
      ∃ t, exec (.brakeTimer i) s = .next t ∧ t.axes[i].brakeTimer = none ∧ t.axes[i].drive.enable = false
        ∧ (s.axes[i].drive.enable = true → t.axes[i].drive.word = setpointWord false s.axes[i].drive.lastCount)
        ∧ (∀ j : AxisNo, j ≠ i → t.axes[j] = s.axes[j])
        ∧ (s.stop.state = .stopping → s.stop.category = some .brake →
            (∀ j : AxisNo, s.cfg.axes[j].kind = .unused ∨ s.axes[j].mpr.atRest = true
              ∧ (j ≠ i → s.axes[j].drive.enable = false) ∧ s.axes[j].drive.released = false) →
            t.stop.state = .stopped))
    ∧ (s.driveOn = .due → s.stop.state = .resuming →
      (∀ i : AxisNo, s.cfg.axes[i].kind = .unused ∨ s.axes[i].link.state = .locked) →
      ∃ t, exec .driveOnBoundary s = .next t ∧ t.driveOn = .idle
        ∧ (∀ i : AxisNo, s.cfg.axes[i].kind ≠ .unused → t.axes[i].drive.enable = true
          ∧ (s.axes[i].drive.released = false → s.cfg.axes[i].brakeDelay ≠ 0 →
              t.axes[i].releaseTimer = some 0 ∧ t.axes[i].drive.released = false ∧ t.stop.state = .resuming)
          ∧ (s.axes[i].drive.released = true ∨ s.cfg.axes[i].brakeDelay = 0 → t.axes[i].drive.released = true))
        ∧ ((∀ i : AxisNo, s.cfg.axes[i].kind = .unused ∨ s.axes[i].drive.released = true) →
            t.stop.state = .run ∧ t.svp.flags.getLsbD flagStopClear = true))
    ∧ (∀ i : AxisNo, s.driveOn = .due → s.stop.state = .resuming → s.cfg.axes[i].kind ≠ .unused →
        s.axes[i].link.state ≠ .locked →
      ∃ t, exec .driveOnBoundary s = .next t ∧ .encLost ∈ t.stop.localMarks ∧ t.stop.category = some .cut ∧ t.secured = true)
    ∧ ∀ i : AxisNo, s.axes[i].releaseTimer = some s.cfg.axes[i].brakeDelay →
      ∃ t, exec (.releaseTimer i) s = .next t ∧ t.axes[i].drive.released = true ∧ t.axes[i].releaseTimer = none
        ∧ (s.stop.state = .resuming →
            (∀ j : AxisNo, s.cfg.axes[j].kind = .unused ∨ s.axes[j].drive.enable = true ∧ (j ≠ i → s.axes[j].drive.released = true)) →
            t.stop.state = .run ∧ t.svp.flags.getLsbD flagStopClear = true
            ∧ (∀ j : AxisNo, s.cfg.axes[j].kind = .lens → s.axes[j].lens.cal.autoPending = true →
                t.axes[j].lens.cal.autoPending = false ∧ t.axes[j].dsl.held = none
                ∧ (s.limitActive j false = false → t.axes[j].dsl.owner = .cal
                  ∧ t.axes[j].lens = { s.axes[j].lens with
                      stall := 0, blocked := 0
                      cal := { state := .seekLow, seekStart := s.axes[j].link.measured } }))
            ∧ ∀ j : AxisNo, t.axes[j].dsl.owner = .live →
                (s.cfg.axes[j].kind = .motion → t.axes[j].dsl.latch = true ∧ t.axes[j].dsl.gate ≠ .opened)
                ∧ (s.cfg.axes[j].kind = .lens → t.axes[j].dsl.latch = s.axes[j].dsl.latch)
                ∧ t.axes[j].dsl.liveVel = s.axes[j].dsl.liveVel ∧ t.axes[j].dsl.liveUnit = s.axes[j].dsl.liveUnit
                ∧ t.axes[j].dsl.fresh = s.axes[j].dsl.fresh)
    ∧ ∀ (i : AxisNo) (a t : AxisState) (c : AxisCfg), c = s.cfg.axes[i] → a = s.axes[i] → t = (applySequence s).axes[i] →
      (s.stop.category = none ∨ s.stop.category = some .hold → t = a)
      ∧ (s.stop.category = some .cut → t =
          { a with
            drive := { a.drive with
              enable := false, released := false
              word := if a.drive.enable = true then setpointWord false a.drive.lastCount else a.drive.word }
            brakeTimer := none, releaseTimer := none })
      ∧ (s.stop.category = some .brake → c.kind = .unused ∨ a.mpr.atRest = false ∨ a.drive.enable = false → t = a)
      ∧ (s.stop.category = some .brake → c.kind ≠ .unused → a.mpr.atRest = true → a.drive.enable = true →
        (a.drive.released = true → c.brakeDelay ≠ 0 →
            t = { a with drive := { a.drive with released := false }, brakeTimer := some 0 })
        ∧ (a.drive.released = true → c.brakeDelay = 0 → t =
            { a with
              drive := { a.drive with enable := false, released := false, word := setpointWord false a.drive.lastCount }
              brakeTimer := none })
        ∧ (a.drive.released = false → a.brakeTimer = none →
            t = { a with drive := { a.drive with enable := false, word := setpointWord false a.drive.lastCount } })
        ∧ (a.drive.released = false → a.brakeTimer ≠ none → t = a))

/-- R151, R153, R154, R173, R175, R177: a hold timer past the hold limit aborts a play take without a stop; a play take that has
reached the last sample's time ends by END-REACHED; an append that is due writes one sample, the commanded count or the last
lens unit of each axis of the take, into the words of sample k of the recording's entry: in its last block, or in a fresh one
from the head of the free list, zeroed and chained; every other byte of the store keeps its value, and the per-axis values
take the sample. Where it needs a block and none is free, the take ends by STORE-FULL with the entry TRUNCATED. Each is an event
of its own, which does nothing where it is not due (log 2). -/
def Obligations.TakeTimersAct : Prop :=
  ∀ (s : State), s.calm → s.noOwnGates →
    (s.tkq.mode = some .play → s.tkq.state = .running ∨ s.tkq.state = .waiting → s.cfg.holdLimit < s.tkq.holdTimer →
      ∃ t, exec .holdLimit s = .next t ∧ t.tks = s.tks ∧ t.stop = s.stop ∧ t.svp.flags.getLsbD flagTakeChange = true
        ∧ t.tkq = { s.tkq with state := .aborted, abortKind := some .withoutStop, appendDue := false }
        ∧ ∀ i : AxisNo, s.claims i = true → t.claims i = true)
    ∧ (s.tkq.mode ≠ some .play ∨ s.tkq.state ≠ .running ∧ s.tkq.state ≠ .waiting ∨ s.tkq.holdTimer ≤ s.cfg.holdLimit →
      exec .holdLimit s = .next s)
    ∧ (s.tkq.mode = some .play → s.tkq.state = .running → (s.tkq.length - 1) * s.tkq.period ≤ s.tkq.t →
      ∃ t, exec .endReached s = .next t ∧ t.tks = s.tks ∧ t.stop = s.stop ∧ t.svp.flags.getLsbD flagTakeChange = true
        ∧ t.tkq = { s.tkq with state := .ended, endKind := some .endReached })
    ∧ (s.tkq.mode ≠ some .play ∨ s.tkq.state ≠ .running ∨ s.tkq.t < (s.tkq.length - 1) * s.tkq.period →
      exec .endReached s = .next s)
    ∧ (s.tkq.appendDue = false ∨ s.tkq.mode ≠ some .record ∨ s.tkq.state ≠ .running → exec .sampleAppend s = .next s)
    ∧ ∀ (i : EntryNo) (e : DirEntry) (value : AxisNo → Int) (n k place : Nat) (stats : Option (List AxisStat)),
        s.tkq.appendDue = true → s.tkq.mode = some .record → s.tkq.state = .running →
        s.tks.find s.tkq.number = some i → s.tks.dir[i] = e → e.state = .recording →
        (∀ a, value a =
          if s.cfg.axes[a].kind = .lens then ((s.axes[a].lens.lastUnit.getD 0 : Nat) : Int) else s.axes[a].mpr.count) →
        n = 4 * s.tkq.axes.length → k = e.length → place = k % (64 / e.axes.length) * e.axes.length →
        stats = e.stats.map (fun l => (l.zip (s.tkq.axes.map value)).map fun p =>
          { p.1 with minimum := min p.1.minimum p.2, maximum := max p.1.maximum p.2 }) →
      ∃ t, exec .sampleAppend s = .next t
        ∧ (∀ l, k % (64 / e.axes.length) ≠ 0 → e.last = some l →
            t.tkq = { s.tkq with appendDue := false } ∧ t.stop = s.stop ∧ t.axes = s.axes
            ∧ t.tks = { s.tks with
                mem := t.tks.mem, dir := s.tks.dir.set i { e with length := k + 1, stats := stats } }
            ∧ (∀ (j : Nat) (a : AxisNo), s.tkq.axes[j]? = some a →
                readWord t.tks.mem l (place + j) = BitVec.ofInt 32 (value a))
            ∧ ∀ a, a < 256 * l + 4 * place ∨ 256 * l + 4 * place + n ≤ a →
                readByte t.tks.mem a = readByte s.tks.mem a)
        ∧ (∀ b rest l, k % (64 / e.axes.length) = 0 → s.tks.free = b :: rest → e.last = some l → k ≠ 0 →
            t.tkq = { s.tkq with appendDue := false } ∧ t.stop = s.stop ∧ t.axes = s.axes
            ∧ t.tks = { s.tks with
                mem := t.tks.mem, free := rest, links := t.tks.links
                dir := s.tks.dir.set i { e with length := k + 1, last := some b, blocks := e.blocks + 1, stats := stats } }
            ∧ (∀ x, look t.tks.links x = if l = x then some b else look s.tks.links x)
            ∧ (∀ (j : Nat) (a : AxisNo), s.tkq.axes[j]? = some a → readWord t.tks.mem b j = BitVec.ofInt 32 (value a))
            ∧ (∀ a, 256 * b + n ≤ a → a < 256 * b + 256 → readByte t.tks.mem a = 0)
            ∧ ∀ a, a < 256 * b ∨ (256 * b + 256 ≤ a ∧ 256 * b + n ≤ a) → readByte t.tks.mem a = readByte s.tks.mem a)
        ∧ (k % (64 / e.axes.length) = 0 → s.tks.free = [] →
            t.tkq = { s.tkq with appendDue := false, state := .ended, endKind := some .storeFull } ∧ t.stop = s.stop
            ∧ t.tks = { s.tks with dir := s.tks.dir.set i { e with state := .truncated } }
            ∧ t.svp.flags.getLsbD flagTakeChange = true)

/-! ## The service port -/

/-- R189, R48, R97, R101, R161: a read of an operating station is answered with its data and changes nothing else: a peer
entry, the directory with the free list's count and head, a block's 64 words, a lens table, the request flags, the station's
and an axis's fields; one that names no station, axis, LENS axis, take or block is answered BAD-ARGS. Which gate, demand and
drive fields READ-AXIS returns, and that it returns a cap for an UNUSED axis, is the model's choice (log 36). -/
def Obligations.PortReadsChangeNothing : Prop :=
  ∀ (s : State) (answer : Response → State), s.operating = true →
    (∀ r, answer r = { s with svp := { s.svp with response := some r, responseCut := false } }) →
    (∃ r, exec .readStation s = .next (answer (.station r)) ∧ r.load = .runReady ∧ r.own = s.cfg.own ∧ r.time = s.time
      ∧ r.fault = s.cfl.fault ∧ r.mode = s.tkq.mode ∧ r.reason = s.tkq.reason ∧ r.endKind = s.tkq.endKind
      ∧ r.abortKind = s.tkq.abortKind
      ∧ r.stop = s.stop ∧ r.take = s.tkq.state ∧ r.number = s.tkq.number ∧ r.t = s.tkq.t ∧ r.lastArm = s.lastArm
      ∧ r.mute = s.lif.mute ∧ r.word = s.word ∧ r.crewWarn = s.crewWarn
      ∧ (∀ z : ZoneNo, r.zones[z] = (s.zones[z].active, s.zones[z].breached))
      ∧ ∀ k : OutNo, r.outputs[k] = (s.outputs[k], match s.cfg.outs[k].mapping with
          | .slot st _ => decide (s.peers[st].presence ≠ .present)
          | _ => false))
    ∧ (∀ st : StationNo, exec (.readPeer (BitVec.ofNat 8 st.val)) s = .next (answer (.peer s.peers[st])))
    ∧ (∀ b : Byte, 7 < b.toNat → exec (.readPeer b) s = .next (answer (.refused .badArgs)))
    ∧ (∀ i : AxisNo, ∃ v, exec (.readAxis (BitVec.ofNat 8 i.val)) s = .next (answer (.axis v))
      ∧ v.kind = s.cfg.axes[i].kind ∧ v.dsl = s.axes[i].dsl ∧ v.mpr = s.axes[i].mpr ∧ v.cap = s.axes[i].cap
      ∧ v.link = s.axes[i].link ∧ v.positionValid = decide (s.axes[i].link.state = .locked)
      ∧ v.enable = s.axes[i].drive.enable ∧ v.released = s.axes[i].drive.released ∧ v.cal = s.axes[i].lens.cal
      ∧ v.lastUnit = s.axes[i].lens.lastUnit
      ∧ (v.driveFault = true ↔ ∃ k : LineNo, s.cfg.lines[k].function = .driveFault i
          ∧ s.lines[k].qualified = some s.cfg.lines[k].activeHigh))
    ∧ (∀ b : Byte, 3 < b.toNat → exec (.readAxis b) s = .next (answer (.refused .badArgs)))
    ∧ exec .readTakedir s = .next (answer (.takedir s.tks.dir s.tks.free.length s.tks.free.head?))
    ∧ (∀ (number : Byte) (block : Word16),
      (∀ i, s.tks.find number = some i → block.toNat < s.tks.dir[i].blocks →
        ∃ words, exec (.takeRead number block) s = .next (answer (.block words)) ∧ words.length = 64
          ∧ ∀ j < 64, words[j]? = some (readWord s.tks.mem ((s.tks.chain s.tks.dir[i]).getD block.toNat 0) j))
      ∧ ((∀ i, s.tks.find number = some i → s.tks.dir[i].blocks ≤ block.toNat) →
        exec (.takeRead number block) s = .next (answer (.refused .badArgs))))
    ∧ (∀ i : AxisNo,
      (s.cfg.axes[i].kind = .lens → ∃ pairs, exec (.lensTableRead (BitVec.ofNat 8 i.val)) s
          = .next (answer (.table s.axes[i].lens.table.length s.axes[i].lens.fromPort pairs))
        ∧ pairs.length = 16 ∧ (s.axes[i].lens.table.length ≤ 16 → pairs.take s.axes[i].lens.table.length = s.axes[i].lens.table)
        ∧ ∀ p ∈ pairs.drop s.axes[i].lens.table.length, p = (0, 0))
      ∧ (s.cfg.axes[i].kind ≠ .lens →
        exec (.lensTableRead (BitVec.ofNat 8 i.val)) s = .next (answer (.refused .badArgs))))
    ∧ (∀ b : Byte, 3 < b.toNat → exec (.lensTableRead b) s = .next (answer (.refused .badArgs)))
    ∧ ∃ flags enables, exec .readRequests s = .next (answer (.requests flags enables))
      ∧ ∀ k : Nat, flags.getLsbD k = (s.svp.flags.getLsbD k && decide (k < 10))
          ∧ enables.getLsbD k = (s.svp.enables.getLsbD k && decide (k < 10))

/-- R43, R190, R193, R19, R20, R92: READ-INPUTS returns the levels and latches and clears every latch; READ-COUNTERS returns
every counter and sets it to 0 together with the alert flags, and leaves the window count; READ-SNAPSHOT returns the snapshot,
empties it and arms it again. Nothing else changes. -/
def Obligations.ReadAndClearCommands : Prop :=
  ∀ s : State, s.operating = true →
    (∃ t levels unqualified latches, exec .readInputs s = .next t
      ∧ (∀ k : LineNo, latches.getLsbD k.val = s.lines[k].latch ∧ unqualified.getLsbD k.val = s.lines[k].qualified.isNone
          ∧ levels.getLsbD k.val = s.lines[k].qualified.getD s.lines[k].raw
          ∧ t.lines[k] = { s.lines[k] with latch := false })
      ∧ t = { s with lines := t.lines
                     svp := { s.svp with response := some (.inputs levels unqualified latches), responseCut := false } })
    ∧ (∃ t r, exec .readCounters s = .next t
      ∧ r = { line := [s.lif.checkFailures, s.lif.formatErrors, s.lif.unknownClass, s.lif.arbitrationLosses,
                s.lif.bitErrors, s.lif.unacknowledged, s.lif.droppedCues],
              mismatched := s.mismatched, foreign := s.foreign, frameErrors := r.frameErrors, calIgnored := s.calIgnored,
              eraseIgnored := s.tks.eraseIgnored, armIgnored := s.tkq.armIgnored, goDeclined := s.tkq.goDeclined,
              shortTransfers := s.svp.shortTransfers, badCommands := s.svp.badCommands,
              thresholdFlag := s.lif.thresholdFlag, alerts := r.alerts }
      ∧ r.frameErrors.length = 4 ∧ r.alerts.length = 4
      ∧ (∀ i : AxisNo, r.frameErrors[i.val]? = some s.axes[i].link.frameErrors
          ∧ r.alerts[i.val]? = some s.axes[i].link.alert
          ∧ t.axes[i] = { s.axes[i] with link := { s.axes[i].link with frameErrors := 0, alert := false } })
      ∧ t = { s with
              lif := { s.lif with
                checkFailures := 0, formatErrors := 0, unknownClass := 0, arbitrationLosses := 0, bitErrors := 0,
                unacknowledged := 0, droppedCues := 0, thresholdFlag := false }
              mismatched := 0, foreign := 0, axes := t.axes, calIgnored := 0
              tks := { s.tks with eraseIgnored := 0 }
              tkq := { s.tkq with armIgnored := 0, goDeclined := 0 }
              svp := { s.svp with
                shortTransfers := 0, badCommands := 0, response := some (.counters r), responseCut := false } })
    ∧ exec .readSnapshot s = .next { s with svp := { s.svp with
        response := some (.snapshot s.svp.snap), responseCut := false, snap := none, snapArmed := true } }

/-- R157 to R160, R188: each of the four commands answers the first result that applies, and one that is not OK changes nothing
of the store. TAKE-CREATE on OK takes its blocks from the head of the free list, chains them (R148), sets their words to 0, and
opens the upload of a RECORDING entry, the lowest EMPTY one; an ARMED recording reserves its number and one EMPTY entry (R152).
TAKE-WRITE stores 64 words in a block that is not past the written count; TAKE-CLOSE completes an upload whose blocks are all
written and whose samples its axes can hold, and forms the per-axis values; TAKE-ERASE frees a take that exists and is not in
use, and closes its upload. No other byte of the store changes. -/
def Obligations.TakeCommandsFollowTheirChecks : Prop :=
  ∀ s : State, s.operating = true →
    (∀ (number mask period : Byte) (length : BitVec 24) (axes : List AxisNo) (need held : Nat) (known : Prop),
      axes = maskAxes mask → need = (length.toNat + 64 / axes.length - 1) / (64 / axes.length) →
      held = (if s.tkq.state = .armed ∧ s.tkq.mode = some .record then 1 else 0) →
      (known ↔ (∃ i : EntryNo, s.tks.dir[i].state ≠ .empty ∧ s.tks.dir[i].number = number)
        ∨ s.tkq.state = .armed ∧ s.tkq.mode = some .record ∧ s.tkq.number = number) →
      ∃ t, exec (.takeCreate number mask period length) s = .next t ∧ t = { s with tks := t.tks, svp := t.svp }
        ∧ (s.tks.upload ≠ none → t.svp.response = some (.refused .busy) ∧ t.tks = s.tks)
        ∧ (s.tks.upload = none →
          (number.toNat < 1 ∨ 250 < number.toNat ∨ axes = [] ∨ (∃ i ∈ axes, s.cfg.axes[i].kind = .unused)
              ∨ 2 < period.toNat ∨ length.toNat = 0 ∨ 2048 < need →
            t.svp.response = some (.refused .badArgs) ∧ t.tks = s.tks)
          ∧ (1 ≤ number.toNat → number.toNat ≤ 250 → axes ≠ [] → (∀ i ∈ axes, s.cfg.axes[i].kind ≠ .unused) →
              period.toNat ≤ 2 → length.toNat ≠ 0 → need ≤ 2048 →
            (known → t.svp.response = some (.refused .takeExists) ∧ t.tks = s.tks)
            ∧ (¬ known → s.tks.emptyCount ≤ held → t.svp.response = some (.refused .dirFull) ∧ t.tks = s.tks)
            ∧ (¬ known → held < s.tks.emptyCount → s.tks.free.length < need →
                t.svp.response = some (.refused .noSpace) ∧ t.tks = s.tks)
            ∧ ∀ taken, ¬ known → held < s.tks.emptyCount → need ≤ s.tks.free.length → taken = s.tks.free.take need →
              t.svp.response = some .ok ∧ t.svp.flags.getLsbD flagTakeChange = true
              ∧ t.tks.links = chainUp s.tks.links taken
              ∧ (taken.Nodup →
                (∀ (k a b : Nat), taken[k]? = some a → taken[k + 1]? = some b → look t.tks.links a = some b)
                ∧ ∀ b, b ∉ taken.dropLast → look t.tks.links b = look s.tks.links b)
              ∧ (∀ b ∈ taken, ∀ j < 64, readWord t.tks.mem b j = 0)
              ∧ (∀ a, a / 256 ∉ taken → readByte t.tks.mem a = readByte s.tks.mem a)
              ∧ ∃ i : EntryNo, s.tks.dir[i].state = .empty ∧ (∀ j : EntryNo, j < i → s.tks.dir[j].state ≠ .empty)
                ∧ t.tks = { mem := t.tks.mem, links := t.tks.links, free := s.tks.free.drop need, upload := some (number, 0),
                            eraseIgnored := s.tks.eraseIgnored,
                            dir := s.tks.dir.set i
                              { number := number, state := .recording, uploaded := true,
                                period := (periodOf period.toNat).getD 10, axes := axes, length := length.toNat,
                                first := s.tks.free.head?, last := taken.getLast?, blocks := need, stats := none } })))
    ∧ (∀ (number : Byte) (block : Word16) (words : List Word32),
      s.tks.upload.map Prod.fst ≠ some number ∨ s.tks.find number = none →
      ∃ t u, exec (.takeWrite number block words) s = .next t ∧ exec (.takeClose number) s = .next u
        ∧ t = { s with svp := t.svp } ∧ t.svp.response = some (.refused .badArgs)
        ∧ u = { s with svp := u.svp } ∧ u.svp.response = some (.refused .badArgs))
    ∧ (∀ (number : Byte) (block : Word16) (words : List Word32) (i : EntryNo) (written : Nat),
      words.length = 64 → s.tks.upload = some (number, written) → s.tks.find number = some i →
      ∃ t, exec (.takeWrite number block words) s = .next t ∧ t = { s with tks := t.tks, svp := t.svp }
        ∧ (∀ b, block.toNat < s.tks.dir[i].blocks → block.toNat ≤ written →
            (s.tks.chain s.tks.dir[i])[block.toNat]? = some b →
          t.svp.response = some .ok
          ∧ (∀ j < 64, words[j]? = some (readWord t.tks.mem b j))
          ∧ (∀ a, a < 256 * b ∨ 256 * b + 256 ≤ a → readByte t.tks.mem a = readByte s.tks.mem a)
          ∧ t.tks = { s.tks with mem := t.tks.mem
                                 upload := some (number, if block.toNat = written then written + 1 else written) })
        ∧ (s.tks.dir[i].blocks ≤ block.toNat ∨ written < block.toNat →
            t.svp.response = some (.refused .badArgs) ∧ t.tks = s.tks))
    ∧ (∀ (number : Byte) (i : EntryNo) (e : DirEntry) (written : Nat) (fits : AxisNo → Word32 → Prop)
        (value : Nat → Nat → Int),
      s.tks.upload = some (number, written) → s.tks.find number = some i → e = s.tks.dir[i] →
      (∀ a x, fits a x ↔ if s.cfg.axes[a].kind = .lens then 0 ≤ x.toInt ∧ x.toInt ≤ 65535
        else -(2 ^ 30) ≤ x.toInt ∧ x.toInt ≤ 2 ^ 30) →
      (∀ k j, value k j = ((s.tks.sample e k).getD j 0).toInt) →
      ∃ t, exec (.takeClose number) s = .next t ∧ t = { s with tks := t.tks, svp := t.svp }
        ∧ (written < e.blocks ∨ (∃ k < e.length, ∃ p ∈ e.axes.zip (s.tks.sample e k), ¬ fits p.1 p.2) →
            t.svp.response = some (.refused .badArgs) ∧ t.tks = s.tks)
        ∧ (e.blocks ≤ written → (∀ k < e.length, ∀ p ∈ e.axes.zip (s.tks.sample e k), fits p.1 p.2) →
            t.svp.response = some .ok ∧ (e.state ≠ .complete → t.svp.flags.getLsbD flagTakeChange = true)
            ∧ t.tks = { s.tks with
                upload := none, dir := s.tks.dir.set i { e with state := .complete, stats := t.tks.dir[i].stats } }
            ∧ (0 < e.length → ∃ l, t.tks.dir[i].stats = some l ∧ l.length = e.axes.length
              ∧ ∀ (j : Nat) (x : AxisStat), l[j]? = some x → x.firstSample = value 0 j
                ∧ (∀ k < e.length, x.minimum ≤ value k j ∧ value k j ≤ x.maximum)
                ∧ (∃ k < e.length, x.minimum = value k j) ∧ ∃ k < e.length, x.maximum = value k j)))
    ∧ ∀ number : Byte, ∃ t, exec (.takeErase number) s = .next t ∧ t = { s with tks := t.tks, svp := t.svp }
      ∧ (number.toNat < 1 ∨ 250 < number.toNat ∨ s.tks.find number = none →
          t.svp.response = some (.refused .badArgs) ∧ t.tks = s.tks)
      ∧ ∀ i, 1 ≤ number.toNat → number.toNat ≤ 250 → s.tks.find number = some i →
        (number = s.tkq.number → s.tkq.state ≠ .idle → s.tkq.state ≠ .refused →
          t.svp.response = some (.refused .busy) ∧ t.tks = s.tks)
        ∧ (number ≠ s.tkq.number ∨ s.tkq.state = .idle ∨ s.tkq.state = .refused →
          t.svp.response = some .ok ∧ t.svp.flags.getLsbD flagTakeChange = true
          ∧ t.tks = { s.tks with
              links := t.tks.links, free := s.tks.free ++ s.tks.chain s.tks.dir[i], dir := s.tks.dir.set i {}
              upload := if s.tks.upload.map Prod.fst = some number then none else s.tks.upload }
          ∧ ∀ b, look t.tks.links b = if b ∈ s.tks.chain s.tks.dir[i] then none else look s.tks.links b)

/-- R101, R163, R13, R189, R191, R192, R196: LENS-TABLE write, SEND-CUE, CLEAR-REQUESTS and WRITE-ENABLES answer with the first
result that applies, and on OK replace the table, place the cue with the own sequence, clear each flag whose bit is 0, and
replace the enable mask; attention follows the flags and the mask at once. R193: where a new mask makes attention rise while
the snapshot is armed, the snapshot takes the values of that moment and is no longer armed; otherwise it stays. That the cue
carries the arguments of a SEND-CUE as given, also in a field that its kind does not use, is the model's choice (log 38). -/
def Obligations.PortWritesFollowTheirChecks : Prop :=
  ∀ s : State, s.operating = true →
    (∀ (i : AxisNo) (count : Byte) (pairs : List (Word16 × Word16)) (table : List (Nat × Nat)),
      table = (pairs.take count.toNat).map (fun p => (p.1.toNat, p.2.toNat)) →
      ∃ t, exec (.lensTableWrite (BitVec.ofNat 8 i.val) count pairs) s = .next t
        ∧ (s.cfg.axes[i].kind ≠ .lens → t = { s with svp := t.svp } ∧ t.svp.response = some (.refused .badArgs))
        ∧ (s.cfg.axes[i].kind = .lens → s.axes[i].dsl.owner = .take ∨ s.axes[i].dsl.owner = .cal →
            t = { s with svp := t.svp } ∧ t.svp.response = some (.refused .busy))
        ∧ (s.cfg.axes[i].kind = .lens → s.axes[i].dsl.owner ≠ .take → s.axes[i].dsl.owner ≠ .cal →
          (16 < count.toNat ∨ tableWellFormed table = false →
            t = { s with svp := t.svp } ∧ t.svp.response = some (.refused .badTable))
          ∧ (count.toNat ≤ 16 → tableWellFormed table = true → t.svp.response = some .ok
            ∧ t = { s with svp := t.svp
                           axes := s.axes.set i { s.axes[i] with
                             lens := { s.axes[i].lens with table := table, fromPort := true } } })))
    ∧ (∀ (axis count : Byte) (pairs : List (Word16 × Word16)), 3 < axis.toNat →
      exec (.lensTableWrite axis count pairs) s
        = .next { s with svp := { s.svp with response := some (.refused .badArgs), responseCut := false } })
    ∧ (∀ kind number mask parameter : Byte, ∃ t, exec (.sendCue kind number mask parameter) s = .next t
      ∧ t = { s with lif := { s.lif with cues := t.lif.cues }, tkq := { s.tkq with cueSeq := t.tkq.cueSeq }, svp := t.svp }
      ∧ t.svp = { s.svp with response := t.svp.response, responseCut := false }
      ∧ (kind.toNat < 1 ∨ 8 < kind.toNat ∨ kind.toNat = 1 ∧ 2 < parameter.toNat →
          t.svp.response = some (.refused .badArgs) ∧ t.lif.cues = s.lif.cues ∧ t.tkq.cueSeq = s.tkq.cueSeq)
      ∧ ∀ k, cueKindOf kind.toNat = some k → (kind.toNat = 1 → parameter.toNat ≤ 2) →
        (s.lif.cues.length < 4 → s.lif.mute = .off → t.svp.response = some .ok ∧ t.tkq.cueSeq = s.tkq.cueSeq + 1
          ∧ t.lif.cues = s.lif.cues ++ [{ attempts := 0, cue :=
              { kind := k, seq := s.tkq.cueSeq, number := number, mask := mask, parameter := parameter } }])
        ∧ (4 ≤ s.lif.cues.length ∨ s.lif.mute ≠ .off →
          t.svp.response = some (.refused .queueFull) ∧ t.lif.cues = s.lif.cues ∧ t.tkq.cueSeq = s.tkq.cueSeq))
    ∧ (∀ bits : Word16, ∃ t, exec (.clearRequests bits) s = .next t ∧ t = { s with svp := t.svp }
      ∧ t.svp.response = some .ok ∧ t.svp.enables = s.svp.enables
      ∧ (∀ k : Nat, t.svp.flags.getLsbD k = (s.svp.flags.getLsbD k && bits.getLsbD k))
      ∧ (t.svp.attention = true ↔ ∃ k : Nat, t.svp.flags.getLsbD k = true ∧ t.svp.enables.getLsbD k = true))
    ∧ ∀ mask : Word16, ∃ t, exec (.writeEnables mask) s = .next t ∧ t = { s with svp := t.svp }
      ∧ t.svp.response = some .ok ∧ t.svp.flags = s.svp.flags
      ∧ (∀ k : Nat, t.svp.enables.getLsbD k = (mask.getLsbD k && decide (k < 10)))
      ∧ (t.svp.attention = true ↔ ∃ k : Nat, t.svp.flags.getLsbD k = true ∧ t.svp.enables.getLsbD k = true)
      ∧ (s.svp.attention = true ∨ s.svp.snapArmed = false ∨ t.svp.attention = false →
          t.svp.snap = s.svp.snap ∧ t.svp.snapArmed = s.svp.snapArmed)
      ∧ (s.svp.attention = false → s.svp.snapArmed = true → t.svp.attention = true →
          t.svp.snapArmed = false ∧ ∃ x, t.svp.snap = some x
            ∧ (∀ k : Nat, x.flags.getLsbD k = (s.svp.flags.getLsbD k && t.svp.enables.getLsbD k))
            ∧ (∀ st : StationNo, x.presence[st] = s.peers[st].presence)
            ∧ x = { time := s.time, flags := x.flags, stop := s.stop.state, category := s.stop.category,
                    first := s.stop.first, localMarks := s.stop.localMarks, remoteMarks := s.stop.remoteMarks,
                    take := s.tkq.state, number := s.tkq.number, t := s.tkq.t, presence := x.presence })

/-- R187 to R189, R182, R185: a byte that names no command is counted and answered BAD-COMMAND; a select that rises early is
counted, and nothing else changes but that a response under way is cut; while the station loads or is in CONFIG-FAULT every
command that R189 does not mark is answered BUSY. While the part is held in reset its data output is undriven (R182), and no
command acts but those that hold it and let
it go (the model's choice, log 20). 12.5, R194: the bytes that spell a command of the port come to that command, which is executed once the
last of them has arrived; the response is then shifted out, with the fill byte 0xFF before and after it, and a select that rises
before its last byte, or before the last argument byte, is counted (how a transfer becomes a command of the table: log 30). -/
def Obligations.PortFailuresAreCounted : Prop :=
  (∀ (s : State) (c : Instr), s.inReset = false →
    (∀ b : Byte, b ∉ commandBytes → exec (.badCommand b) s = .next { s with svp := { s.svp with
        badCommands := min (s.svp.badCommands + 1) 65535, response := some (.refused .badCommand), responseCut := false } })
    ∧ exec (.shortTransfer false) s = .next { s with svp := { s.svp with
        shortTransfers := min (s.svp.shortTransfers + 1) 65535 } }
    ∧ exec (.shortTransfer true) s = .next { s with svp := { s.svp with
        shortTransfers := min (s.svp.shortTransfers + 1) 65535, responseCut := true } }
    ∧ (s.cfl.load ≠ .runReady →
        (∃ b, c = .readPeer b) ∨ (∃ b, c = .readAxis b) ∨ c = .readInputs ∨ c = .readTakedir
          ∨ (∃ n b, c = .takeRead n b) ∨ (∃ n m p l, c = .takeCreate n m p l) ∨ (∃ n b w, c = .takeWrite n b w)
          ∨ (∃ n, c = .takeClose n) ∨ (∃ n, c = .takeErase n) ∨ (∃ a n p, c = .lensTableWrite a n p)
          ∨ (∃ a, c = .lensTableRead a) ∨ (∃ k n m p, c = .sendCue k n m p) →
        exec c s = .next { s with svp := { s.svp with response := some (.refused .busy), responseCut := false } })
    ∧ (∀ (bytes more : List Byte) (t : State), c.wf = true → shiftedIn c = some bytes → exec c s = .next t →
      transferred (bytes ++ more) = (c, bytes.length)
      ∧ (t.responseBytes.length ≤ more.length → transfer (bytes ++ more) s = .next t)
      ∧ (more.length < t.responseBytes.length → transfer (bytes ++ more) s = exec (.shortTransfer true) t)
      ∧ shiftedOut (bytes ++ more) s = some (List.replicate bytes.length 0xFF#8
          ++ (t.responseBytes ++ List.replicate more.length 0xFF#8).take more.length))
    ∧ ∀ (command : Byte) (args : List Byte) (n : Nat), argumentCount command = some n → args.length < n →
        transfer (command :: args) s = exec (.shortTransfer false) s
        ∧ shiftedOut (command :: args) s = some (List.replicate (args.length + 1) 0xFF#8))
  ∧ (∀ (u : State) (bytes : List Byte), u.inReset = true → shiftedOut bytes u = none)
  ∧ ∀ (u : State) (c : Instr), u.inReset = true → c ≠ .powerOnReset → (∀ n, c ≠ .pinReset n) → c ≠ .resetRelease →
      exec c u = .next u
end

