-- ==== Sys2Proof/Decode.lean ====
section
/-! DEFINITION. The reading of a word as a command: spec/opcode_table.json gives no row any bits, so no word spells one. -/

namespace Sys2Proof

/-- The command that a word of nbits bits spells: none, since the table gives no row any bits (log 1). -/
def decodeTableWord (_nbits _w : Nat) : Option Instr := none

end Sys2Proof
end

