-- ==== Sys2Proof/Laws/State.lean ====
section
/-! SUPPORT. What each operation over the state leaves alone, one lemma per field, each true by definition; a later proof
cites these and unfolds no record update. -/

namespace Sys2Proof.Machine

/-! ### State.modAxis: one axis changed -/

@[simp] theorem State.modAxis_hold (i : AxisNo) (f : AxisState → AxisState) (s : State) : (s.modAxis i f).hold = s.hold := rfl
@[simp] theorem State.modAxis_cfl (i : AxisNo) (f : AxisState → AxisState) (s : State) : (s.modAxis i f).cfl = s.cfl := rfl
@[simp] theorem State.modAxis_cfg (i : AxisNo) (f : AxisState → AxisState) (s : State) : (s.modAxis i f).cfg = s.cfg := rfl
@[simp] theorem State.modAxis_time (i : AxisNo) (f : AxisState → AxisState) (s : State) : (s.modAxis i f).time = s.time := rfl
@[simp] theorem State.modAxis_due (i : AxisNo) (f : AxisState → AxisState) (s : State) : (s.modAxis i f).due = s.due := rfl
@[simp] theorem State.modAxis_lif (i : AxisNo) (f : AxisState → AxisState) (s : State) : (s.modAxis i f).lif = s.lif := rfl
@[simp] theorem State.modAxis_peers (i : AxisNo) (f : AxisState → AxisState) (s : State) : (s.modAxis i f).peers = s.peers := rfl
@[simp] theorem State.modAxis_lastArm (i : AxisNo) (f : AxisState → AxisState) (s : State) : (s.modAxis i f).lastArm = s.lastArm := rfl
@[simp] theorem State.modAxis_lines (i : AxisNo) (f : AxisState → AxisState) (s : State) : (s.modAxis i f).lines = s.lines := rfl
@[simp] theorem State.modAxis_groups (i : AxisNo) (f : AxisState → AxisState) (s : State) : (s.modAxis i f).groups = s.groups := rfl
@[simp] theorem State.modAxis_word (i : AxisNo) (f : AxisState → AxisState) (s : State) : (s.modAxis i f).word = s.word := rfl
@[simp] theorem State.modAxis_outputs (i : AxisNo) (f : AxisState → AxisState) (s : State) : (s.modAxis i f).outputs = s.outputs := rfl
@[simp] theorem State.modAxis_mismatched (i : AxisNo) (f : AxisState → AxisState) (s : State) : (s.modAxis i f).mismatched = s.mismatched := rfl
@[simp] theorem State.modAxis_foreign (i : AxisNo) (f : AxisState → AxisState) (s : State) : (s.modAxis i f).foreign = s.foreign := rfl
@[simp] theorem State.modAxis_wheels (i : AxisNo) (f : AxisState → AxisState) (s : State) : (s.modAxis i f).wheels = s.wheels := rfl
@[simp] theorem State.modAxis_zones (i : AxisNo) (f : AxisState → AxisState) (s : State) : (s.modAxis i f).zones = s.zones := rfl
@[simp] theorem State.modAxis_crewWarn (i : AxisNo) (f : AxisState → AxisState) (s : State) : (s.modAxis i f).crewWarn = s.crewWarn := rfl
@[simp] theorem State.modAxis_calIgnored (i : AxisNo) (f : AxisState → AxisState) (s : State) : (s.modAxis i f).calIgnored = s.calIgnored := rfl
@[simp] theorem State.modAxis_stop (i : AxisNo) (f : AxisState → AxisState) (s : State) : (s.modAxis i f).stop = s.stop := rfl
@[simp] theorem State.modAxis_stopSeen (i : AxisNo) (f : AxisState → AxisState) (s : State) : (s.modAxis i f).stopSeen = s.stopSeen := rfl
@[simp] theorem State.modAxis_driveOn (i : AxisNo) (f : AxisState → AxisState) (s : State) : (s.modAxis i f).driveOn = s.driveOn := rfl
@[simp] theorem State.modAxis_tks (i : AxisNo) (f : AxisState → AxisState) (s : State) : (s.modAxis i f).tks = s.tks := rfl
@[simp] theorem State.modAxis_tkq (i : AxisNo) (f : AxisState → AxisState) (s : State) : (s.modAxis i f).tkq = s.tkq := rfl
@[simp] theorem State.modAxis_svp (i : AxisNo) (f : AxisState → AxisState) (s : State) : (s.modAxis i f).svp = s.svp := rfl
@[simp] theorem State.modAxis_pending (i : AxisNo) (f : AxisState → AxisState) (s : State) : (s.modAxis i f).pending = s.pending := rfl

/-! ### State.mapAxes: every axis changed -/

@[simp] theorem State.mapAxes_hold (f : AxisNo → AxisState → AxisState) (s : State) : (s.mapAxes f).hold = s.hold := rfl
@[simp] theorem State.mapAxes_cfl (f : AxisNo → AxisState → AxisState) (s : State) : (s.mapAxes f).cfl = s.cfl := rfl
@[simp] theorem State.mapAxes_cfg (f : AxisNo → AxisState → AxisState) (s : State) : (s.mapAxes f).cfg = s.cfg := rfl
@[simp] theorem State.mapAxes_time (f : AxisNo → AxisState → AxisState) (s : State) : (s.mapAxes f).time = s.time := rfl
@[simp] theorem State.mapAxes_due (f : AxisNo → AxisState → AxisState) (s : State) : (s.mapAxes f).due = s.due := rfl
@[simp] theorem State.mapAxes_lif (f : AxisNo → AxisState → AxisState) (s : State) : (s.mapAxes f).lif = s.lif := rfl
@[simp] theorem State.mapAxes_peers (f : AxisNo → AxisState → AxisState) (s : State) : (s.mapAxes f).peers = s.peers := rfl
@[simp] theorem State.mapAxes_lastArm (f : AxisNo → AxisState → AxisState) (s : State) : (s.mapAxes f).lastArm = s.lastArm := rfl
@[simp] theorem State.mapAxes_lines (f : AxisNo → AxisState → AxisState) (s : State) : (s.mapAxes f).lines = s.lines := rfl
@[simp] theorem State.mapAxes_groups (f : AxisNo → AxisState → AxisState) (s : State) : (s.mapAxes f).groups = s.groups := rfl
@[simp] theorem State.mapAxes_word (f : AxisNo → AxisState → AxisState) (s : State) : (s.mapAxes f).word = s.word := rfl
@[simp] theorem State.mapAxes_outputs (f : AxisNo → AxisState → AxisState) (s : State) : (s.mapAxes f).outputs = s.outputs := rfl
@[simp] theorem State.mapAxes_mismatched (f : AxisNo → AxisState → AxisState) (s : State) : (s.mapAxes f).mismatched = s.mismatched := rfl
@[simp] theorem State.mapAxes_foreign (f : AxisNo → AxisState → AxisState) (s : State) : (s.mapAxes f).foreign = s.foreign := rfl
@[simp] theorem State.mapAxes_wheels (f : AxisNo → AxisState → AxisState) (s : State) : (s.mapAxes f).wheels = s.wheels := rfl
@[simp] theorem State.mapAxes_zones (f : AxisNo → AxisState → AxisState) (s : State) : (s.mapAxes f).zones = s.zones := rfl
@[simp] theorem State.mapAxes_crewWarn (f : AxisNo → AxisState → AxisState) (s : State) : (s.mapAxes f).crewWarn = s.crewWarn := rfl
@[simp] theorem State.mapAxes_calIgnored (f : AxisNo → AxisState → AxisState) (s : State) : (s.mapAxes f).calIgnored = s.calIgnored := rfl
@[simp] theorem State.mapAxes_stop (f : AxisNo → AxisState → AxisState) (s : State) : (s.mapAxes f).stop = s.stop := rfl
@[simp] theorem State.mapAxes_stopSeen (f : AxisNo → AxisState → AxisState) (s : State) : (s.mapAxes f).stopSeen = s.stopSeen := rfl
@[simp] theorem State.mapAxes_driveOn (f : AxisNo → AxisState → AxisState) (s : State) : (s.mapAxes f).driveOn = s.driveOn := rfl
@[simp] theorem State.mapAxes_tks (f : AxisNo → AxisState → AxisState) (s : State) : (s.mapAxes f).tks = s.tks := rfl
@[simp] theorem State.mapAxes_tkq (f : AxisNo → AxisState → AxisState) (s : State) : (s.mapAxes f).tkq = s.tkq := rfl
@[simp] theorem State.mapAxes_svp (f : AxisNo → AxisState → AxisState) (s : State) : (s.mapAxes f).svp = s.svp := rfl
@[simp] theorem State.mapAxes_pending (f : AxisNo → AxisState → AxisState) (s : State) : (s.mapAxes f).pending = s.pending := rfl

/-! ### State.modPeer: one peer entry changed -/

@[simp] theorem State.modPeer_hold (st : StationNo) (f : PeerEntry → PeerEntry) (s : State) : (s.modPeer st f).hold = s.hold := rfl
@[simp] theorem State.modPeer_cfl (st : StationNo) (f : PeerEntry → PeerEntry) (s : State) : (s.modPeer st f).cfl = s.cfl := rfl
@[simp] theorem State.modPeer_cfg (st : StationNo) (f : PeerEntry → PeerEntry) (s : State) : (s.modPeer st f).cfg = s.cfg := rfl
@[simp] theorem State.modPeer_time (st : StationNo) (f : PeerEntry → PeerEntry) (s : State) : (s.modPeer st f).time = s.time := rfl
@[simp] theorem State.modPeer_due (st : StationNo) (f : PeerEntry → PeerEntry) (s : State) : (s.modPeer st f).due = s.due := rfl
@[simp] theorem State.modPeer_lif (st : StationNo) (f : PeerEntry → PeerEntry) (s : State) : (s.modPeer st f).lif = s.lif := rfl
@[simp] theorem State.modPeer_lastArm (st : StationNo) (f : PeerEntry → PeerEntry) (s : State) : (s.modPeer st f).lastArm = s.lastArm := rfl
@[simp] theorem State.modPeer_lines (st : StationNo) (f : PeerEntry → PeerEntry) (s : State) : (s.modPeer st f).lines = s.lines := rfl
@[simp] theorem State.modPeer_groups (st : StationNo) (f : PeerEntry → PeerEntry) (s : State) : (s.modPeer st f).groups = s.groups := rfl
@[simp] theorem State.modPeer_word (st : StationNo) (f : PeerEntry → PeerEntry) (s : State) : (s.modPeer st f).word = s.word := rfl
@[simp] theorem State.modPeer_outputs (st : StationNo) (f : PeerEntry → PeerEntry) (s : State) : (s.modPeer st f).outputs = s.outputs := rfl
@[simp] theorem State.modPeer_axes (st : StationNo) (f : PeerEntry → PeerEntry) (s : State) : (s.modPeer st f).axes = s.axes := rfl
@[simp] theorem State.modPeer_mismatched (st : StationNo) (f : PeerEntry → PeerEntry) (s : State) : (s.modPeer st f).mismatched = s.mismatched := rfl
@[simp] theorem State.modPeer_foreign (st : StationNo) (f : PeerEntry → PeerEntry) (s : State) : (s.modPeer st f).foreign = s.foreign := rfl
@[simp] theorem State.modPeer_wheels (st : StationNo) (f : PeerEntry → PeerEntry) (s : State) : (s.modPeer st f).wheels = s.wheels := rfl
@[simp] theorem State.modPeer_zones (st : StationNo) (f : PeerEntry → PeerEntry) (s : State) : (s.modPeer st f).zones = s.zones := rfl
@[simp] theorem State.modPeer_crewWarn (st : StationNo) (f : PeerEntry → PeerEntry) (s : State) : (s.modPeer st f).crewWarn = s.crewWarn := rfl
@[simp] theorem State.modPeer_calIgnored (st : StationNo) (f : PeerEntry → PeerEntry) (s : State) : (s.modPeer st f).calIgnored = s.calIgnored := rfl
@[simp] theorem State.modPeer_stop (st : StationNo) (f : PeerEntry → PeerEntry) (s : State) : (s.modPeer st f).stop = s.stop := rfl
@[simp] theorem State.modPeer_stopSeen (st : StationNo) (f : PeerEntry → PeerEntry) (s : State) : (s.modPeer st f).stopSeen = s.stopSeen := rfl
@[simp] theorem State.modPeer_driveOn (st : StationNo) (f : PeerEntry → PeerEntry) (s : State) : (s.modPeer st f).driveOn = s.driveOn := rfl
@[simp] theorem State.modPeer_tks (st : StationNo) (f : PeerEntry → PeerEntry) (s : State) : (s.modPeer st f).tks = s.tks := rfl
@[simp] theorem State.modPeer_tkq (st : StationNo) (f : PeerEntry → PeerEntry) (s : State) : (s.modPeer st f).tkq = s.tkq := rfl
@[simp] theorem State.modPeer_svp (st : StationNo) (f : PeerEntry → PeerEntry) (s : State) : (s.modPeer st f).svp = s.svp := rfl
@[simp] theorem State.modPeer_pending (st : StationNo) (f : PeerEntry → PeerEntry) (s : State) : (s.modPeer st f).pending = s.pending := rfl

/-! ### composeStatus: a STATUS composed (R33) -/

@[simp] theorem composeStatus_hold (s : State) : (composeStatus s).hold = s.hold := rfl
@[simp] theorem composeStatus_cfl (s : State) : (composeStatus s).cfl = s.cfl := rfl
@[simp] theorem composeStatus_cfg (s : State) : (composeStatus s).cfg = s.cfg := rfl
@[simp] theorem composeStatus_time (s : State) : (composeStatus s).time = s.time := rfl
@[simp] theorem composeStatus_due (s : State) : (composeStatus s).due = s.due := rfl
@[simp] theorem composeStatus_lastArm (s : State) : (composeStatus s).lastArm = s.lastArm := rfl
@[simp] theorem composeStatus_lines (s : State) : (composeStatus s).lines = s.lines := rfl
@[simp] theorem composeStatus_groups (s : State) : (composeStatus s).groups = s.groups := rfl
@[simp] theorem composeStatus_word (s : State) : (composeStatus s).word = s.word := rfl
@[simp] theorem composeStatus_outputs (s : State) : (composeStatus s).outputs = s.outputs := rfl
@[simp] theorem composeStatus_axes (s : State) : (composeStatus s).axes = s.axes := rfl
@[simp] theorem composeStatus_mismatched (s : State) : (composeStatus s).mismatched = s.mismatched := rfl
@[simp] theorem composeStatus_foreign (s : State) : (composeStatus s).foreign = s.foreign := rfl
@[simp] theorem composeStatus_wheels (s : State) : (composeStatus s).wheels = s.wheels := rfl
@[simp] theorem composeStatus_zones (s : State) : (composeStatus s).zones = s.zones := rfl
@[simp] theorem composeStatus_crewWarn (s : State) : (composeStatus s).crewWarn = s.crewWarn := rfl
@[simp] theorem composeStatus_calIgnored (s : State) : (composeStatus s).calIgnored = s.calIgnored := rfl
@[simp] theorem composeStatus_stop (s : State) : (composeStatus s).stop = s.stop := rfl
@[simp] theorem composeStatus_stopSeen (s : State) : (composeStatus s).stopSeen = s.stopSeen := rfl
@[simp] theorem composeStatus_driveOn (s : State) : (composeStatus s).driveOn = s.driveOn := rfl
@[simp] theorem composeStatus_tks (s : State) : (composeStatus s).tks = s.tks := rfl
@[simp] theorem composeStatus_tkq (s : State) : (composeStatus s).tkq = s.tkq := rfl
@[simp] theorem composeStatus_svp (s : State) : (composeStatus s).svp = s.svp := rfl
@[simp] theorem composeStatus_pending (s : State) : (composeStatus s).pending = s.pending := rfl

/-! ### announce: a change announced (R33) -/

@[simp] theorem announce_hold (s : State) : (announce s).hold = s.hold := rfl
@[simp] theorem announce_cfl (s : State) : (announce s).cfl = s.cfl := rfl
@[simp] theorem announce_cfg (s : State) : (announce s).cfg = s.cfg := rfl
@[simp] theorem announce_time (s : State) : (announce s).time = s.time := rfl
@[simp] theorem announce_due (s : State) : (announce s).due = s.due := rfl
@[simp] theorem announce_lastArm (s : State) : (announce s).lastArm = s.lastArm := rfl
@[simp] theorem announce_lines (s : State) : (announce s).lines = s.lines := rfl
@[simp] theorem announce_groups (s : State) : (announce s).groups = s.groups := rfl
@[simp] theorem announce_word (s : State) : (announce s).word = s.word := rfl
@[simp] theorem announce_outputs (s : State) : (announce s).outputs = s.outputs := rfl
@[simp] theorem announce_axes (s : State) : (announce s).axes = s.axes := rfl
@[simp] theorem announce_mismatched (s : State) : (announce s).mismatched = s.mismatched := rfl
@[simp] theorem announce_foreign (s : State) : (announce s).foreign = s.foreign := rfl
@[simp] theorem announce_wheels (s : State) : (announce s).wheels = s.wheels := rfl
@[simp] theorem announce_zones (s : State) : (announce s).zones = s.zones := rfl
@[simp] theorem announce_crewWarn (s : State) : (announce s).crewWarn = s.crewWarn := rfl
@[simp] theorem announce_calIgnored (s : State) : (announce s).calIgnored = s.calIgnored := rfl
@[simp] theorem announce_stop (s : State) : (announce s).stop = s.stop := rfl
@[simp] theorem announce_stopSeen (s : State) : (announce s).stopSeen = s.stopSeen := rfl
@[simp] theorem announce_driveOn (s : State) : (announce s).driveOn = s.driveOn := rfl
@[simp] theorem announce_tks (s : State) : (announce s).tks = s.tks := rfl
@[simp] theorem announce_tkq (s : State) : (announce s).tkq = s.tkq := rfl
@[simp] theorem announce_svp (s : State) : (announce s).svp = s.svp := rfl
@[simp] theorem announce_pending (s : State) : (announce s).pending = s.pending := rfl

/-! ### applySequence: the sequence of a category (R137 to R139) -/

@[simp] theorem applySequence_hold (s : State) : (applySequence s).hold = s.hold := rfl
@[simp] theorem applySequence_cfl (s : State) : (applySequence s).cfl = s.cfl := rfl
@[simp] theorem applySequence_cfg (s : State) : (applySequence s).cfg = s.cfg := rfl
@[simp] theorem applySequence_time (s : State) : (applySequence s).time = s.time := rfl
@[simp] theorem applySequence_due (s : State) : (applySequence s).due = s.due := rfl
@[simp] theorem applySequence_lif (s : State) : (applySequence s).lif = s.lif := rfl
@[simp] theorem applySequence_peers (s : State) : (applySequence s).peers = s.peers := rfl
@[simp] theorem applySequence_lastArm (s : State) : (applySequence s).lastArm = s.lastArm := rfl
@[simp] theorem applySequence_lines (s : State) : (applySequence s).lines = s.lines := rfl
@[simp] theorem applySequence_groups (s : State) : (applySequence s).groups = s.groups := rfl
@[simp] theorem applySequence_word (s : State) : (applySequence s).word = s.word := rfl
@[simp] theorem applySequence_outputs (s : State) : (applySequence s).outputs = s.outputs := rfl
@[simp] theorem applySequence_mismatched (s : State) : (applySequence s).mismatched = s.mismatched := rfl
@[simp] theorem applySequence_foreign (s : State) : (applySequence s).foreign = s.foreign := rfl
@[simp] theorem applySequence_wheels (s : State) : (applySequence s).wheels = s.wheels := rfl
@[simp] theorem applySequence_zones (s : State) : (applySequence s).zones = s.zones := rfl
@[simp] theorem applySequence_crewWarn (s : State) : (applySequence s).crewWarn = s.crewWarn := rfl
@[simp] theorem applySequence_calIgnored (s : State) : (applySequence s).calIgnored = s.calIgnored := rfl
@[simp] theorem applySequence_stop (s : State) : (applySequence s).stop = s.stop := rfl
@[simp] theorem applySequence_stopSeen (s : State) : (applySequence s).stopSeen = s.stopSeen := rfl
@[simp] theorem applySequence_driveOn (s : State) : (applySequence s).driveOn = s.driveOn := rfl
@[simp] theorem applySequence_tks (s : State) : (applySequence s).tks = s.tks := rfl
@[simp] theorem applySequence_tkq (s : State) : (applySequence s).tkq = s.tkq := rfl
@[simp] theorem applySequence_svp (s : State) : (applySequence s).svp = s.svp := rfl
@[simp] theorem applySequence_pending (s : State) : (applySequence s).pending = s.pending := rfl

/-! ### judgeStopped: the end of a sequence (R140) -/

@[simp] theorem judgeStopped_hold (s : State) : (judgeStopped s).hold = s.hold := rfl
@[simp] theorem judgeStopped_cfl (s : State) : (judgeStopped s).cfl = s.cfl := rfl
@[simp] theorem judgeStopped_cfg (s : State) : (judgeStopped s).cfg = s.cfg := rfl
@[simp] theorem judgeStopped_time (s : State) : (judgeStopped s).time = s.time := rfl
@[simp] theorem judgeStopped_due (s : State) : (judgeStopped s).due = s.due := rfl
@[simp] theorem judgeStopped_lastArm (s : State) : (judgeStopped s).lastArm = s.lastArm := rfl
@[simp] theorem judgeStopped_lines (s : State) : (judgeStopped s).lines = s.lines := rfl
@[simp] theorem judgeStopped_groups (s : State) : (judgeStopped s).groups = s.groups := rfl
@[simp] theorem judgeStopped_word (s : State) : (judgeStopped s).word = s.word := rfl
@[simp] theorem judgeStopped_outputs (s : State) : (judgeStopped s).outputs = s.outputs := rfl
@[simp] theorem judgeStopped_axes (s : State) : (judgeStopped s).axes = s.axes := rfl
@[simp] theorem judgeStopped_mismatched (s : State) : (judgeStopped s).mismatched = s.mismatched := rfl
@[simp] theorem judgeStopped_foreign (s : State) : (judgeStopped s).foreign = s.foreign := rfl
@[simp] theorem judgeStopped_wheels (s : State) : (judgeStopped s).wheels = s.wheels := rfl
@[simp] theorem judgeStopped_zones (s : State) : (judgeStopped s).zones = s.zones := rfl
@[simp] theorem judgeStopped_crewWarn (s : State) : (judgeStopped s).crewWarn = s.crewWarn := rfl
@[simp] theorem judgeStopped_calIgnored (s : State) : (judgeStopped s).calIgnored = s.calIgnored := rfl
@[simp] theorem judgeStopped_stopSeen (s : State) : (judgeStopped s).stopSeen = s.stopSeen := rfl
@[simp] theorem judgeStopped_driveOn (s : State) : (judgeStopped s).driveOn = s.driveOn := rfl
@[simp] theorem judgeStopped_tks (s : State) : (judgeStopped s).tks = s.tks := rfl
@[simp] theorem judgeStopped_tkq (s : State) : (judgeStopped s).tkq = s.tkq := rfl
@[simp] theorem judgeStopped_svp (s : State) : (judgeStopped s).svp = s.svp := rfl
@[simp] theorem judgeStopped_pending (s : State) : (judgeStopped s).pending = s.pending := rfl

/-! ### cancelSeeks: seeks cancelled (R110) -/

@[simp] theorem cancelSeeks_hold (s : State) : (cancelSeeks s).hold = s.hold := rfl
@[simp] theorem cancelSeeks_cfl (s : State) : (cancelSeeks s).cfl = s.cfl := rfl
@[simp] theorem cancelSeeks_cfg (s : State) : (cancelSeeks s).cfg = s.cfg := rfl
@[simp] theorem cancelSeeks_time (s : State) : (cancelSeeks s).time = s.time := rfl
@[simp] theorem cancelSeeks_due (s : State) : (cancelSeeks s).due = s.due := rfl
@[simp] theorem cancelSeeks_lif (s : State) : (cancelSeeks s).lif = s.lif := rfl
@[simp] theorem cancelSeeks_peers (s : State) : (cancelSeeks s).peers = s.peers := rfl
@[simp] theorem cancelSeeks_lastArm (s : State) : (cancelSeeks s).lastArm = s.lastArm := rfl
@[simp] theorem cancelSeeks_lines (s : State) : (cancelSeeks s).lines = s.lines := rfl
@[simp] theorem cancelSeeks_groups (s : State) : (cancelSeeks s).groups = s.groups := rfl
@[simp] theorem cancelSeeks_word (s : State) : (cancelSeeks s).word = s.word := rfl
@[simp] theorem cancelSeeks_outputs (s : State) : (cancelSeeks s).outputs = s.outputs := rfl
@[simp] theorem cancelSeeks_mismatched (s : State) : (cancelSeeks s).mismatched = s.mismatched := rfl
@[simp] theorem cancelSeeks_foreign (s : State) : (cancelSeeks s).foreign = s.foreign := rfl
@[simp] theorem cancelSeeks_wheels (s : State) : (cancelSeeks s).wheels = s.wheels := rfl
@[simp] theorem cancelSeeks_zones (s : State) : (cancelSeeks s).zones = s.zones := rfl
@[simp] theorem cancelSeeks_crewWarn (s : State) : (cancelSeeks s).crewWarn = s.crewWarn := rfl
@[simp] theorem cancelSeeks_calIgnored (s : State) : (cancelSeeks s).calIgnored = s.calIgnored := rfl
@[simp] theorem cancelSeeks_stop (s : State) : (cancelSeeks s).stop = s.stop := rfl
@[simp] theorem cancelSeeks_stopSeen (s : State) : (cancelSeeks s).stopSeen = s.stopSeen := rfl
@[simp] theorem cancelSeeks_driveOn (s : State) : (cancelSeeks s).driveOn = s.driveOn := rfl
@[simp] theorem cancelSeeks_tks (s : State) : (cancelSeeks s).tks = s.tks := rfl
@[simp] theorem cancelSeeks_tkq (s : State) : (cancelSeeks s).tkq = s.tkq := rfl
@[simp] theorem cancelSeeks_pending (s : State) : (cancelSeeks s).pending = s.pending := rfl

/-! ### setTake: a change of the take record (R166) -/

@[simp] theorem setTake_hold (q : Tkq) (s : State) : (setTake q s).hold = s.hold := rfl
@[simp] theorem setTake_cfl (q : Tkq) (s : State) : (setTake q s).cfl = s.cfl := rfl
@[simp] theorem setTake_cfg (q : Tkq) (s : State) : (setTake q s).cfg = s.cfg := rfl
@[simp] theorem setTake_time (q : Tkq) (s : State) : (setTake q s).time = s.time := rfl
@[simp] theorem setTake_due (q : Tkq) (s : State) : (setTake q s).due = s.due := rfl
@[simp] theorem setTake_lastArm (q : Tkq) (s : State) : (setTake q s).lastArm = s.lastArm := rfl
@[simp] theorem setTake_lines (q : Tkq) (s : State) : (setTake q s).lines = s.lines := rfl
@[simp] theorem setTake_groups (q : Tkq) (s : State) : (setTake q s).groups = s.groups := rfl
@[simp] theorem setTake_word (q : Tkq) (s : State) : (setTake q s).word = s.word := rfl
@[simp] theorem setTake_outputs (q : Tkq) (s : State) : (setTake q s).outputs = s.outputs := rfl
@[simp] theorem setTake_axes (q : Tkq) (s : State) : (setTake q s).axes = s.axes := rfl
@[simp] theorem setTake_mismatched (q : Tkq) (s : State) : (setTake q s).mismatched = s.mismatched := rfl
@[simp] theorem setTake_foreign (q : Tkq) (s : State) : (setTake q s).foreign = s.foreign := rfl
@[simp] theorem setTake_wheels (q : Tkq) (s : State) : (setTake q s).wheels = s.wheels := rfl
@[simp] theorem setTake_zones (q : Tkq) (s : State) : (setTake q s).zones = s.zones := rfl
@[simp] theorem setTake_crewWarn (q : Tkq) (s : State) : (setTake q s).crewWarn = s.crewWarn := rfl
@[simp] theorem setTake_calIgnored (q : Tkq) (s : State) : (setTake q s).calIgnored = s.calIgnored := rfl
@[simp] theorem setTake_stop (q : Tkq) (s : State) : (setTake q s).stop = s.stop := rfl
@[simp] theorem setTake_stopSeen (q : Tkq) (s : State) : (setTake q s).stopSeen = s.stopSeen := rfl
@[simp] theorem setTake_driveOn (q : Tkq) (s : State) : (setTake q s).driveOn = s.driveOn := rfl
@[simp] theorem setTake_tks (q : Tkq) (s : State) : (setTake q s).tks = s.tks := rfl
@[simp] theorem setTake_pending (q : Tkq) (s : State) : (setTake q s).pending = s.pending := rfl

/-! ### setStore: a change of the store (R150) -/

@[simp] theorem setStore_hold (t : Tks) (s : State) : (setStore t s).hold = s.hold := rfl
@[simp] theorem setStore_cfl (t : Tks) (s : State) : (setStore t s).cfl = s.cfl := rfl
@[simp] theorem setStore_cfg (t : Tks) (s : State) : (setStore t s).cfg = s.cfg := rfl
@[simp] theorem setStore_time (t : Tks) (s : State) : (setStore t s).time = s.time := rfl
@[simp] theorem setStore_due (t : Tks) (s : State) : (setStore t s).due = s.due := rfl
@[simp] theorem setStore_lif (t : Tks) (s : State) : (setStore t s).lif = s.lif := rfl
@[simp] theorem setStore_peers (t : Tks) (s : State) : (setStore t s).peers = s.peers := rfl
@[simp] theorem setStore_lastArm (t : Tks) (s : State) : (setStore t s).lastArm = s.lastArm := rfl
@[simp] theorem setStore_lines (t : Tks) (s : State) : (setStore t s).lines = s.lines := rfl
@[simp] theorem setStore_groups (t : Tks) (s : State) : (setStore t s).groups = s.groups := rfl
@[simp] theorem setStore_word (t : Tks) (s : State) : (setStore t s).word = s.word := rfl
@[simp] theorem setStore_outputs (t : Tks) (s : State) : (setStore t s).outputs = s.outputs := rfl
@[simp] theorem setStore_axes (t : Tks) (s : State) : (setStore t s).axes = s.axes := rfl
@[simp] theorem setStore_mismatched (t : Tks) (s : State) : (setStore t s).mismatched = s.mismatched := rfl
@[simp] theorem setStore_foreign (t : Tks) (s : State) : (setStore t s).foreign = s.foreign := rfl
@[simp] theorem setStore_wheels (t : Tks) (s : State) : (setStore t s).wheels = s.wheels := rfl
@[simp] theorem setStore_zones (t : Tks) (s : State) : (setStore t s).zones = s.zones := rfl
@[simp] theorem setStore_crewWarn (t : Tks) (s : State) : (setStore t s).crewWarn = s.crewWarn := rfl
@[simp] theorem setStore_calIgnored (t : Tks) (s : State) : (setStore t s).calIgnored = s.calIgnored := rfl
@[simp] theorem setStore_stop (t : Tks) (s : State) : (setStore t s).stop = s.stop := rfl
@[simp] theorem setStore_stopSeen (t : Tks) (s : State) : (setStore t s).stopSeen = s.stopSeen := rfl
@[simp] theorem setStore_driveOn (t : Tks) (s : State) : (setStore t s).driveOn = s.driveOn := rfl
@[simp] theorem setStore_tkq (t : Tks) (s : State) : (setStore t s).tkq = s.tkq := rfl
@[simp] theorem setStore_pending (t : Tks) (s : State) : (setStore t s).pending = s.pending := rfl

/-! ### endRecordingNow: a recording ended (R155) -/

@[simp] theorem endRecordingNow_hold (complete : Bool) (s : State) : (endRecordingNow complete s).hold = s.hold := rfl
@[simp] theorem endRecordingNow_cfl (complete : Bool) (s : State) : (endRecordingNow complete s).cfl = s.cfl := rfl
@[simp] theorem endRecordingNow_cfg (complete : Bool) (s : State) : (endRecordingNow complete s).cfg = s.cfg := rfl
@[simp] theorem endRecordingNow_time (complete : Bool) (s : State) : (endRecordingNow complete s).time = s.time := rfl
@[simp] theorem endRecordingNow_due (complete : Bool) (s : State) : (endRecordingNow complete s).due = s.due := rfl
@[simp] theorem endRecordingNow_lif (complete : Bool) (s : State) : (endRecordingNow complete s).lif = s.lif := rfl
@[simp] theorem endRecordingNow_peers (complete : Bool) (s : State) : (endRecordingNow complete s).peers = s.peers := rfl
@[simp] theorem endRecordingNow_lastArm (complete : Bool) (s : State) : (endRecordingNow complete s).lastArm = s.lastArm := rfl
@[simp] theorem endRecordingNow_lines (complete : Bool) (s : State) : (endRecordingNow complete s).lines = s.lines := rfl
@[simp] theorem endRecordingNow_groups (complete : Bool) (s : State) : (endRecordingNow complete s).groups = s.groups := rfl
@[simp] theorem endRecordingNow_word (complete : Bool) (s : State) : (endRecordingNow complete s).word = s.word := rfl
@[simp] theorem endRecordingNow_outputs (complete : Bool) (s : State) : (endRecordingNow complete s).outputs = s.outputs := rfl
@[simp] theorem endRecordingNow_axes (complete : Bool) (s : State) : (endRecordingNow complete s).axes = s.axes := rfl
@[simp] theorem endRecordingNow_mismatched (complete : Bool) (s : State) : (endRecordingNow complete s).mismatched = s.mismatched := rfl
@[simp] theorem endRecordingNow_foreign (complete : Bool) (s : State) : (endRecordingNow complete s).foreign = s.foreign := rfl
@[simp] theorem endRecordingNow_wheels (complete : Bool) (s : State) : (endRecordingNow complete s).wheels = s.wheels := rfl
@[simp] theorem endRecordingNow_zones (complete : Bool) (s : State) : (endRecordingNow complete s).zones = s.zones := rfl
@[simp] theorem endRecordingNow_crewWarn (complete : Bool) (s : State) : (endRecordingNow complete s).crewWarn = s.crewWarn := rfl
@[simp] theorem endRecordingNow_calIgnored (complete : Bool) (s : State) : (endRecordingNow complete s).calIgnored = s.calIgnored := rfl
@[simp] theorem endRecordingNow_stop (complete : Bool) (s : State) : (endRecordingNow complete s).stop = s.stop := rfl
@[simp] theorem endRecordingNow_stopSeen (complete : Bool) (s : State) : (endRecordingNow complete s).stopSeen = s.stopSeen := rfl
@[simp] theorem endRecordingNow_driveOn (complete : Bool) (s : State) : (endRecordingNow complete s).driveOn = s.driveOn := rfl
@[simp] theorem endRecordingNow_tkq (complete : Bool) (s : State) : (endRecordingNow complete s).tkq = s.tkq := rfl
@[simp] theorem endRecordingNow_pending (complete : Bool) (s : State) : (endRecordingNow complete s).pending = s.pending := rfl

/-! ### abortByStop: a take aborted by a stop (R180) -/

@[simp] theorem abortByStop_hold (s : State) : (abortByStop s).hold = s.hold := rfl
@[simp] theorem abortByStop_cfl (s : State) : (abortByStop s).cfl = s.cfl := rfl
@[simp] theorem abortByStop_cfg (s : State) : (abortByStop s).cfg = s.cfg := rfl
@[simp] theorem abortByStop_time (s : State) : (abortByStop s).time = s.time := rfl
@[simp] theorem abortByStop_due (s : State) : (abortByStop s).due = s.due := rfl
@[simp] theorem abortByStop_lastArm (s : State) : (abortByStop s).lastArm = s.lastArm := rfl
@[simp] theorem abortByStop_lines (s : State) : (abortByStop s).lines = s.lines := rfl
@[simp] theorem abortByStop_groups (s : State) : (abortByStop s).groups = s.groups := rfl
@[simp] theorem abortByStop_word (s : State) : (abortByStop s).word = s.word := rfl
@[simp] theorem abortByStop_outputs (s : State) : (abortByStop s).outputs = s.outputs := rfl
@[simp] theorem abortByStop_axes (s : State) : (abortByStop s).axes = s.axes := rfl
@[simp] theorem abortByStop_mismatched (s : State) : (abortByStop s).mismatched = s.mismatched := rfl
@[simp] theorem abortByStop_foreign (s : State) : (abortByStop s).foreign = s.foreign := rfl
@[simp] theorem abortByStop_wheels (s : State) : (abortByStop s).wheels = s.wheels := rfl
@[simp] theorem abortByStop_zones (s : State) : (abortByStop s).zones = s.zones := rfl
@[simp] theorem abortByStop_crewWarn (s : State) : (abortByStop s).crewWarn = s.crewWarn := rfl
@[simp] theorem abortByStop_calIgnored (s : State) : (abortByStop s).calIgnored = s.calIgnored := rfl
@[simp] theorem abortByStop_stop (s : State) : (abortByStop s).stop = s.stop := rfl
@[simp] theorem abortByStop_stopSeen (s : State) : (abortByStop s).stopSeen = s.stopSeen := rfl
@[simp] theorem abortByStop_driveOn (s : State) : (abortByStop s).driveOn = s.driveOn := rfl
@[simp] theorem abortByStop_pending (s : State) : (abortByStop s).pending = s.pending := rfl

/-! ### requestBurst: a burst requested (R134) -/

@[simp] theorem requestBurst_hold (k : Cause) (s : State) : (requestBurst k s).hold = s.hold := rfl
@[simp] theorem requestBurst_cfl (k : Cause) (s : State) : (requestBurst k s).cfl = s.cfl := rfl
@[simp] theorem requestBurst_cfg (k : Cause) (s : State) : (requestBurst k s).cfg = s.cfg := rfl
@[simp] theorem requestBurst_time (k : Cause) (s : State) : (requestBurst k s).time = s.time := rfl
@[simp] theorem requestBurst_due (k : Cause) (s : State) : (requestBurst k s).due = s.due := rfl
@[simp] theorem requestBurst_peers (k : Cause) (s : State) : (requestBurst k s).peers = s.peers := rfl
@[simp] theorem requestBurst_lastArm (k : Cause) (s : State) : (requestBurst k s).lastArm = s.lastArm := rfl
@[simp] theorem requestBurst_lines (k : Cause) (s : State) : (requestBurst k s).lines = s.lines := rfl
@[simp] theorem requestBurst_groups (k : Cause) (s : State) : (requestBurst k s).groups = s.groups := rfl
@[simp] theorem requestBurst_word (k : Cause) (s : State) : (requestBurst k s).word = s.word := rfl
@[simp] theorem requestBurst_outputs (k : Cause) (s : State) : (requestBurst k s).outputs = s.outputs := rfl
@[simp] theorem requestBurst_axes (k : Cause) (s : State) : (requestBurst k s).axes = s.axes := rfl
@[simp] theorem requestBurst_mismatched (k : Cause) (s : State) : (requestBurst k s).mismatched = s.mismatched := rfl
@[simp] theorem requestBurst_foreign (k : Cause) (s : State) : (requestBurst k s).foreign = s.foreign := rfl
@[simp] theorem requestBurst_wheels (k : Cause) (s : State) : (requestBurst k s).wheels = s.wheels := rfl
@[simp] theorem requestBurst_zones (k : Cause) (s : State) : (requestBurst k s).zones = s.zones := rfl
@[simp] theorem requestBurst_crewWarn (k : Cause) (s : State) : (requestBurst k s).crewWarn = s.crewWarn := rfl
@[simp] theorem requestBurst_calIgnored (k : Cause) (s : State) : (requestBurst k s).calIgnored = s.calIgnored := rfl
@[simp] theorem requestBurst_stop (k : Cause) (s : State) : (requestBurst k s).stop = s.stop := rfl
@[simp] theorem requestBurst_stopSeen (k : Cause) (s : State) : (requestBurst k s).stopSeen = s.stopSeen := rfl
@[simp] theorem requestBurst_driveOn (k : Cause) (s : State) : (requestBurst k s).driveOn = s.driveOn := rfl
@[simp] theorem requestBurst_tks (k : Cause) (s : State) : (requestBurst k s).tks = s.tks := rfl
@[simp] theorem requestBurst_tkq (k : Cause) (s : State) : (requestBurst k s).tkq = s.tkq := rfl
@[simp] theorem requestBurst_svp (k : Cause) (s : State) : (requestBurst k s).svp = s.svp := rfl
@[simp] theorem requestBurst_pending (k : Cause) (s : State) : (requestBurst k s).pending = s.pending := rfl

/-! ### requestBurstIf: a burst requested for a local cause (R134) -/

@[simp] theorem requestBurstIf_hold (loc : Bool) (k : Cause) (s : State) : (requestBurstIf loc k s).hold = s.hold := rfl
@[simp] theorem requestBurstIf_cfl (loc : Bool) (k : Cause) (s : State) : (requestBurstIf loc k s).cfl = s.cfl := rfl
@[simp] theorem requestBurstIf_cfg (loc : Bool) (k : Cause) (s : State) : (requestBurstIf loc k s).cfg = s.cfg := rfl
@[simp] theorem requestBurstIf_time (loc : Bool) (k : Cause) (s : State) : (requestBurstIf loc k s).time = s.time := rfl
@[simp] theorem requestBurstIf_due (loc : Bool) (k : Cause) (s : State) : (requestBurstIf loc k s).due = s.due := rfl
@[simp] theorem requestBurstIf_peers (loc : Bool) (k : Cause) (s : State) : (requestBurstIf loc k s).peers = s.peers := rfl
@[simp] theorem requestBurstIf_lastArm (loc : Bool) (k : Cause) (s : State) : (requestBurstIf loc k s).lastArm = s.lastArm := rfl
@[simp] theorem requestBurstIf_lines (loc : Bool) (k : Cause) (s : State) : (requestBurstIf loc k s).lines = s.lines := rfl
@[simp] theorem requestBurstIf_groups (loc : Bool) (k : Cause) (s : State) : (requestBurstIf loc k s).groups = s.groups := rfl
@[simp] theorem requestBurstIf_word (loc : Bool) (k : Cause) (s : State) : (requestBurstIf loc k s).word = s.word := rfl
@[simp] theorem requestBurstIf_outputs (loc : Bool) (k : Cause) (s : State) : (requestBurstIf loc k s).outputs = s.outputs := rfl
@[simp] theorem requestBurstIf_axes (loc : Bool) (k : Cause) (s : State) : (requestBurstIf loc k s).axes = s.axes := rfl
@[simp] theorem requestBurstIf_mismatched (loc : Bool) (k : Cause) (s : State) : (requestBurstIf loc k s).mismatched = s.mismatched := rfl
@[simp] theorem requestBurstIf_foreign (loc : Bool) (k : Cause) (s : State) : (requestBurstIf loc k s).foreign = s.foreign := rfl
@[simp] theorem requestBurstIf_wheels (loc : Bool) (k : Cause) (s : State) : (requestBurstIf loc k s).wheels = s.wheels := rfl
@[simp] theorem requestBurstIf_zones (loc : Bool) (k : Cause) (s : State) : (requestBurstIf loc k s).zones = s.zones := rfl
@[simp] theorem requestBurstIf_crewWarn (loc : Bool) (k : Cause) (s : State) : (requestBurstIf loc k s).crewWarn = s.crewWarn := rfl
@[simp] theorem requestBurstIf_calIgnored (loc : Bool) (k : Cause) (s : State) : (requestBurstIf loc k s).calIgnored = s.calIgnored := rfl
@[simp] theorem requestBurstIf_stop (loc : Bool) (k : Cause) (s : State) : (requestBurstIf loc k s).stop = s.stop := rfl
@[simp] theorem requestBurstIf_stopSeen (loc : Bool) (k : Cause) (s : State) : (requestBurstIf loc k s).stopSeen = s.stopSeen := rfl
@[simp] theorem requestBurstIf_driveOn (loc : Bool) (k : Cause) (s : State) : (requestBurstIf loc k s).driveOn = s.driveOn := rfl
@[simp] theorem requestBurstIf_tks (loc : Bool) (k : Cause) (s : State) : (requestBurstIf loc k s).tks = s.tks := rfl
@[simp] theorem requestBurstIf_tkq (loc : Bool) (k : Cause) (s : State) : (requestBurstIf loc k s).tkq = s.tkq := rfl
@[simp] theorem requestBurstIf_svp (loc : Bool) (k : Cause) (s : State) : (requestBurstIf loc k s).svp = s.svp := rfl
@[simp] theorem requestBurstIf_pending (loc : Bool) (k : Cause) (s : State) : (requestBurstIf loc k s).pending = s.pending := rfl

/-! ### beginStop: a stop begun (R132, R145) -/

@[simp] theorem beginStop_hold (loc : Bool) (o : StationNo) (k : Cause) (c : Category) (s : State) : (beginStop loc o k c s).hold = s.hold := by simp [beginStop]
@[simp] theorem beginStop_cfl (loc : Bool) (o : StationNo) (k : Cause) (c : Category) (s : State) : (beginStop loc o k c s).cfl = s.cfl := by simp [beginStop]
@[simp] theorem beginStop_cfg (loc : Bool) (o : StationNo) (k : Cause) (c : Category) (s : State) : (beginStop loc o k c s).cfg = s.cfg := by simp [beginStop]
@[simp] theorem beginStop_time (loc : Bool) (o : StationNo) (k : Cause) (c : Category) (s : State) : (beginStop loc o k c s).time = s.time := by simp [beginStop]
@[simp] theorem beginStop_due (loc : Bool) (o : StationNo) (k : Cause) (c : Category) (s : State) : (beginStop loc o k c s).due = s.due := by simp [beginStop]
@[simp] theorem beginStop_lastArm (loc : Bool) (o : StationNo) (k : Cause) (c : Category) (s : State) : (beginStop loc o k c s).lastArm = s.lastArm := by simp [beginStop]
@[simp] theorem beginStop_lines (loc : Bool) (o : StationNo) (k : Cause) (c : Category) (s : State) : (beginStop loc o k c s).lines = s.lines := by simp [beginStop]
@[simp] theorem beginStop_groups (loc : Bool) (o : StationNo) (k : Cause) (c : Category) (s : State) : (beginStop loc o k c s).groups = s.groups := by simp [beginStop]
@[simp] theorem beginStop_word (loc : Bool) (o : StationNo) (k : Cause) (c : Category) (s : State) : (beginStop loc o k c s).word = s.word := by simp [beginStop]
@[simp] theorem beginStop_outputs (loc : Bool) (o : StationNo) (k : Cause) (c : Category) (s : State) : (beginStop loc o k c s).outputs = s.outputs := by simp [beginStop]
@[simp] theorem beginStop_mismatched (loc : Bool) (o : StationNo) (k : Cause) (c : Category) (s : State) : (beginStop loc o k c s).mismatched = s.mismatched := by simp [beginStop]
@[simp] theorem beginStop_foreign (loc : Bool) (o : StationNo) (k : Cause) (c : Category) (s : State) : (beginStop loc o k c s).foreign = s.foreign := by simp [beginStop]
@[simp] theorem beginStop_wheels (loc : Bool) (o : StationNo) (k : Cause) (c : Category) (s : State) : (beginStop loc o k c s).wheels = s.wheels := by simp [beginStop]
@[simp] theorem beginStop_zones (loc : Bool) (o : StationNo) (k : Cause) (c : Category) (s : State) : (beginStop loc o k c s).zones = s.zones := by simp [beginStop]
@[simp] theorem beginStop_crewWarn (loc : Bool) (o : StationNo) (k : Cause) (c : Category) (s : State) : (beginStop loc o k c s).crewWarn = s.crewWarn := by simp [beginStop]
@[simp] theorem beginStop_calIgnored (loc : Bool) (o : StationNo) (k : Cause) (c : Category) (s : State) : (beginStop loc o k c s).calIgnored = s.calIgnored := by simp [beginStop]
@[simp] theorem beginStop_stopSeen (loc : Bool) (o : StationNo) (k : Cause) (c : Category) (s : State) : (beginStop loc o k c s).stopSeen = s.stopSeen := by simp [beginStop]
@[simp] theorem beginStop_pending (loc : Bool) (o : StationNo) (k : Cause) (c : Category) (s : State) : (beginStop loc o k c s).pending = s.pending := by simp [beginStop]

/-! ### escalateStop: a stop escalated (R133) -/

@[simp] theorem escalateStop_hold (loc : Bool) (o : StationNo) (k : Cause) (c : Category) (s : State) : (escalateStop loc o k c s).hold = s.hold := by simp [escalateStop]
@[simp] theorem escalateStop_cfl (loc : Bool) (o : StationNo) (k : Cause) (c : Category) (s : State) : (escalateStop loc o k c s).cfl = s.cfl := by simp [escalateStop]
@[simp] theorem escalateStop_cfg (loc : Bool) (o : StationNo) (k : Cause) (c : Category) (s : State) : (escalateStop loc o k c s).cfg = s.cfg := by simp [escalateStop]
@[simp] theorem escalateStop_time (loc : Bool) (o : StationNo) (k : Cause) (c : Category) (s : State) : (escalateStop loc o k c s).time = s.time := by simp [escalateStop]
@[simp] theorem escalateStop_due (loc : Bool) (o : StationNo) (k : Cause) (c : Category) (s : State) : (escalateStop loc o k c s).due = s.due := by simp [escalateStop]
@[simp] theorem escalateStop_lastArm (loc : Bool) (o : StationNo) (k : Cause) (c : Category) (s : State) : (escalateStop loc o k c s).lastArm = s.lastArm := by simp [escalateStop]
@[simp] theorem escalateStop_lines (loc : Bool) (o : StationNo) (k : Cause) (c : Category) (s : State) : (escalateStop loc o k c s).lines = s.lines := by simp [escalateStop]
@[simp] theorem escalateStop_groups (loc : Bool) (o : StationNo) (k : Cause) (c : Category) (s : State) : (escalateStop loc o k c s).groups = s.groups := by simp [escalateStop]
@[simp] theorem escalateStop_word (loc : Bool) (o : StationNo) (k : Cause) (c : Category) (s : State) : (escalateStop loc o k c s).word = s.word := by simp [escalateStop]
@[simp] theorem escalateStop_outputs (loc : Bool) (o : StationNo) (k : Cause) (c : Category) (s : State) : (escalateStop loc o k c s).outputs = s.outputs := by simp [escalateStop]
@[simp] theorem escalateStop_mismatched (loc : Bool) (o : StationNo) (k : Cause) (c : Category) (s : State) : (escalateStop loc o k c s).mismatched = s.mismatched := by simp [escalateStop]
@[simp] theorem escalateStop_foreign (loc : Bool) (o : StationNo) (k : Cause) (c : Category) (s : State) : (escalateStop loc o k c s).foreign = s.foreign := by simp [escalateStop]
@[simp] theorem escalateStop_wheels (loc : Bool) (o : StationNo) (k : Cause) (c : Category) (s : State) : (escalateStop loc o k c s).wheels = s.wheels := by simp [escalateStop]
@[simp] theorem escalateStop_zones (loc : Bool) (o : StationNo) (k : Cause) (c : Category) (s : State) : (escalateStop loc o k c s).zones = s.zones := by simp [escalateStop]
@[simp] theorem escalateStop_crewWarn (loc : Bool) (o : StationNo) (k : Cause) (c : Category) (s : State) : (escalateStop loc o k c s).crewWarn = s.crewWarn := by simp [escalateStop]
@[simp] theorem escalateStop_calIgnored (loc : Bool) (o : StationNo) (k : Cause) (c : Category) (s : State) : (escalateStop loc o k c s).calIgnored = s.calIgnored := by simp [escalateStop]
@[simp] theorem escalateStop_stopSeen (loc : Bool) (o : StationNo) (k : Cause) (c : Category) (s : State) : (escalateStop loc o k c s).stopSeen = s.stopSeen := by simp [escalateStop]
@[simp] theorem escalateStop_driveOn (loc : Bool) (o : StationNo) (k : Cause) (c : Category) (s : State) : (escalateStop loc o k c s).driveOn = s.driveOn := by simp [escalateStop]
@[simp] theorem escalateStop_tks (loc : Bool) (o : StationNo) (k : Cause) (c : Category) (s : State) : (escalateStop loc o k c s).tks = s.tks := by simp [escalateStop]
@[simp] theorem escalateStop_tkq (loc : Bool) (o : StationNo) (k : Cause) (c : Category) (s : State) : (escalateStop loc o k c s).tkq = s.tkq := by simp [escalateStop]
@[simp] theorem escalateStop_svp (loc : Bool) (o : StationNo) (k : Cause) (c : Category) (s : State) : (escalateStop loc o k c s).svp = s.svp := by simp [escalateStop]
@[simp] theorem escalateStop_pending (loc : Bool) (o : StationNo) (k : Cause) (c : Category) (s : State) : (escalateStop loc o k c s).pending = s.pending := by simp [escalateStop]

/-! ### formCrew: the crew warning formed (R122) -/

@[simp] theorem formCrew_hold (s : State) : (formCrew s).hold = s.hold := rfl
@[simp] theorem formCrew_cfl (s : State) : (formCrew s).cfl = s.cfl := rfl
@[simp] theorem formCrew_cfg (s : State) : (formCrew s).cfg = s.cfg := rfl
@[simp] theorem formCrew_time (s : State) : (formCrew s).time = s.time := rfl
@[simp] theorem formCrew_due (s : State) : (formCrew s).due = s.due := rfl
@[simp] theorem formCrew_lif (s : State) : (formCrew s).lif = s.lif := rfl
@[simp] theorem formCrew_peers (s : State) : (formCrew s).peers = s.peers := rfl
@[simp] theorem formCrew_lastArm (s : State) : (formCrew s).lastArm = s.lastArm := rfl
@[simp] theorem formCrew_lines (s : State) : (formCrew s).lines = s.lines := rfl
@[simp] theorem formCrew_groups (s : State) : (formCrew s).groups = s.groups := rfl
@[simp] theorem formCrew_word (s : State) : (formCrew s).word = s.word := rfl
@[simp] theorem formCrew_outputs (s : State) : (formCrew s).outputs = s.outputs := rfl
@[simp] theorem formCrew_axes (s : State) : (formCrew s).axes = s.axes := rfl
@[simp] theorem formCrew_mismatched (s : State) : (formCrew s).mismatched = s.mismatched := rfl
@[simp] theorem formCrew_foreign (s : State) : (formCrew s).foreign = s.foreign := rfl
@[simp] theorem formCrew_wheels (s : State) : (formCrew s).wheels = s.wheels := rfl
@[simp] theorem formCrew_zones (s : State) : (formCrew s).zones = s.zones := rfl
@[simp] theorem formCrew_calIgnored (s : State) : (formCrew s).calIgnored = s.calIgnored := rfl
@[simp] theorem formCrew_stop (s : State) : (formCrew s).stop = s.stop := rfl
@[simp] theorem formCrew_stopSeen (s : State) : (formCrew s).stopSeen = s.stopSeen := rfl
@[simp] theorem formCrew_driveOn (s : State) : (formCrew s).driveOn = s.driveOn := rfl
@[simp] theorem formCrew_tks (s : State) : (formCrew s).tks = s.tks := rfl
@[simp] theorem formCrew_tkq (s : State) : (formCrew s).tkq = s.tkq := rfl
@[simp] theorem formCrew_svp (s : State) : (formCrew s).svp = s.svp := rfl
@[simp] theorem formCrew_pending (s : State) : (formCrew s).pending = s.pending := rfl

/-! ### formOwners: owners and caps formed (R51, R123) -/

@[simp] theorem formOwners_hold (s : State) : (formOwners s).hold = s.hold := rfl
@[simp] theorem formOwners_cfl (s : State) : (formOwners s).cfl = s.cfl := rfl
@[simp] theorem formOwners_cfg (s : State) : (formOwners s).cfg = s.cfg := rfl
@[simp] theorem formOwners_time (s : State) : (formOwners s).time = s.time := rfl
@[simp] theorem formOwners_due (s : State) : (formOwners s).due = s.due := rfl
@[simp] theorem formOwners_lif (s : State) : (formOwners s).lif = s.lif := rfl
@[simp] theorem formOwners_peers (s : State) : (formOwners s).peers = s.peers := rfl
@[simp] theorem formOwners_lastArm (s : State) : (formOwners s).lastArm = s.lastArm := rfl
@[simp] theorem formOwners_lines (s : State) : (formOwners s).lines = s.lines := rfl
@[simp] theorem formOwners_groups (s : State) : (formOwners s).groups = s.groups := rfl
@[simp] theorem formOwners_word (s : State) : (formOwners s).word = s.word := rfl
@[simp] theorem formOwners_outputs (s : State) : (formOwners s).outputs = s.outputs := rfl
@[simp] theorem formOwners_mismatched (s : State) : (formOwners s).mismatched = s.mismatched := rfl
@[simp] theorem formOwners_foreign (s : State) : (formOwners s).foreign = s.foreign := rfl
@[simp] theorem formOwners_wheels (s : State) : (formOwners s).wheels = s.wheels := rfl
@[simp] theorem formOwners_zones (s : State) : (formOwners s).zones = s.zones := rfl
@[simp] theorem formOwners_crewWarn (s : State) : (formOwners s).crewWarn = s.crewWarn := rfl
@[simp] theorem formOwners_calIgnored (s : State) : (formOwners s).calIgnored = s.calIgnored := rfl
@[simp] theorem formOwners_stop (s : State) : (formOwners s).stop = s.stop := rfl
@[simp] theorem formOwners_stopSeen (s : State) : (formOwners s).stopSeen = s.stopSeen := rfl
@[simp] theorem formOwners_driveOn (s : State) : (formOwners s).driveOn = s.driveOn := rfl
@[simp] theorem formOwners_tks (s : State) : (formOwners s).tks = s.tks := rfl
@[simp] theorem formOwners_tkq (s : State) : (formOwners s).tkq = s.tkq := rfl
@[simp] theorem formOwners_svp (s : State) : (formOwners s).svp = s.svp := rfl
@[simp] theorem formOwners_pending (s : State) : (formOwners s).pending = s.pending := rfl

/-! ### formOutputs: outputs formed (R47) -/

@[simp] theorem formOutputs_hold (s : State) : (formOutputs s).hold = s.hold := rfl
@[simp] theorem formOutputs_cfl (s : State) : (formOutputs s).cfl = s.cfl := rfl
@[simp] theorem formOutputs_cfg (s : State) : (formOutputs s).cfg = s.cfg := rfl
@[simp] theorem formOutputs_time (s : State) : (formOutputs s).time = s.time := rfl
@[simp] theorem formOutputs_due (s : State) : (formOutputs s).due = s.due := rfl
@[simp] theorem formOutputs_lif (s : State) : (formOutputs s).lif = s.lif := rfl
@[simp] theorem formOutputs_peers (s : State) : (formOutputs s).peers = s.peers := rfl
@[simp] theorem formOutputs_lastArm (s : State) : (formOutputs s).lastArm = s.lastArm := rfl
@[simp] theorem formOutputs_lines (s : State) : (formOutputs s).lines = s.lines := rfl
@[simp] theorem formOutputs_groups (s : State) : (formOutputs s).groups = s.groups := rfl
@[simp] theorem formOutputs_word (s : State) : (formOutputs s).word = s.word := rfl
@[simp] theorem formOutputs_axes (s : State) : (formOutputs s).axes = s.axes := rfl
@[simp] theorem formOutputs_mismatched (s : State) : (formOutputs s).mismatched = s.mismatched := rfl
@[simp] theorem formOutputs_foreign (s : State) : (formOutputs s).foreign = s.foreign := rfl
@[simp] theorem formOutputs_wheels (s : State) : (formOutputs s).wheels = s.wheels := rfl
@[simp] theorem formOutputs_zones (s : State) : (formOutputs s).zones = s.zones := rfl
@[simp] theorem formOutputs_crewWarn (s : State) : (formOutputs s).crewWarn = s.crewWarn := rfl
@[simp] theorem formOutputs_calIgnored (s : State) : (formOutputs s).calIgnored = s.calIgnored := rfl
@[simp] theorem formOutputs_stop (s : State) : (formOutputs s).stop = s.stop := rfl
@[simp] theorem formOutputs_stopSeen (s : State) : (formOutputs s).stopSeen = s.stopSeen := rfl
@[simp] theorem formOutputs_driveOn (s : State) : (formOutputs s).driveOn = s.driveOn := rfl
@[simp] theorem formOutputs_tks (s : State) : (formOutputs s).tks = s.tks := rfl
@[simp] theorem formOutputs_tkq (s : State) : (formOutputs s).tkq = s.tkq := rfl
@[simp] theorem formOutputs_svp (s : State) : (formOutputs s).svp = s.svp := rfl
@[simp] theorem formOutputs_pending (s : State) : (formOutputs s).pending = s.pending := rfl

/-! ### formAttention: attention formed (R192) -/

@[simp] theorem formAttention_hold (s : State) : (formAttention s).hold = s.hold := rfl
@[simp] theorem formAttention_cfl (s : State) : (formAttention s).cfl = s.cfl := rfl
@[simp] theorem formAttention_cfg (s : State) : (formAttention s).cfg = s.cfg := rfl
@[simp] theorem formAttention_time (s : State) : (formAttention s).time = s.time := rfl
@[simp] theorem formAttention_due (s : State) : (formAttention s).due = s.due := rfl
@[simp] theorem formAttention_lif (s : State) : (formAttention s).lif = s.lif := rfl
@[simp] theorem formAttention_peers (s : State) : (formAttention s).peers = s.peers := rfl
@[simp] theorem formAttention_lastArm (s : State) : (formAttention s).lastArm = s.lastArm := rfl
@[simp] theorem formAttention_lines (s : State) : (formAttention s).lines = s.lines := rfl
@[simp] theorem formAttention_groups (s : State) : (formAttention s).groups = s.groups := rfl
@[simp] theorem formAttention_word (s : State) : (formAttention s).word = s.word := rfl
@[simp] theorem formAttention_outputs (s : State) : (formAttention s).outputs = s.outputs := rfl
@[simp] theorem formAttention_axes (s : State) : (formAttention s).axes = s.axes := rfl
@[simp] theorem formAttention_mismatched (s : State) : (formAttention s).mismatched = s.mismatched := rfl
@[simp] theorem formAttention_foreign (s : State) : (formAttention s).foreign = s.foreign := rfl
@[simp] theorem formAttention_wheels (s : State) : (formAttention s).wheels = s.wheels := rfl
@[simp] theorem formAttention_zones (s : State) : (formAttention s).zones = s.zones := rfl
@[simp] theorem formAttention_crewWarn (s : State) : (formAttention s).crewWarn = s.crewWarn := rfl
@[simp] theorem formAttention_calIgnored (s : State) : (formAttention s).calIgnored = s.calIgnored := rfl
@[simp] theorem formAttention_stop (s : State) : (formAttention s).stop = s.stop := rfl
@[simp] theorem formAttention_stopSeen (s : State) : (formAttention s).stopSeen = s.stopSeen := rfl
@[simp] theorem formAttention_driveOn (s : State) : (formAttention s).driveOn = s.driveOn := rfl
@[simp] theorem formAttention_tks (s : State) : (formAttention s).tks = s.tks := rfl
@[simp] theorem formAttention_tkq (s : State) : (formAttention s).tkq = s.tkq := rfl
@[simp] theorem formAttention_pending (s : State) : (formAttention s).pending = s.pending := rfl

/-! ### The parts of an axis -/

@[simp] theorem AxisState.withLens_dsl (l : Lens) (a : AxisState) : (a.withLens l).dsl = a.dsl := rfl
@[simp] theorem AxisState.withLens_link (l : Lens) (a : AxisState) : (a.withLens l).link = a.link := rfl
@[simp] theorem AxisState.withLens_drive (l : Lens) (a : AxisState) : (a.withLens l).drive = a.drive := rfl
@[simp] theorem AxisState.withLens_lens (l : Lens) (a : AxisState) : (a.withLens l).lens = l := rfl
@[simp] theorem AxisState.withLens_cap (l : Lens) (a : AxisState) : (a.withLens l).cap = a.cap := rfl
@[simp] theorem AxisState.withLens_brakeTimer (l : Lens) (a : AxisState) : (a.withLens l).brakeTimer = a.brakeTimer := rfl
@[simp] theorem AxisState.withLens_releaseTimer (l : Lens) (a : AxisState) : (a.withLens l).releaseTimer = a.releaseTimer := rfl
@[simp] theorem AxisState.withLens_prevPos (l : Lens) (a : AxisState) : (a.withLens l).prevPos = a.prevPos := rfl

@[simp] theorem AxisState.mapped_mpr (u : Nat) (x : Int) (a : AxisState) : (a.mapped u x).mpr = a.mpr := rfl
@[simp] theorem AxisState.mapped_link (u : Nat) (x : Int) (a : AxisState) : (a.mapped u x).link = a.link := rfl
@[simp] theorem AxisState.mapped_drive (u : Nat) (x : Int) (a : AxisState) : (a.mapped u x).drive = a.drive := rfl
@[simp] theorem AxisState.mapped_cap (u : Nat) (x : Int) (a : AxisState) : (a.mapped u x).cap = a.cap := rfl
@[simp] theorem AxisState.mapped_brakeTimer (u : Nat) (x : Int) (a : AxisState) : (a.mapped u x).brakeTimer = a.brakeTimer := rfl
@[simp] theorem AxisState.mapped_releaseTimer (u : Nat) (x : Int) (a : AxisState) : (a.mapped u x).releaseTimer = a.releaseTimer := rfl
@[simp] theorem AxisState.mapped_prevPos (u : Nat) (x : Int) (a : AxisState) : (a.mapped u x).prevPos = a.prevPos := rfl

@[simp] theorem AxisState.mapped_held (u : Nat) (x : Int) (a : AxisState) : (a.mapped u x).dsl.held = some x := rfl

@[simp] theorem AxisState.mapped_lastUnit (u : Nat) (x : Int) (a : AxisState) : (a.mapped u x).lens.lastUnit = some u := rfl

/-- A lens record that keeps the seek as it was leaves the profiler's record alone. -/
theorem AxisState.withLens_mpr {l : Lens} {a : AxisState}
    (h : a.seeking = true → ({ a with lens := l } : AxisState).seeking = true) : (a.withLens l).mpr = a.mpr := by
  unfold AxisState.withLens
  cases hs : a.seeking <;> simp_all

/-! ### What the changed fields become -/

theorem State.modAxis_axes (i : AxisNo) (f : AxisState → AxisState) (s : State) :
    (s.modAxis i f).axes = s.axes.set i (f s.axes[i]) := rfl

theorem State.mapAxes_axes (f : AxisNo → AxisState → AxisState) (s : State) :
    (s.mapAxes f).axes = Vector.ofFn fun i => f i s.axes[i] := rfl

theorem State.modPeer_peers (st : StationNo) (f : PeerEntry → PeerEntry) (s : State) :
    (s.modPeer st f).peers = s.peers.set st (f s.peers[st]) := rfl

@[simp] theorem setTake_tkq (q : Tkq) (s : State) : (setTake q s).tkq = q := rfl

@[simp] theorem setStore_tks (t : Tks) (s : State) : (setStore t s).tks = t := rfl

@[simp] theorem formCrew_crewWarn (s : State) : (formCrew s).crewWarn = s.crewWarning := rfl

@[simp] theorem formAttention_attention (s : State) : (formAttention s).svp.attention = s.svp.calling := rfl

@[simp] theorem formAttention_flags (s : State) : (formAttention s).svp.flags = s.svp.flags := rfl

@[simp] theorem formAttention_enables (s : State) : (formAttention s).svp.enables = s.svp.enables := rfl

@[simp] theorem formAttention_response (s : State) : (formAttention s).svp.response = s.svp.response := rfl

end Sys2Proof.Machine
end

