-- ==== Sys2Proof/Laws/Quiet.lean ====
section
/-! SUPPORT. Every reaction keeps the quiet part of the state: what a stop, an announcement and a re-forming can change is
exactly what State.quiet leaves out. A claim about the frame of an event cites these instead of unfolding a reaction. -/

namespace Sys2Proof.Machine

/-! ## Vectors -/

@[simp] theorem getElem_ofFn_fin {α : Type} {n : Nat} (f : Fin n → α) (i : Fin n) : (Vector.ofFn f)[i] = f i := by
  simp [Fin.getElem_fin]

theorem ofFn_congr {α : Type} {n : Nat} {f g : Fin n → α} (h : ∀ i, f i = g i) : Vector.ofFn f = Vector.ofFn g := by
  congr 1; funext i; exact h i

theorem vector_ext {α : Type} {n : Nat} {v w : Vector α n} (h : ∀ i : Fin n, v[i] = w[i]) : v = w := by
  apply Vector.ext; intro i hi; exact h ⟨i, hi⟩

@[simp] theorem getElem_set_fin {α : Type} {n : Nat} (v : Vector α n) (i j : Fin n) (x : α) :
    (v.set i x)[j] = if i = j then x else v[j] := by
  simp [Fin.getElem_fin, Vector.getElem_set, Fin.ext_iff]

theorem ofFn_getElem {α : Type} {n : Nat} (v : Vector α n) : (Vector.ofFn fun i => v[i]) = v := by
  apply vector_ext; simp

/-- A fold of steps that each keep a value keeps it. -/
theorem foldl_keeps {α β γ : Type} (q : β → γ) (f : β → α → β) (h : ∀ b a, q (f b a) = q b) (l : List α) (b : β) :
    q (l.foldl f b) = q b := by
  induction l generalizing b with
  | nil => rfl
  | cons a l ih => simp [List.foldl_cons, ih, h]

/-! ## The parts -/

@[simp] theorem Lif.placeStop_quiet (c : Category) (k : Cause) (q : Byte) (l : Lif) :
    (l.placeStop c k q).quiet = l.quiet := by
  unfold Lif.placeStop Lif.quiet Lif.renew
  rcases l.onLine with _ | f
  · simp
  · by_cases h : l.mute = .permanent <;> simp [h]
    split <;> simp

@[simp] theorem Lif.placeStatus_quiet (m : StatusMsg) (l : Lif) : (l.placeStatus m).quiet = l.quiet := by
  unfold Lif.placeStatus Lif.quiet Lif.renew
  rcases l.onLine with _ | f
  · simp
  · by_cases h : l.mute = .permanent <;> simp [h]
    split <;> split <;> simp

@[simp] theorem PeerEntry.mirror_quiet (m : StatusMsg) (now : Nat) (e : PeerEntry) : (e.mirror m now).quiet = e.quiet := rfl

@[simp] theorem Svp.raise_quiet (n : Nat) (p : Svp) : (p.raise n).quiet = p.quiet := rfl

@[simp] theorem Svp.raiseIf_quiet (c : Bool) (n : Nat) (p : Svp) : (p.raiseIf c n).quiet = p.quiet := rfl

@[simp] theorem AxisState.cut_quiet (a : AxisState) : a.cut.quiet = a.quiet := rfl

@[simp] theorem AxisState.brake_quiet (c : AxisCfg) (a : AxisState) : (a.brake c).quiet = a.quiet := by
  unfold AxisState.brake; split_ifs <;> rfl

@[simp] theorem AxisState.sequence_quiet (g : Option Category) (c : AxisCfg) (a : AxisState) :
    (a.sequence g c).quiet = a.quiet := by
  unfold AxisState.sequence; split <;> simp

@[simp] theorem AxisState.withLens_cancel_quiet (a : AxisState) : (a.withLens a.lens.cancel).quiet = a.quiet := by
  unfold Lens.cancel; split <;> rfl

/-! ## The reactions of the Stop Controller and the Peer Table -/

/-- Equal quiet parts, field by field. -/
theorem State.quiet_ext {s t : State} (hold : s.hold = t.hold) (cfl : s.cfl = t.cfl) (cfg : s.cfg = t.cfg)
    (time : s.time = t.time) (due : s.due = t.due) (lif : s.lif.quiet = t.lif.quiet)
    (peers : s.quiet.peers = t.quiet.peers) (lastArm : s.lastArm = t.lastArm) (lines : s.lines = t.lines)
    (groups : s.groups = t.groups) (axes : ∀ i : AxisNo, s.axes[i].quiet = t.axes[i].quiet)
    (mismatched : s.mismatched = t.mismatched) (foreign : s.foreign = t.foreign) (wheels : s.wheels = t.wheels)
    (calIgnored : s.calIgnored = t.calIgnored) (stopSeen : s.stopSeen = t.stopSeen) (tks : s.tks.quiet = t.tks.quiet)
    (tkq : s.tkq.quiet = t.tkq.quiet) (svp : s.svp.quiet = t.svp.quiet) (pending : s.pending = t.pending) :
    s.quiet = t.quiet := by
  have haxes : (Vector.ofFn fun i => s.axes[i].quiet) = Vector.ofFn fun i => t.axes[i].quiet := ofFn_congr axes
  unfold State.quiet at *
  simp only at peers
  simp only [hold, cfl, cfg, time, due, lif, lastArm, lines, groups, mismatched, foreign, wheels, calIgnored, stopSeen, tks,
    tkq, svp, pending, haxes] at peers ⊢
  rw [peers]

@[simp] theorem composeStatus_quiet (s : State) : (composeStatus s).quiet = s.quiet := by
  apply State.quiet_ext
  case lif => exact Lif.placeStatus_quiet ..
  case peers =>
    simp only [State.quiet, composeStatus]
    apply vector_ext; intro i; simp only [getElem_set_fin]; split <;> simp
  case axes => intro i; rfl
  all_goals rfl

@[simp] theorem announce_quiet (s : State) : (announce s).quiet = s.quiet := by
  have h := composeStatus_quiet s
  by_cases hd : s.statusDiffers
  · have : announce s = composeStatus s := by simp [announce, hd, composeStatus]
    rw [this, h]
  · have : announce s = s := by simp [announce, hd]
    rw [this]

@[simp] theorem cancelSeeks_quiet (s : State) : (cancelSeeks s).quiet = s.quiet := by
  apply State.quiet_ext <;> try rfl
  intro i; simp [cancelSeeks]

@[simp] theorem setTake_quiet (q : Tkq) (s : State) : (setTake q s).quiet = ({ s with tkq := q } : State).quiet := by
  unfold setTake; rw [announce_quiet]; rfl

@[simp] theorem applySequence_quiet (s : State) : (applySequence s).quiet = s.quiet := by
  apply State.quiet_ext <;> try rfl
  intro i; simp [applySequence]

@[simp] theorem judgeStopped_quiet (s : State) : (judgeStopped s).quiet = s.quiet := by
  unfold judgeStopped; rw [announce_quiet]; rfl

/-- An entry whose state alone is replaced. -/
theorem Tks.setEntry_state_quiet (i : EntryNo) (x : EntryState) (t : Tks) :
    (t.setEntry i { t.dir[i] with state := x }).quiet = t.quiet := by
  simp only [Tks.quiet, Tks.setEntry, Tks.mk.injEq, true_and, and_true]
  apply ofFn_congr; intro j; simp only [getElem_set_fin]; split
  · next h => subst h; rfl
  · rfl

@[simp] theorem Tks.endRecording_quiet (n : Byte) (c : Bool) (t : Tks) : (t.endRecording n c).quiet = t.quiet := by
  unfold Tks.endRecording
  split
  · rfl
  · split
    · exact Tks.setEntry_state_quiet ..
    · rfl

@[simp] theorem setStore_quiet (t : Tks) (s : State) : (setStore t s).quiet = ({ s with tks := t } : State).quiet := rfl

theorem quiet_tks {s : State} {t : Tks} (h : t.quiet = s.tks.quiet) : ({ s with tks := t } : State).quiet = s.quiet := by
  simp [State.quiet, h]

theorem quiet_tkq {s : State} {q : Tkq} (h : q.quiet = s.tkq.quiet) : ({ s with tkq := q } : State).quiet = s.quiet := by
  simp [State.quiet, h]

@[simp] theorem endRecordingNow_quiet (c : Bool) (s : State) : (endRecordingNow c s).quiet = s.quiet := by
  unfold endRecordingNow; rw [setStore_quiet]; apply quiet_tks; split <;> simp

@[simp] theorem abortByStop_quiet (s : State) : (abortByStop s).quiet = s.quiet := by
  unfold abortByStop
  rw [setTake_quiet, quiet_tkq, endRecordingNow_quiet]
  simp only [endRecordingNow_tkq]; split <;> rfl

@[simp] theorem requestBurst_quiet (k : Cause) (s : State) : (requestBurst k s).quiet = s.quiet := by
  unfold requestBurst; split
  · apply State.quiet_ext
    case lif => simp
    case axes => intro i; rfl
    all_goals rfl
  · rfl

@[simp] theorem requestBurstIf_quiet (loc : Bool) (k : Cause) (s : State) : (requestBurstIf loc k s).quiet = s.quiet := by
  have h := requestBurst_quiet k s
  unfold requestBurstIf; split
  · have : ({ s with lif := (requestBurst k s).lif } : State) = requestBurst k s := rfl
    rw [this, h]
  · rfl

@[simp] theorem beginStop_quiet (loc : Bool) (o : StationNo) (k : Cause) (c : Category) (s : State) :
    (beginStop loc o k c s).quiet = s.quiet := by
  unfold beginStop
  simp only [judgeStopped_quiet, applySequence_quiet, abortByStop_quiet, announce_quiet, cancelSeeks_quiet,
    requestBurstIf_quiet]
  apply State.quiet_ext <;> try rfl
  intro i; simp [AxisState.quiet]

@[simp] theorem escalateStop_quiet (loc : Bool) (o : StationNo) (k : Cause) (c : Category) (s : State) :
    (escalateStop loc o k c s).quiet = s.quiet := by
  unfold escalateStop
  rw [announce_quiet]
  trans (applySequence (requestBurstIf loc k { s with stop := s.stop.escalate loc o k c })).quiet
  · rfl
  · simp only [applySequence_quiet, requestBurstIf_quiet]; rfl

/-- A cause, taken in whatever stop state, keeps the quiet part (R132, R133, R135). -/
@[simp] theorem takeCause_quiet (loc : Bool) (o : StationNo) (k : Cause) (c : Category) (s : State) :
    (takeCause loc o k c s).quiet = s.quiet := by
  unfold takeCause; split
  · simp
  · simp
  · split
    · simp
    · rfl
  · split
    · simp
    · rfl

@[simp] theorem giveCause_quiet (k : Cause) (c : Category) (s : State) : (giveCause k c s).quiet = s.quiet :=
  takeCause_quiet ..

@[simp] theorem giveCauseIf_quiet (b : Bool) (k : Cause) (c : Category) (s : State) :
    (giveCauseIf b k c s).quiet = s.quiet := by
  unfold giveCauseIf; split <;> simp

/-! ## Zones, gates, owners, outputs -/

@[simp] theorem setZones_quiet (new : Vector ZoneState 8) (s : State) : (setZones new s).quiet = s.quiet := by
  unfold setZones; rw [foldl_keeps State.quiet _ (fun t z => giveCauseIf_quiet _ _ _ t)]; rfl

@[simp] theorem reformZones_quiet (f : ZoneNo → Bool) (s : State) : (reformZones f s).quiet = s.quiet := setZones_quiet ..

@[simp] theorem testZones_quiet (i : AxisNo) (s : State) : (testZones i s).quiet = s.quiet := setZones_quiet ..

theorem mapAxes_quiet {f : AxisNo → AxisState → AxisState} (h : ∀ i a, (f i a).quiet = a.quiet) (s : State) :
    (s.mapAxes f).quiet = s.quiet := by
  apply State.quiet_ext <;> try rfl
  intro i; simp [State.mapAxes, h]

@[simp] theorem reformGates_quiet (f : AxisNo → Bool) (s : State) : (reformGates f s).quiet = s.quiet := by
  apply mapAxes_quiet; intro i a; split <;> rfl

@[simp] theorem formCrew_quiet (s : State) : (formCrew s).quiet = s.quiet := rfl

@[simp] theorem formOutputs_quiet (s : State) : (formOutputs s).quiet = s.quiet := rfl

@[simp] theorem formAttention_quiet (s : State) : (formAttention s).quiet = s.quiet := rfl

@[simp] theorem formOwners_quiet (s : State) : (formOwners s).quiet = s.quiet := by
  apply mapAxes_quiet; intro i a
  dsimp only [State.ownAxis]
  generalize (decide (s.ownerOf i = .live) && decide (a.dsl.owner ≠ .live)) = e
  cases e <;> rfl

@[simp] theorem settleWord_quiet (s : State) : (settleWord s).quiet = s.quiet := by
  unfold settleWord; simp only [reformZones_quiet, reformGates_quiet, announce_quiet]; rfl

@[simp] theorem settle_quiet (n : Nat) (s : State) : (settle n s).quiet = s.quiet := by
  induction n generalizing s with
  | zero => rfl
  | succ n ih => unfold settle; split <;> simp [ih]

/-- What every event ends with keeps the quiet part. -/
@[simp] theorem endEvent_quiet (s : State) : (endEvent s).quiet = s.quiet := by
  unfold endEvent; rw [formAttention_quiet]; split <;> simp

@[simp] theorem peerReaders_quiet (b : Bool) (st : StationNo) (s : State) : (peerReaders b st s).quiet = s.quiet := by
  unfold peerReaders; simp

@[simp] theorem linkZones_quiet (i : AxisNo) (s : State) : (linkZones i s).quiet = s.quiet := by
  unfold linkZones; simp

end Sys2Proof.Machine
end

