-- ==== Sys2Proof/Laws/Events.lean ====
section
/-! SUPPORT. What the shared operations of every event can do, said once: an event of a calm station that changes no
source is followed by no reaction; a cause, once taken, leaves the station stopped; and what follows it only adds causes
and raises the category. -/

namespace Sys2Proof.Machine

/-! ## Events -/

theorem event_operating {f : State → State} {s : State} (h : s.operating = true) : event f s = endEvent (f s) := by
  simp [event, h]

theorem event_idle {f : State → State} {s : State} (h : s.operating = false) : event f s = s := by simp [event, h]

theorem eventIf_due {cond : State → Bool} {f : State → State} {s : State} (h : s.operating = true) (hc : cond s = true) :
    eventIf cond f s = endEvent (f s) := by simp [eventIf, h, hc]

theorem eventIf_notDue {cond : State → Bool} {f : State → State} {s : State} (hc : cond s = false) :
    eventIf cond f s = s := by simp [eventIf, hc]

theorem eventIf_idle {cond : State → Bool} {f : State → State} {s : State} (h : s.operating = false) :
    eventIf cond f s = s := by simp [eventIf, h]

/-- An event that is not due, or of a station that is not operating, is none; a due one ends as every event does. -/
theorem eventIf_cases (cond : State → Bool) (f : State → State) (s : State) :
    eventIf cond f s = s ∨ s.operating = true ∧ cond s = true ∧ eventIf cond f s = endEvent (f s) := by
  unfold eventIf
  by_cases h : (s.operating && cond s) = true
  · right; simp only [Bool.and_eq_true] at h; simp [h.1, h.2]
  · left; simp [h]

/-! ## A calm station -/

/-- Re-forming a settled line word changes nothing. -/
theorem settle_settled {s : State} (n : Nat) (h : s.formWord = s.word) : settle n s = s := by
  cases n <;> simp [settle, h]

theorem formCrew_capped {s : State} (h : s.crewWarn = s.crewWarning) : formCrew s = s := by
  unfold formCrew; rw [← h]

/-- An axis under the owner it has stays as it is. -/
theorem ownAxis_same (s : State) (i : AxisNo) (a : AxisState) : s.ownAxis i a.dsl.owner a = a := by
  have h : (decide (a.dsl.owner = .live) && decide (a.dsl.owner ≠ .live)) = false := by
    by_cases h : a.dsl.owner = .live <;> simp [h]
  simp only [State.ownAxis, h, Bool.false_and, Bool.or_false, Bool.false_eq_true, if_false]

theorem formOwners_owned {s : State} (ho : ∀ i : AxisNo, s.axes[i].dsl.owner = s.ownerOf i)
    (hc : ∀ i : AxisNo, s.axes[i].cap = s.capOf s.crewWarn (s.ownerOf i) i) : formOwners s = s := by
  have : (Vector.ofFn fun i => { s.ownAxis i (s.ownerOf i) s.axes[i] with cap := s.capOf s.crewWarn (s.ownerOf i) i })
      = s.axes := by
    apply vector_ext; intro i
    rw [getElem_ofFn_fin, ← ho i, ownAxis_same, ho i, ← hc i]
  unfold formOwners State.mapAxes
  rw [this]

theorem formOutputs_shown {s : State} (h : ∀ k : OutNo, s.outputs[k] = s.outputNow k) : formOutputs s = s := by
  have : (Vector.ofFn fun k => s.outputNow k) = s.outputs := by
    apply vector_ext; intro k; rw [getElem_ofFn_fin, h k]
  unfold formOutputs
  rw [this]

theorem formAttention_attending {s : State} (h : s.svp.attention = s.svp.calling) : formAttention s = s := by
  simp [formAttention, ← h]

theorem operating_released {s : State} (h : s.operating = true) : s.inReset = false := by
  unfold State.operating at h
  cases hr : s.inReset <;> simp_all

/-- An event of a calm station that changes none of the sources is followed by no reaction (logs 10 and 11). -/
theorem endEvent_calm {s : State} (h : s.calm) : endEvent s = s := by
  obtain ⟨hop, hw, ho, hc, hs, ha⟩ := h
  have hset : settle 4 s = s := settle_settled 4 (hw hop).symm
  unfold endEvent
  rw [hop, if_pos rfl, formOwners_owned (ho hop) (hc hop).2, hset, formCrew_capped (hc hop).1,
    formOwners_owned (ho hop) (hc hop).2, formOutputs_shown (hs hop)]
  apply formAttention_attending
  have := ha; unfold State.attends at this
  rw [this, operating_released hop]; simp

/-! ## Stopped stations -/

/-- The stop state is neither RUN nor RESUMING. -/
def State.halted (s : State) : Prop := s.stop.state ≠ .run ∧ s.stop.state ≠ .resuming

/-- What a stopped station's stop record can become while it stays stopped: causes join it and its category rises. -/
structure StopGrows (r r' : StopRecord) : Prop where
  rank : categoryRank r.category ≤ categoryRank r'.category
  locals : ∀ k ∈ r.localMarks, k ∈ r'.localMarks
  remotes : ∀ k ∈ r.remoteMarks, k ∈ r'.remoteMarks
  first : r'.first = r.first
  halted : r'.state ≠ .run ∧ r'.state ≠ .resuming

theorem StopGrows.refl {r : StopRecord} (h : r.state ≠ .run ∧ r.state ≠ .resuming) : StopGrows r r :=
  ⟨le_refl _, fun _ h => h, fun _ h => h, rfl, h⟩

theorem StopGrows.trans {a b c : StopRecord} (h : StopGrows a b) (h' : StopGrows b c) : StopGrows a c :=
  ⟨le_trans h.rank h'.rank, fun k hk => h'.locals k (h.locals k hk), fun k hk => h'.remotes k (h.remotes k hk),
    h'.first.trans h.first, h'.halted⟩

theorem mem_insertCause (k j : Cause) (l : List Cause) : k ∈ insertCause j l ↔ k = j ∨ k ∈ l := by
  induction l with
  | nil => simp [insertCause]
  | cons a l ih =>
    unfold insertCause; split
    · simp
    · split
      · rename_i h; subst h; simp
      · simp [ih]; tauto

theorem join_locals (loc : Bool) (j k : Cause) (r : StopRecord) :
    k ∈ (r.join loc j).localMarks ↔ (loc = true ∧ k = j) ∨ k ∈ r.localMarks := by
  cases loc <;> simp [StopRecord.join, mem_insertCause]

theorem join_remotes (loc : Bool) (j k : Cause) (r : StopRecord) :
    k ∈ (r.join loc j).remoteMarks ↔ (loc = false ∧ k = j) ∨ k ∈ r.remoteMarks := by
  cases loc <;> simp [StopRecord.join, mem_insertCause]

theorem judgeStopped_halted {s : State} (h : s.halted) : (judgeStopped s).halted := by
  unfold judgeStopped State.halted
  rw [announce_stop]
  dsimp only
  split
  · simp
  · exact h

/-- What a stop that begins leaves in its record (R132, R145). -/
theorem beginStop_stop (loc : Bool) (o : StationNo) (k : Cause) (c : Category) (s : State) :
    (beginStop loc o k c s).stop.category = some c
      ∧ (beginStop loc o k c s).stop.localMarks = (if loc then [k] else [])
      ∧ (beginStop loc o k c s).stop.remoteMarks = (if loc then [] else [k])
      ∧ (beginStop loc o k c s).stop.first = some (k, o, s.time)
      ∧ (beginStop loc o k c s).halted := by
  have h : (beginStop loc o k c s).stop = { s.stop.begin loc o s.time k c with
      state := (beginStop loc o k c s).stop.state } := by
    simp [beginStop, judgeStopped, StopRecord.begin]
  have h' : (beginStop loc o k c s).halted := by
    unfold beginStop
    apply judgeStopped_halted
    simp [State.halted, StopRecord.begin]
  refine ⟨by rw [h]; rfl, by rw [h]; rfl, by rw [h]; rfl, by rw [h]; rfl, h'⟩

/-- What an escalation leaves in the record (R133). -/
theorem escalateStop_stop (loc : Bool) (o : StationNo) (k : Cause) (c : Category) (s : State) :
    (escalateStop loc o k c s).stop.category = some c
      ∧ (escalateStop loc o k c s).stop.localMarks = (s.stop.join loc k).localMarks
      ∧ (escalateStop loc o k c s).stop.remoteMarks = (s.stop.join loc k).remoteMarks
      ∧ (escalateStop loc o k c s).stop.first = s.stop.first
      ∧ (escalateStop loc o k c s).halted := by
  refine ⟨rfl, rfl, rfl, rfl, ?_⟩
  simp only [State.halted, escalateStop, announce_stop]
  split <;> simp

/-- After a cause has been taken the station is stopped, with the cause in its set and at least its category (R132, R133,
R135, R145). -/
theorem takeCause_stops (loc : Bool) (o : StationNo) (k : Cause) (c : Category) (s : State) :
    (takeCause loc o k c s).halted
      ∧ categoryRank (some c) ≤ categoryRank (takeCause loc o k c s).stop.category
      ∧ (loc = true → k ∈ (takeCause loc o k c s).stop.localMarks)
      ∧ (loc = false → k ∈ (takeCause loc o k c s).stop.remoteMarks) := by
  have hb := beginStop_stop loc o k c s
  have he := escalateStop_stop loc o k c s
  have hbegin : (beginStop loc o k c s).halted ∧ categoryRank (some c) ≤ categoryRank (beginStop loc o k c s).stop.category
      ∧ (loc = true → k ∈ (beginStop loc o k c s).stop.localMarks)
      ∧ (loc = false → k ∈ (beginStop loc o k c s).stop.remoteMarks) := by
    refine ⟨hb.2.2.2.2, by rw [hb.1], ?_, ?_⟩ <;> intro h
    · rw [hb.2.1]; simp [h]
    · rw [hb.2.2.1]; simp [h]
  have hesc : (escalateStop loc o k c s).halted
      ∧ categoryRank (some c) ≤ categoryRank (escalateStop loc o k c s).stop.category
      ∧ (loc = true → k ∈ (escalateStop loc o k c s).stop.localMarks)
      ∧ (loc = false → k ∈ (escalateStop loc o k c s).stop.remoteMarks) := by
    refine ⟨he.2.2.2.2, by rw [he.1], ?_, ?_⟩ <;> intro h
    · rw [he.2.1, join_locals]; exact .inl ⟨h, rfl⟩
    · rw [he.2.2.1, join_remotes]; exact .inl ⟨h, rfl⟩
  have hjoin (hs : s.halted) (hr : categoryRank (some c) ≤ categoryRank s.stop.category) :
      ({ s with stop := s.stop.join loc k } : State).halted
      ∧ categoryRank (some c) ≤ categoryRank ({ s with stop := s.stop.join loc k } : State).stop.category
      ∧ (loc = true → k ∈ ({ s with stop := s.stop.join loc k } : State).stop.localMarks)
      ∧ (loc = false → k ∈ ({ s with stop := s.stop.join loc k } : State).stop.remoteMarks) := by
    refine ⟨hs, hr, ?_, ?_⟩ <;> intro h
    · exact (join_locals ..).mpr (.inl ⟨h, rfl⟩)
    · exact (join_remotes ..).mpr (.inl ⟨h, rfl⟩)
  unfold takeCause
  split
  · exact hbegin
  · exact hbegin
  all_goals
    rename_i hs
    split
    · exact hesc
    · exact hjoin (by simp [State.halted, hs]) (by omega)

/-- A cause taken by a stopped station only adds to its record. -/
theorem takeCause_grows (loc : Bool) (o : StationNo) (k : Cause) (c : Category) {s : State} (h : s.halted) :
    StopGrows s.stop (takeCause loc o k c s).stop := by
  have he := escalateStop_stop loc o k c s
  have hj (hs : s.halted) : StopGrows s.stop (s.stop.join loc k) :=
    ⟨le_refl _, fun j hj => (join_locals ..).mpr (.inr hj), fun j hj => (join_remotes ..).mpr (.inr hj), rfl, hs⟩
  unfold takeCause
  split
  · rename_i hs; exact absurd hs h.1
  · rename_i hs; exact absurd hs h.2
  all_goals
    split
    · refine ⟨by rw [he.1]; omega, ?_, ?_, he.2.2.2.1, he.2.2.2.2⟩ <;> intro j hj
      · rw [he.2.1]; exact (join_locals ..).mpr (.inr hj)
      · rw [he.2.2.1]; exact (join_remotes ..).mpr (.inr hj)
    · exact hj h

theorem giveCauseIf_grows (b : Bool) (k : Cause) (c : Category) {s : State} (h : s.halted) :
    StopGrows s.stop (giveCauseIf b k c s).stop := by
  unfold giveCauseIf; split
  · exact takeCause_grows _ _ _ _ h
  · exact .refl h

/-! ## What follows an event -/

/-- New zone records can only add causes to a stopped station's record. -/
theorem setZones_grows (new : Vector ZoneState 8) {s : State} (h : s.halted) : StopGrows s.stop (setZones new s).stop := by
  have key : ∀ (l : List ZoneNo) (t : State), t.halted →
      StopGrows t.stop (l.foldl (fun t z => giveCauseIf (new[z].breached && !s.zones[z].breached) .zoneBreach .brake t) t).stop := by
    intro l
    induction l with
    | nil => intro t ht; exact .refl ht
    | cons z l ih =>
      intro t ht
      have h1 := giveCauseIf_grows (new[z].breached && !s.zones[z].breached) .zoneBreach .brake ht
      exact h1.trans (ih _ h1.halted)
  exact key allEight { s with zones := new } h

theorem reformZones_grows (f : ZoneNo → Bool) {s : State} (h : s.halted) : StopGrows s.stop (reformZones f s).stop :=
  setZones_grows _ h

@[simp] theorem reformGates_stop (f : AxisNo → Bool) (s : State) : (reformGates f s).stop = s.stop := rfl

theorem settleWord_grows {s : State} (h : s.halted) : StopGrows s.stop (settleWord s).stop := by
  unfold settleWord
  dsimp only
  refine StopGrows.trans ?_ (reformZones_grows _ ?_)
  · rw [reformGates_stop, announce_stop]; exact .refl h
  · unfold State.halted; rw [reformGates_stop, announce_stop]; exact h

theorem settle_grows (n : Nat) {s : State} (h : s.halted) : StopGrows s.stop (settle n s).stop := by
  induction n generalizing s with
  | zero => exact .refl h
  | succ n ih =>
    unfold settle; split
    · exact .refl h
    · exact (settleWord_grows h).trans (ih (settleWord_grows h).halted)

/-- What every event ends with only adds to a stopped station's record. -/
theorem endEvent_grows {s : State} (h : s.halted) : StopGrows s.stop (endEvent s).stop := by
  unfold endEvent
  rw [formAttention_stop]; split
  · simp only [formOutputs_stop, formOwners_stop, formCrew_stop]; exact settle_grows 4 (s := formOwners s) h
  · exact .refl h

/-- Once an event has taken a cause, the station stands stopped at its end, with that cause and at least its category. -/
theorem endEvent_takeCause (loc : Bool) (o : StationNo) (k : Cause) (c : Category) (s : State) :
    (endEvent (takeCause loc o k c s)).halted
      ∧ categoryRank (some c) ≤ categoryRank (endEvent (takeCause loc o k c s)).stop.category
      ∧ (loc = true → k ∈ (endEvent (takeCause loc o k c s)).stop.localMarks)
      ∧ (loc = false → k ∈ (endEvent (takeCause loc o k c s)).stop.remoteMarks) := by
  obtain ⟨h, hr, hl, hm⟩ := takeCause_stops loc o k c s
  have hg := endEvent_grows h
  exact ⟨hg.halted, le_trans hr hg.rank, fun e => hg.locals k (hl e), fun e => hg.remotes k (hm e)⟩

/-! ## Re-forming leaves each part as its sources give it -/

@[simp] theorem setStore_store (t : Tks) (s : State) : (setStore t s).tks = t := rfl

/-- Attention follows the flags at the end of every event of a released station (R192). -/
theorem formAttention_attends {s : State} (h : s.inReset = false) : (formAttention s).attends := by
  unfold State.attends
  have : (formAttention s).inReset = false := h
  rw [this]; rfl

end Sys2Proof.Machine
end

