-- ==== Sys2Proof/Laws/Store.lean ====
section
/-! SUPPORT. The Take Store's memory: every operation keeps the canonical form, and a byte reads as it was last written. -/

namespace Sys2Proof.Machine

/-! ## Sparse tables -/

/-- Keys strictly rise. -/
abbrev Rising {α : Type} (l : List (Nat × α)) : Prop := l.Pairwise fun a b => a.1 < b.1

theorem mem_put {α : Type} {l : List (Nat × α)} {a : Nat} {v : α} {c : Nat × α} (h : c ∈ put l a v) :
    c = (a, v) ∨ c ∈ l := by
  induction l with
  | nil => simpa [put] using h
  | cons x l ih =>
    obtain ⟨k, w⟩ := x
    simp only [put] at h
    split_ifs at h <;> simp only [List.mem_cons] at h ⊢ <;> tauto

theorem put_rising {α : Type} {l : List (Nat × α)} {a : Nat} {v : α} (h : Rising l) : Rising (put l a v) := by
  induction l with
  | nil => simp [put]
  | cons x l ih =>
    obtain ⟨k, w⟩ := x
    rw [Rising, List.pairwise_cons] at h
    simp only [put]
    split_ifs with h1 h2
    · simp only [Rising, List.pairwise_cons, List.mem_cons]
      refine ⟨?_, h.1, h.2⟩
      rintro c (rfl | hc)
      · exact h1
      · exact h1.trans (h.1 c hc)
    · subst h2; exact List.pairwise_cons.2 ⟨h.1, h.2⟩
    · refine List.pairwise_cons.2 ⟨?_, ih h.2⟩
      intro c hc
      rcases mem_put hc with rfl | hc
      · show k < a; omega
      · exact h.1 c hc

theorem drop_rising {α : Type} {l : List (Nat × α)} (a : Nat) (h : Rising l) : Rising (drop l a) := List.Pairwise.filter _ h

theorem look_put {α : Type} {l : List (Nat × α)} (a : Nat) (v : α) (b : Nat) :
    look (put l a v) b = if a = b then some v else look l b := by
  induction l with
  | nil => simp [put, look]
  | cons x l ih =>
    obtain ⟨k, w⟩ := x
    simp only [put]
    split_ifs with h1 h2 h3 h4 h5 <;> simp_all [look]
    intro h; omega

theorem look_filter {α : Type} (p : Nat → Bool) (l : List (Nat × α)) (b : Nat) :
    look (l.filter fun c => p c.1) b = if p b then look l b else none := by
  induction l with
  | nil => simp [look]
  | cons x l ih =>
    obtain ⟨k, w⟩ := x
    by_cases hk : p k <;> by_cases hb : k = b <;> simp_all [look]

theorem look_drop {α : Type} (l : List (Nat × α)) (a b : Nat) : look (drop l a) b = if a = b then none else look l b := by
  have := look_filter (fun k => decide (k ≠ a)) l b
  simp only [drop]; rw [this]
  by_cases h : a = b
  · simp [h]
  · simp [h, Ne.symm h]

/-! ## Bytes and words (R147) -/

/-- A byte reads as it was written, and every other byte as before. -/
theorem readByte_writeByte (m : List Host.Cell) (a : Nat) (v : Byte) (b : Nat) :
    readByte (writeByte m a v) b = if a = b then v else readByte m b := by
  unfold readByte writeByte
  split_ifs with h1 h2 h2 <;> simp_all [look_put, look_drop]

theorem writeByte_wf {m : List Host.Cell} (h : Memory.wf m) (a : Nat) (v : Byte) : Memory.wf (writeByte m a v) := by
  unfold writeByte
  split_ifs with hv
  · exact ⟨drop_rising a h.1, fun c hc => h.2 c (List.mem_of_mem_filter hc)⟩
  · refine ⟨put_rising h.1, fun c hc => ?_⟩
    rcases mem_put hc with rfl | hc
    · exact hv
    · exact h.2 c hc

theorem writeWord_wf {m : List Host.Cell} (h : Memory.wf m) (b w : Nat) (v : Word32) : Memory.wf (writeWord m b w v) :=
  writeByte_wf (writeByte_wf (writeByte_wf (writeByte_wf h _ _) _ _) _ _) _ _

theorem writeWords_wf {m : List Host.Cell} (h : Memory.wf m) (b w : Nat) (vs : List Word32) :
    Memory.wf (writeWords m b w vs) := by
  induction vs generalizing m w with
  | nil => exact h
  | cons v vs ih => exact ih (writeWord_wf h b w v) (w + 1)

theorem zeroBlock_wf {m : List Host.Cell} (h : Memory.wf m) (b : Nat) : Memory.wf (zeroBlock m b) :=
  ⟨List.Pairwise.filter _ h.1, fun c hc => h.2 c (List.mem_of_mem_filter hc)⟩

theorem zeroBlocks_wf {m : List Host.Cell} (h : Memory.wf m) (bs : List Nat) : Memory.wf (bs.foldl zeroBlock m) := by
  induction bs generalizing m with
  | nil => exact h
  | cons b bs ih => exact ih (zeroBlock_wf h b)

/-- A byte of a cleared block is 0, and every other byte is as before (R149). -/
theorem readByte_zeroBlock (m : List Host.Cell) (b a : Nat) :
    readByte (zeroBlock m b) a = if 256 * b ≤ a ∧ a < 256 * b + 256 then 0 else readByte m a := by
  have := look_filter (fun k => decide (k < 256 * b) || decide (256 * b + 256 ≤ k)) m a
  unfold readByte zeroBlock
  rw [this]
  by_cases h : 256 * b ≤ a ∧ a < 256 * b + 256
  · have h1 : ¬ a < 256 * b := by omega
    have h2 : ¬ 256 * b + 256 ≤ a := by omega
    simp [h, h1, h2]
  · have h1 : a < 256 * b ∨ 256 * b + 256 ≤ a := by omega
    simp only [h, if_false]
    rcases h1 with h1 | h1 <;> simp [h1]

/-- A byte outside the four of a word is as before. -/
theorem readByte_writeWord_other {m : List Host.Cell} {b w a : Nat} (v : Word32) (h : a < wordAt b w ∨ wordAt b w + 4 ≤ a) :
    readByte (writeWord m b w v) a = readByte m a := by
  unfold writeWord
  simp only [readByte_writeByte]
  split_ifs <;> first | rfl | omega

/-- The four bytes of a word, most significant first, are the word (R194). -/
theorem word_of_bytes (v : Word32) :
    v.extractLsb' 24 8 ++ v.extractLsb' 16 8 ++ v.extractLsb' 8 8 ++ v.extractLsb' 0 8 = v := by
  apply BitVec.eq_of_getLsbD_eq
  intro i hi
  simp only [BitVec.getLsbD_append, BitVec.getLsbD_extractLsb']
  by_cases h1 : i < 8
  · simp [h1]
  · by_cases h2 : i - 8 < 8
    · simp [h1, h2, show 8 + (i - 8) = i by omega]
    · by_cases h3 : i - 8 - 8 < 8
      · simp [h1, h2, h3, show 16 + (i - 8 - 8) = i by omega]
      · simp [h1, h2, h3, show i - 8 - 8 - 8 < 8 by omega, show 24 + (i - 8 - 8 - 8) = i by omega]

/-- A word reads as it was written. -/
theorem readWord_writeWord (m : List Host.Cell) (b w : Nat) (v : Word32) : readWord (writeWord m b w v) b w = v := by
  simp only [readWord, writeWord, readByte_writeByte, Nat.add_right_cancel_iff, Nat.add_eq_left, Nat.left_eq_add,
    Nat.add_left_cancel_iff, if_true, if_false,
    OfNat.ofNat_ne_zero, one_ne_zero]
  norm_num
  exact word_of_bytes v

/-! ## The store's operations keep the canonical form -/

theorem Tks.endRecording_mem (n : Byte) (c : Bool) (t : Tks) : (t.endRecording n c).mem = t.mem := by
  unfold Tks.endRecording; split
  · rfl
  · split <;> rfl

theorem Tks.append_wf {t : Tks} (h : Memory.wf t.mem) (i : EntryNo) (vs : List Int) : Memory.wf (t.append i vs).1.mem := by
  unfold Tks.append
  dsimp only
  split
  · exact h
  · split
    · split
      · exact h
      · exact writeWords_wf (zeroBlock_wf h _) _ _ _
    · exact writeWords_wf h _ _ _

theorem Tks.openTake_wf {t : Tks} (h : Memory.wf t.mem) (n : Byte) (p : Nat) (axes : List AxisNo) (vs : List Int) :
    Memory.wf (t.openTake n p axes vs).1.mem := by
  unfold Tks.openTake; split
  · exact h
  · exact h
  · exact Tks.append_wf (t := Tks.setEntry _ _ t) h _ _

theorem Tks.appendTo_wf {t : Tks} (h : Memory.wf t.mem) (n : Byte) (vs : List Int) : Memory.wf (t.appendTo n vs).1.mem := by
  unfold Tks.appendTo; split
  · exact h
  · exact Tks.append_wf h _ _

theorem Tks.create_wf {t : Tks} (h : Memory.wf t.mem) (i : EntryNo) (n : Byte) (axes : List AxisNo) (p len : Nat) :
    Memory.wf (t.create i n axes p len).mem := zeroBlocks_wf h _

theorem Tks.writeBlock_wf {t : Tks} (h : Memory.wf t.mem) (i : EntryNo) (n : Byte) (w j : Nat) (ws : List Word32) :
    Memory.wf (t.writeBlock i n w j ws).mem := writeWords_wf h _ _ _

theorem Tks.truncateEntry_mem (t : Tks) (i : EntryNo) : (t.truncateEntry i).mem = t.mem := by
  unfold Tks.truncateEntry
  dsimp only
  split
  · rfl
  · split
    · rfl
    · split <;> rfl

theorem Tks.truncateAll_mem (l : List EntryNo) (t : Tks) : (l.foldl Tks.truncateEntry t).mem = t.mem := by
  induction l generalizing t with
  | nil => rfl
  | cons i l ih => rw [List.foldl_cons, ih, Tks.truncateEntry_mem]

theorem Tks.pinStart_mem (t : Tks) : t.pinStart.mem = t.mem := by
  simp only [Tks.pinStart, Tks.truncateAll_mem]

end Sys2Proof.Machine
end

