-- ==== Sys2Proof/Tests/Slice0.lean ====
section
/-! SUPPORT. The model's own tests: ill-formed commands that WellFormed refuses, figures worked in the specification, small
steps, and for every statement with hypotheses a named witness of states and operands that meet them. -/

set_option Elab.async false

namespace Sys2Proof.Machine.Tests

/-! ## Small stations -/

/-- Two axes: a MOTION axis with its live source at station 2, and a LENS axis. -/
def cfg : Settings :=
  { own := 1, roster := 0x06#8, statusPeriod := 8, axisPeriod := 8, demandPeriod := 4, liveness := 200, skewWindow := 10,
    holdLimit := 100, checkThreshold := 0,
    axes := #v[
      { kind := .motion, softLow := -1000, softHigh := 1000, vmax := 5120, a := 256, ad := 1024, followLimit := 400,
        crewSpeed := 1280, prerollSpeed := 2048, calSpeed := 512, liveSource := some 2, deadband := 256, demandTimeout := 20,
        takeable := true, positionBits := 12, origin := 100, floorDelay := 2, badThreshold := 2, brakeDelay := 5,
        tolerance := 10 },
      { kind := .lens, softLow := 0, softHigh := 65535, vmax := 5120, a := 256, ad := 1024, followLimit := 400,
        crewSpeed := 1280, prerollSpeed := 2048, calSpeed := 512, liveSource := some 2, demandTimeout := 20,
        positionBits := 12, origin := 0, floorDelay := 15, badThreshold := 2, brakeDelay := 0, tolerance := 10,
        guardBand := 20, minSpan := 100, maxSpan := 1000, stallThreshold := 30, table := [(0, 0), (65535, 65535)] },
      {}, {}],
    lines := Vector.ofFn fun k => match k.val with
      | 0 => { function := .estop, qualTime := 3 }
      | 1 => { function := .crewTrip, qualTime := 3 }
      | 2 => { function := .limit 0 true, qualTime := 3 }
      | 3 => { function := .driveFault 0, qualTime := 3 }
      | 4 => { function := .stopButton, qualTime := 3 }
      | 5 => { function := .enable, activeHigh := true, qualTime := 3 }
      | _ => {},
    zones := Vector.ofFn fun z => if z.val = 0 then
      { inUse := true, axis := 0, lo := 500, hi := 600, qualifier := some { station := 2, axis := 0, qlo := 0, qhi := 50 } }
      else {},
    wheels := #v[{ target := some (2, 0), gain := 100 }, { target := some (1, 1), lens := true, gain := 256 }, {}, {}] }

/-- An axis at rest whose link is LOCKED, with its drive on and its brake released. -/
def still : AxisState :=
  { link := { state := .locked, measured := some 0, lastGood := some 0 }, drive := { enable := true, released := true },
    cap := 5120 }

/-- A line that is not active. -/
def quietLine : LineState := { raw := true, qualified := some true }

def peer : PeerEntry :=
  { presence := .present, count := 3, arrival := 4900,
    last := some { startFlag := false, resumeBlocked := false, encodersLocked := true, lensCalibrated := true, stop := .run,
                   category := none, take := .idle, number := 0, time := 0, word := 0 } }

/-- The station in RUN at station time 5000, as some event has left it. -/
def op : State :=
  endEvent { State.reset with
    cfl := { load := .runReady, sent := [0x03#8, 0, 0, 0] }
    cfg := cfg, time := 5000, due := { reads := #v[true, true, false, false] }
    peers := (State.reset.peers.set 1 { presence := .present, count := 3, arrival := 4990 }).set 2 peer
    lines := (Vector.replicate 16 quietLine).set 5 { raw := false, qualified := some false }
    axes := #v[still, { still with lens := { cal := { state := .calibrated, low := some 0, high := some 500, span := some 500 },
                                             table := [(0, 0), (65535, 65535)] } }, {}, {}]
    stop := { state := .run, category := none, localMarks := [], first := none, origin := none } }

theorem calm_iff (s : State) : s.calm ↔
    s.operating = true ∧ s.word = s.formWord ∧ (∀ i : AxisNo, s.axes[i].dsl.owner = s.ownerOf i)
      ∧ (s.crewWarn = s.crewWarning ∧ ∀ i : AxisNo, s.axes[i].cap = s.capOf s.crewWarn (s.ownerOf i) i)
      ∧ (∀ k : OutNo, s.outputs[k] = s.outputNow k) ∧ s.svp.attention = (!s.inReset && s.svp.calling) := by
  unfold State.calm State.settled State.owned State.capped State.shown State.attends
  constructor
  · rintro ⟨h, a, b, c, d, e⟩; exact ⟨h, a h, b h, c h, d h, e⟩
  · rintro ⟨h, a, b, c, d, e⟩; exact ⟨h, fun _ => a, fun _ => b, fun _ => c, fun _ => d, e⟩

theorem op_calm : op.calm := by rw [calm_iff]; decide +kernel

/-! ## Helpers -/

/-- The state that a command leaves. -/
def after (c : Instr) (s : State) : State :=
  match exec c s with
  | .next t => t
  | _ => s

/-- A frame of station 2 with a right check. -/
def wire (cls : Fin 8) (payload : List Byte) : Wire :=
  { sender := 2, index := 0, length := Fin.ofNat 16 payload.length, payload := payload,
    check := lineCheck cls 2 0 payload.length payload, idleInside := false }

def cueMsg (k : CueKind) (number parameter : Byte) : CueMsg :=
  { kind := k, seq := 9, number := number, mask := 0x02#8, parameter := parameter }

def cueWire (k : CueKind) (number parameter : Byte) : Wire := wire 2 (cuePayload (cueMsg k number parameter))

def statusMsg (startFlag : Bool) : StatusMsg :=
  { startFlag := startFlag, resumeBlocked := false, encodersLocked := true, lensCalibrated := true, stop := .run,
    category := none, take := .idle, number := 0, time := 0, word := 0 }

def statusWire (startFlag : Bool) : Wire := wire 5 (statusPayload (statusMsg startFlag))

def stopMsg (copy : Nat) : StopMsg := { category := .hold, cause := .operator, origin := 2, copy := copy, seq := 7 }

def stopWire (copy : Nat) : Wire := wire 0 (stopPayload (stopMsg copy))

def demandMsg (value : Int) (lens : Bool) (axis : AxisNo) : DemandMsg :=
  { station := 1, axis := axis, lens := lens, seq := 3, value := value }

def demandWire (value : Int) (lens : Bool) (axis : AxisNo) : Wire := wire 3 (demandPayload (demandMsg value lens axis))

def axisMsg : AxisMsg := { position := 50, velocity := 0, valid := true, atTarget := false, driveOn := true }

def axisWire : Wire := wire 4 (axisPayload axisMsg)

/-- The samples of a burst: one leading 0, the start bit, the position, the error and warning bits, the check, and 0s. -/
def burst (width raw : Nat) (error : Bool) : List Bool :=
  let covered := natBits width raw ++ [error, false]
  [false, true] ++ covered ++ natBits 6 (crc6 covered).toNat ++ [false, false]

/-! ## More small stations -/

/-- op with one thing changed, and what every event ends with done again. -/
def opWith (f : State → State) : State := endEvent (f op)

/-- Everything that can fall due is due: periods, an edge, a STATUS that ages, a silent peer, a stale report and demand. -/
def dueNow : State := opWith fun s => { s with
  due := { s.due with status := true, axis := true, demand := true, window := true }
  time := 5101
  lines := s.lines.set 4 { raw := false, qualified := some true, hold := 4 }
  lif := { s.lif with status := some (statusMsg false), statusAge := 101 }
  peers := s.peers.set 2 { s.peers[2] with reports := s.peers[2].reports.set 0 { valid := true, position := 60, arrival := some 4900 } }
  axes := s.axes.set 0 { s.axes[0] with dsl := { s.axes[0].dsl with fresh := 21 } } }

/-- In LINE-MUTE, with the probe timer at the liveness timeout. -/
def muted : State := opWith fun s => { s with lif := { s.lif with mute := .lineMute, failures := 16, probeTimer := 200 } }

/-- In permanent mute. -/
def muteForGood : State := opWith fun s => { s with lif := { s.lif with mute := .permanent } }

/-- STOPPED after a BRAKE stop, with nothing that persists. -/
def stopped : State := opWith fun s => { s with
  stop := { s.stop with state := .stopped, category := some .brake, localMarks := [.powerUp], first := some (.powerUp, 1, 0),
                        origin := some 1 }
  axes := s.axes.set 0 { s.axes[0] with drive := {}, mpr := { s.axes[0].mpr with p := 0 } } }

/-- STOPPED, with the ESTOP line not yet qualified. -/
def blockedStop : State := endEvent { stopped with lines := stopped.lines.set 0 {} }

/-- STOPPING under BRAKE: axis 0 is at rest with its brake engaged and its timer at the delay. -/
def braking : State := endEvent { stopped with
  stop := { stopped.stop with state := .stopping }
  axes := #v[{ stopped.axes[0] with drive := { enable := true }, brakeTimer := some 5 },
             { stopped.axes[1] with drive := {} }, {}, {}] }

/-- RESUMING at the drive-on boundary; the brake of axis 0 is engaged. -/
def driveOnNow : State := opWith fun s => { s with
  stop := { s.stop with state := .resuming }
  driveOn := .due
  axes := s.axes.set 0 { s.axes[0] with drive := {} } }

/-- The same with every brake released already. -/
def driveOnReleased : State := opWith fun s => { s with stop := { s.stop with state := .resuming }, driveOn := .due }

/-- The same with the link of axis 0 lost. -/
def driveOnLost : State := endEvent { driveOnNow with
  axes := driveOnNow.axes.set 0 { driveOnNow.axes[0] with link := { state := .lost, measured := some 0 } } }

/-- RESUMING with the release timer of axis 0 at its delay. -/
def releasing : State := endEvent { driveOnNow with
  driveOn := .idle
  axes := driveOnNow.axes.set 0 { driveOnNow.axes[0] with drive := { enable := true }, releaseTimer := some 5 } }

/-- The links of axes 0 and 1 in the states given. -/
def linked (l0 l1 : Link) : State := opWith fun s => { s with
  axes := (s.axes.set 0 { s.axes[0] with link := l0 }).set 1 { s.axes[1] with link := l1 } }

/-- The LENS axis seeks, with a calibration record and timers. -/
def seeking (c : Cal) (stall blocked : Nat) : State := opWith fun s => { s with
  axes := s.axes.set 1 { s.axes[1] with
    link := { s.axes[1].link with measured := some 300 }, lens := { s.axes[1].lens with cal := c, stall := stall, blocked := blocked } } }

/-- A take record in RUN, over a store. -/
def withTake (q : Tkq) (t : Tks) : State := opWith fun s => { s with tkq := q, tks := t }

/-- A store that holds the COMPLETE take 17 of axis 0, two samples of 10 ms. -/
def store17 : Tks := (((Tks.openTake 17 10 [0] [5] {}).1.appendTo 17 [6]).1).endRecording 17 true

/-- A store in which take 17 of axis 0 is being recorded. -/
def recording17 : Tks := (Tks.openTake 17 10 [0] [5] {}).1

def armedRec : State := withTake { state := .armed, mode := some .record, number := 17, mask := 0x02#8, axes := [0] } {}

def readyPlay (mask : Byte) (length : Nat) : State :=
  withTake { state := .ready, mode := some .play, number := 17, mask := mask, axes := [0], length := length } store17

def recordingNow : State :=
  withTake { state := .running, mode := some .record, number := 17, mask := 0x02#8, axes := [0], appendDue := true } recording17

def playing (hold : Nat) : State := withTake
  { state := .running, mode := some .play, number := 17, mask := 0x02#8, axes := [0], length := 2, t := 10, holdTimer := hold } store17

/-- An upload of take 19 of axis 0 with one block. -/
def uploading (written : Nat) : State := opWith fun s => { s with
  tks := { (Tks.create 0 19 [0] 10 64 {} : Tks) with upload := some (19, written) } }

/-- The own frame of a cue on the line. -/
def cueOnLine : TxFrame :=
  { slot := .cue, cls := 2, index := 0, payload := cuePayload (cueMsg .go 17 0), renewed := false }

def sending (failures : Nat) : State := opWith fun s => { s with
  lif := { s.lif with onLine := some cueOnLine, failures := failures, cues := [{ cue := cueMsg .go 17 0, attempts := 0 }] } }

/-- Something waits in every slot, and a STOP burst has sent its first copy. -/
def queued : State := opWith fun s => { s with lif := { s.lif with
  stop := some { category := .cut, cause := .estop, seq := 1, copies := 2, nextIndex := 1 }
  status := some (statusMsg false), cues := [{ cue := cueMsg .go 17 0, attempts := 0 }]
  demand := s.lif.demand.set 3 (some (demandMsg 0 false 0)), axis := s.lif.axis.set 0 (some axisMsg) } }

/-! ## The stations are calm -/

theorem dueNow_calm : dueNow.calm := (calm_iff _).mpr (by decide +kernel)
theorem muted_calm : muted.calm := (calm_iff _).mpr (by decide +kernel)
theorem muteForGood_calm : muteForGood.calm := (calm_iff _).mpr (by decide +kernel)
theorem stopped_calm : stopped.calm := (calm_iff _).mpr (by decide +kernel)
theorem blockedStop_calm : blockedStop.calm := (calm_iff _).mpr (by decide +kernel)
theorem braking_calm : braking.calm := (calm_iff _).mpr (by decide +kernel)
theorem driveOnNow_calm : driveOnNow.calm := (calm_iff _).mpr (by decide +kernel)
theorem driveOnReleased_calm : driveOnReleased.calm := (calm_iff _).mpr (by decide +kernel)
theorem driveOnLost_calm : driveOnLost.calm := (calm_iff _).mpr (by decide +kernel)
theorem releasing_calm : releasing.calm := (calm_iff _).mpr (by decide +kernel)
theorem armedRec_calm : armedRec.calm := (calm_iff _).mpr (by decide +kernel)
theorem recordingNow_calm : recordingNow.calm := (calm_iff _).mpr (by decide +kernel)

/-- The CUE row of a kind. -/
def rowOf (k : CueKind) (w : Wire) : Instr :=
  match k with
  | .armRecord => .armRecord w
  | .armPlay => .armPlay w
  | .go => .go w
  | .halt => .halt w
  | .disarm => .disarm w
  | .resume => .resume w
  | .erase => .erase w
  | .calibrate => .calibrate w

theorem rowOf_row {k : CueKind} {n p : Byte} (h : parseCue (cueWire k n p).payload = some (cueMsg k n p)) :
    cueRow (rowOf k (cueWire k n p)) (cueWire k n p) (cueMsg k n p) := ⟨h, by cases k <;> rfl⟩

theorem hearsCue_of {s : State} {k : CueKind} {n p : Byte} (hc : s.calm)
    (h : ({ cls := 2, wire := cueWire k n p } : Frame).judge (some s.cfg.own) = .received
      ∧ parseCue (cueWire k n p).payload = some (cueMsg k n p) ∧ s.peers[(2 : StationNo)].cueSeq ≠ some 9
      ∧ names 0x02#8 s.cfg.own.val = true) :
    s.hearsCue (rowOf k (cueWire k n p)) (cueWire k n p) (cueMsg k n p) :=
  ⟨⟨hc, h.1⟩, rowOf_row h.2.1, h.2.2.1, h.2.2.2⟩

/-! ## WellFormed refuses an ill-formed term of each check (R3, R83, R159, R183, R187, 12.2, 12.5) -/

theorem test_wf_refuses :
    (Instr.configReadDone (List.replicate 1023 0) 0).wf = false ∧ (Instr.attemptEnd []).wf = false
      ∧ (Instr.attemptEnd (List.replicate 95 true)).wf = false
      ∧ (Instr.stopFrame { stopWire 0 with length := 4 }).wf = false
      ∧ (Instr.stopFrame { stopWire 0 with length := 9 }).wf = false
      ∧ (Instr.statusFrame false { statusWire false with payload := [] }).wf = false
      ∧ (Instr.demandFrame { demandWire 0 false 0 with length := 0 }).wf = false
      ∧ (Instr.axisFrame { axisWire with length := 8 }).wf = false
      ∧ (Instr.unknownClass true { axisWire with length := 8 }).wf = false
      ∧ (Instr.armRecord (cueWire .go 1 0)).wf = false ∧ (Instr.armPlay (cueWire .go 1 0)).wf = false
      ∧ (Instr.go (cueWire .halt 1 0)).wf = false ∧ (Instr.halt (cueWire .go 1 0)).wf = false
      ∧ (Instr.disarm (cueWire .go 1 0)).wf = false ∧ (Instr.resume (cueWire .go 1 0)).wf = false
      ∧ (Instr.erase (cueWire .go 1 0)).wf = false ∧ (Instr.calibrate (cueWire .go 1 0)).wf = false
      ∧ (Instr.encoderRead 0 (List.replicate 23 true)).wf = false ∧ (Instr.encoderRead 0 (List.replicate 43 true)).wf = false
      ∧ (Instr.takeWrite 1 0 (List.replicate 63 0)).wf = false ∧ (Instr.lensTableWrite 1 2 []).wf = false
      ∧ (Instr.badCommand 0x43).wf = false := by decide +kernel

theorem test_wf_accepts :
    (Instr.go (cueWire .go 1 0)).wf = true ∧ (Instr.stopFrame (stopWire 0)).wf = true
      ∧ (Instr.encoderRead 0 (burst 12 5 false)).wf = true ∧ (Instr.badCommand 0x44).wf = true := by decide +kernel

/-! ## Figures worked in the specification -/

/-- R195: "123456789" has the check 0x29B1 under the polynomial, start value and bit order that the rule gives. -/
theorem test_crc16 : crc16 (bytesBits [0x31, 0x32, 0x33, 0x34, 0x35, 0x36, 0x37, 0x38, 0x39]) = 0x29B1#16 := by decide +kernel

/-- 4.8: isqrt(105,119,744) = 10,252, and the bound is 4870. -/
theorem test_stopping_bound : isqrt 105119744 = 10252 ∧ stoppingBound 25600 512 = 4870 := by decide +kernel

/-- The axis of 4.9: a = 256, cap 1024, target 10 counts. -/
def approach : ProfilerInput :=
  { cfg := { a := 256, ad := 1024 }, goal := .position 10, cap := 1024, softLow := none, softHigh := none, upEdge := none,
    downEdge := none, tracks := false, measured := none }

/-- 4.9: the seven periods of the approach, and the arrival. -/
theorem test_approach :
    let p (n : Nat) : Mpr := n.rec {} fun _ m => approach.compute m
    [p 1, p 2, p 3, p 4, p 5, p 6].map (fun m => (m.p, m.v, m.count)) =
        [(256, 256, 1), (768, 512, 3), (1536, 768, 6), (2143, 607, 8), (2494, 351, 10), (2590, 96, 10)]
      ∧ p 7 = { p := 2560, v := 0, mode := .position, atTarget := true, atRest := true, count := 10 } := by decide +kernel

/-- 4.10: meeting a soft limit 20,000 above p, which is 0 here: the limit stands at 20,224, so p starts at 224. -/
theorem test_soft_limit :
    let n : ProfilerInput :=
      { cfg := { a := 256, ad := 1024 }, goal := .velocity 5120, cap := 5120, softLow := none, softHigh := some 79,
        upEdge := some 79, downEdge := none, tracks := false, measured := none }
    let p (k : Nat) : Mpr := k.rec { p := 224, v := 5120 } fun _ m => n.compute m
    [p 1, p 2, p 3, p 4, p 5, p 6, p 7].map (fun m => (20224 - m.p, m.v)) =
      [(14880, 5120), (9848, 5032), (5840, 4008), (2856, 2984), (896, 1960), (0, 896), (0, 0)] := by decide +kernel

/-- 6.3: the mapping of the zoom, and a falling table. -/
theorem test_lens_map :
    [0, 16384, 32768, 40000, 65535].map (fun u => scaleUnit 1000 41000 200 (shapeUnit [(0, 0), (32768, 50000), (65535, 65535)] u))
        = [1200, 16306, 31412, 33484, 40800]
      ∧ [1, 30000, 65535].map (shapeUnit [(0, 60000), (65535, 5000)]) = [60000, 34823, 5000] := by decide +kernel

/-- 3.7: the lens accumulator at its upper end. -/
theorem test_lens_accumulator :
    let c : WheelCfg := { target := some (3, 1), lens := true, gain := 1024, start := 32768 }
    demandValue c { acc := 8388608, count := -40 } = 32608 ∧ accAfter c { acc := 16768000, count := 20 } = 16776960
      ∧ demandValue c { acc := 16776960, count := -1 } = 65531 := by decide +kernel

/-- R14, 1.5: identifiers order the classes: a STOP of station 7 goes before a DEMAND of station 0. -/
theorem test_identifier : identifier 0 7 0 = 28 ∧ identifier 3 0 0 = 96 ∧ identifier 5 1 0 = 164 := by decide

/-- The table gives no row any bits. -/
theorem test_no_word_spells_a_command : decodeTableWord 8 0 = none ∧ State.reset.withFetchWord 8 0 = State.reset := ⟨rfl, rfl⟩

/-! ## Witnesses: the machine, the invariants, resets and the load -/

theorem test_meets_StepRunsTheFrontCommand :
    ({ op with pending := [.readStation] } : State).pending = .readStation :: [] ∧ op.pending = [] := by decide +kernel

theorem boundedOf {l : Lif} (h : l.stop = none ∧ l.cues.length ≤ 4 ∧ (∀ c ∈ l.cues, c.attempts ≤ 2) ∧ l.failures ≤ 16) :
    l.bounded := ⟨by simp [h.1], h.2.1, h.2.2.1, h.2.2.2⟩

theorem emptyStore_sound : ({} : Tks).blocksSound := by
  refine ⟨?_, fun _ _ => rfl, fun i => ⟨fun _ => ?_, fun h => absurd ?_ h⟩⟩
  · rw [show (allSixteen.flatMap fun i => Tks.chain {} ({} : Tks).dir[i]) = [] by decide +kernel, List.append_nil]
  · simp
  · simp

/-- A calm station in RUN meets every invariant; so does one that a STOP has cut. -/
theorem test_meets_invariants :
    op.storeSound ∧ op.blocksSound ∧ op.drivesSafe ∧ op.stopAgrees ∧ op.takeAgrees ∧ op.speedSafe ∧ op.countersFit
      ∧ op.lif.bounded := by
  refine ⟨?_, ⟨?_, by decide +kernel⟩, ?_, ?_, ?_, ?_, ?_, boundedOf (by decide +kernel)⟩
  · unfold State.storeSound Memory.wf; decide +kernel
  · rw [show op.tks = {} by decide +kernel]; exact emptyStore_sound
  · unfold State.drivesSafe; decide +kernel
  · unfold State.stopAgrees; decide +kernel
  · unfold State.takeAgrees; decide +kernel
  · unfold State.speedSafe; decide +kernel
  · unfold State.countersFit; decide +kernel

theorem test_meets_formed : op.settled ∧ op.owned ∧ op.capped ∧ op.shown ∧ op.attends := op_calm.2

/-- A step that the invariants are about: a command that cuts, in a station that meets them. -/
theorem test_invariant_step :
    step { op with pending := [.estopEdge 0 false] } = .next (after (.estopEdge 0 false) op)
      ∧ (after (.estopEdge 0 false) op).stop.category = some .cut ∧ (after (.estopEdge 0 false) op).secured = true := by
  refine ⟨rfl, by decide +kernel, by decide +kernel⟩

/-- The supply has risen: held in reset. A take is open as an upload and another is complete. -/
def held (rose : Bool) : State :=
  { op with hold := { pin := true, supplyRose := rose }, tks := (Tks.create 3 19 [0] 10 64 store17 : Tks) }

/-- Held in reset while take 17 is being recorded. -/
def heldRecording : State := { op with hold := { pin := true }, tks := recording17 }

/-- Held in reset while take 19 of axis 0, 200 samples in four blocks, is being uploaded. -/
def heldUpload (written : Nat) : State :=
  { op with hold := { pin := true }, tks := { (Tks.create 0 19 [0] 10 200 {} : Tks) with upload := some (19, written) } }

theorem test_meets_ReleaseBeginsAStart :
    (held true).inReset = true ∧ (held true).hold.supplyRose = true ∧ (held false).inReset = true
      ∧ (held false).hold.supplyRose = false ∧ (held false).tks.dir[(0 : EntryNo)].state ≠ .recording
      ∧ heldRecording.inReset = true ∧ heldRecording.hold.supplyRose = false
      ∧ heldRecording.tks.dir[(0 : EntryNo)].state = .recording
      ∧ heldRecording.tks.dir[(0 : EntryNo)].uploaded = false
      ∧ (heldUpload 2).tks.dir[(0 : EntryNo)].state = .recording ∧ (heldUpload 2).tks.dir[(0 : EntryNo)].uploaded = true
      ∧ (∀ j : EntryNo, j ≠ 0 → (heldUpload 2).tks.dir[j].state ≠ .recording)
      ∧ (heldUpload 2).tks.upload = some (19, 2) ∧ min 200 (2 * (64 / 1)) = 128 := by decide +kernel

/-- R182: 10 µs hold the part and 9 µs do not; a reset-pin start keeps the take, and a power-on start does not. -/
theorem test_resets :
    (after (.pinReset 10) op).inReset = true ∧ (after (.pinReset 9) op).inReset = false
      ∧ (after .powerOnReset op).hold = { supply := true, supplyRose := true }
      ∧ (after .resetRelease heldRecording).tks.dir[(0 : EntryNo)].state = .truncated
      ∧ (after .resetRelease heldRecording).stop.localMarks = [.resetPin]
      ∧ (after .resetRelease heldRecording).svp.flags = (BitVec.twoPow 16 flagStart ||| BitVec.twoPow 16 flagTakeChange)
      ∧ after .resetRelease (held true) = State.reset := by decide +kernel

/-- R162: an upload of which two blocks are written keeps 128 samples; one of which none is written is emptied. -/
theorem test_reset_upload :
    (after .resetRelease (heldUpload 2)).tks.dir[(0 : EntryNo)].length = 128
      ∧ (after .resetRelease (heldUpload 2)).tks.dir[(0 : EntryNo)].last = some 1
      ∧ (after .resetRelease (heldUpload 2)).tks.free.getLast? = some 3
      ∧ (after .resetRelease (heldUpload 0)).tks.dir[(0 : EntryNo)] = {}
      ∧ (after .resetRelease (heldUpload 0)).svp.flags.getLsbD flagTakeChange = true := by decide +kernel

/-! An image of 1024 bytes with a motion axis at every record's place of log 5; its last two bytes are its check. -/

def zeros (n : Nat) : List Byte := List.replicate n 0

/-- The first 1022 bytes: station, axes 0 (MOTION) to 3, zones, lines, sources, outputs, wheels, warning slots. -/
def imageBody : List Byte :=
  [0, 1, 0x06, 0, 0, 0, 24, 10, 0x01, 0xF4, 3, 2, 1, 2, 2, 2] ++ zeros 16
    ++ [1, 0xFF, 0xFE, 0x79, 0x60, 0x00, 0x01, 0x86, 0xA0, 0x00, 0x14, 0x00, 0x01, 0x00, 0x04, 0x00, 0x00, 0x00, 0x01, 0x90,
      0x00, 0x05, 0x00, 0x00, 0x08, 0x00, 0x00, 0x02, 0x00, 2, 0xFF, 0x01, 0x00, 20, 0x98, 2, 0x00, 0x00, 0x03, 0xE8, 4, 2,
      0x00, 0x05, 0x00, 0x0A, 0x00, 0x32] ++ zeros 656
    ++ [0x10, 0, 0, 0xFF, 0x20, 3, 1, 7] ++ (List.replicate 14 [0, 0, 0, 0xFF]).flatten
    ++ zeros 16 ++ zeros 32
    ++ (List.replicate 4 (0xFF :: zeros 7)).flatten
    ++ List.replicate 8 0xFF ++ zeros 134

/-- The check of imageBody stands in the last two bytes. -/
def image : List Byte := imageBody ++ [0x8B, 0xB5]

/-- An image whose line rate code is 2, with a right check, and one whose check is wrong. -/
def badRate : List Byte := (2 :: zeros 1021) ++ [0xA5, 0x62]

def badCheck : List Byte := zeros 1024

/-- The CRC-16 with its register read off at every bit, which the kernel can evaluate over a whole image. -/
def crcStrict : List Bool → Word16 → Word16
  | [], r => r
  | b :: bs, r => match r.toNat with
    | 0 => crcStrict bs (crc16Step 0 b)
    | n + 1 => crcStrict bs (crc16Step (BitVec.ofNat 16 (n + 1)) b)

theorem crcStrict_eq (bs : List Bool) (r : Word16) : crcStrict bs r = bs.foldl crc16Step r := by
  induction bs generalizing r with
  | nil => rfl
  | cons b bs ih =>
    unfold crcStrict; split
    · rename_i h; rw [ih]; simp [BitVec.eq_of_toNat_eq (x := r) (y := 0) (by simpa using h)]
    · rename_i n h; rw [ih, ← Nat.succ_eq_add_one, ← h]; simp

theorem crc16_strict (bs : List Bool) : crc16 bs = crcStrict bs 0xFFFF#16 := (crcStrict_eq bs _).symm

/-! The rest of the checks of R184, after check 1. -/

def laterFault (img : List Byte) : Option FaultReason :=
  ((stationChecks img).tail ++ axisChecks img ++ lineChecks img).findSome? id

theorem firstFault_of_check (img : List Byte) :
    firstFault img = if crc16 (bytesBits (img.take 1022)) == BitVec.ofNat 16 (imageNat img 1022 2) then laterFault img
      else some (1, none) := by
  have h : firstFault img = ([checkOne 1 (crc16 (bytesBits (img.take 1022)) == BitVec.ofNat 16 (imageNat img 1022 2))]
      ++ ((stationChecks img).tail ++ axisChecks img ++ lineChecks img)).findSome? id := rfl
  rw [h]
  generalize (crc16 (bytesBits (img.take 1022)) == BitVec.ofNat 16 (imageNat img 1022 2)) = ok
  cases ok <;> rfl

theorem image_check : crc16 (bytesBits (image.take 1022)) = 0x8BB5#16 := by rw [crc16_strict]; decide +kernel
theorem badRate_check : crc16 (bytesBits (badRate.take 1022)) = 0xA562#16 := by rw [crc16_strict]; decide +kernel
theorem badCheck_check : crc16 (bytesBits (badCheck.take 1022)) = 0x9FF5#16 := by rw [crc16_strict]; decide +kernel

/-- image with a of axis 0 below 1, and with axis 1 a MOTION axis whose soft limits are both 0; each with its right check. -/
def badStep : List Byte := imageBody.set 44 0 ++ [0x94, 0x10]

def badLimits : List Byte := imageBody.set 160 1 ++ [0x92, 0x20]

/-- image with the floor of axis 0 at 16, with its right check. -/
def badFloor : List Byte := imageBody.set 72 16 ++ [0x6D, 0xDB]

theorem badStep_check : crc16 (bytesBits (badStep.take 1022)) = 0x9410#16 := by rw [crc16_strict]; decide +kernel
theorem badLimits_check : crc16 (bytesBits (badLimits.take 1022)) = 0x9220#16 := by rw [crc16_strict]; decide +kernel
theorem badFloor_check : crc16 (bytesBits (badFloor.take 1022)) = 0x6DDB#16 := by rw [crc16_strict]; decide +kernel

theorem image_passes : firstFault image = none := by
  rw [firstFault_of_check, image_check]; decide +kernel

/-- R184: a floor of 16 fails check 13. -/
theorem test_floor_check : firstFault badFloor = some (13, some 0) := by
  rw [firstFault_of_check, badFloor_check]; decide +kernel

/-- A start that has sent its read command. -/
def reading : State := after .configReadStart State.reset

theorem test_meets_LoadEndsInRunReady :
    (reading.inReset = false ∧ reading.cfl.load = .loading ∧ reading.cfl.sent ≠ [] ∧ image.length = 1024
        ∧ reading.stop.state = .stopped ∧ reading.stop.first = some (.powerUp, 0, 0))
      ∧ firstFault image = none := ⟨by decide +kernel, image_passes⟩

theorem test_meets_LoadReadsAndFaults :
    (State.reset.inReset = false ∧ State.reset.cfl.load = .loading ∧ State.reset.cfl.sent = []
      ∧ badRate.length = 1024 ∧ badCheck.length = 1024 ∧ 1 < imageByte badRate 0)
      ∧ (crc16 (bytesBits (badCheck.take 1022))).toNat ≠ imageNat badCheck 1022 2
      ∧ (crc16 (bytesBits (badRate.take 1022))).toNat = imageNat badRate 1022 2
      ∧ firstFault badRate = some (2, none) ∧ firstFault badStep = some (10, some 0)
      ∧ firstFault badLimits = some (9, some 1) := by
  refine ⟨by decide +kernel, ?_, ?_, ?_, ?_, ?_⟩
  · rw [badCheck_check]; decide +kernel
  · rw [badRate_check]; decide +kernel
  · rw [firstFault_of_check, badRate_check]; decide +kernel
  · rw [firstFault_of_check, badStep_check]; decide +kernel
  · rw [firstFault_of_check, badLimits_check]; decide +kernel

/-- R183: the read command and three address bytes of 0. -/
theorem test_read_command : reading.cfl.sent = [0x03, 0, 0, 0] := by decide +kernel

/-- R186: the settings of the image, as log 5 places them, and the link delay at its floor. -/
theorem test_load :
    (imageSettings image).own = 1 ∧ (imageSettings image).liveness = 24 ∧ (imageSettings image).holdLimit = 500
      ∧ (imageSettings image).axes[(0 : AxisNo)].softLow = -100000 ∧ (imageSettings image).axes[(0 : AxisNo)].vmax = 5120
      ∧ (imageSettings image).lines[(1 : LineNo)].group = 1 ∧ (imageSettings image).lines[(1 : LineNo)].published = some 7
      ∧ (beginOperation image reading).axes[(0 : AxisNo)].link.delay = 4
      ∧ (imageSettings image).axes[(0 : AxisNo)].takeable = true ∧ (imageSettings image).axes[(0 : AxisNo)].positionBits = 24
      ∧ (imageSettings image).axes[(0 : AxisNo)].origin = 1000 ∧ (imageSettings image).axes[(0 : AxisNo)].badThreshold = 2
      ∧ (beginOperation image reading).stop.origin = some 1 := by decide +kernel

/-! ## Witnesses and steps: the control period, the profiler, lines and handwheels -/

/-- The take 17 of axis 0 in record, in play and in pre-roll. -/
def recordingTake (due : Bool) : Tkq :=
  { state := .running, mode := some .record, number := 17, mask := 0x02#8, axes := [0], appendDue := due }

def playTake (t hold : Nat) : Tkq :=
  { state := .running, mode := some .play, number := 17, mask := 0x02#8, axes := [0], length := 2, t := t, holdTimer := hold }

/-- A take in play whose axis 0 is marked as lagging. -/
def laggingTake (hold : Nat) : Tkq := { playTake 5 hold with lag := #v[true, false, false, false] }

def prerollTake : Tkq := { playTake 0 0 with state := .preroll, goal := #v[some 5, none, none, none] }

/-- A take record over a store that holds take 17, with the reads of the period made. -/
def nothingDue (q : Tkq) : State := opWith fun s => { s with tkq := q, tks := store17, due := {} }

/-- A station of which nothing is still due, without a take, recording, in play (advancing, holding up to the hold limit of 100,
and holding past it) and in pre-roll. -/
theorem test_meets_BoundaryAdvancesTime :
    (op.operating = true ∧ State.reset.inReset = false ∧ State.reset.cfl.load ≠ .runReady ∧ (held true).inReset = true)
      ∧ (∀ q ∈ [op.tkq, recordingTake false, playTake 5 0, laggingTake 0, laggingTake 99, laggingTake 100, prerollTake], closePeriod (nothingDue q) = nothingDue q
          ∧ (after (.controlPeriodBoundary 0xFFDF) (nothingDue q)).stop.state = .run) := by
  decide +kernel

/-- R186, R57: time and freshness advance; R95: with the drive on, bit 39 of the setpoint word is 1. -/
theorem test_boundary :
    (after (.controlPeriodBoundary 0xFFDF) op).time = 5001
      ∧ (after (.controlPeriodBoundary 0xFFDF) op).axes[(0 : AxisNo)].drive.word = 0x8000000000#40
      ∧ (after (.controlPeriodBoundary 0xFFDF) op).stop.state = .run
      ∧ (after (.controlPeriodBoundary 0xFFDE) op).stop.localMarks = [.estop] := by decide +kernel

/-- R174, R176: a lagging axis holds the take, and its mark clears at half the tolerance of 10; past the hold limit the rest waits
for HOLD_LIMIT; another participant whose estimate is 0 holds the take once its time passes the skew window of 10. -/
theorem test_boundary_holds :
    (after (.controlPeriodBoundary 0xFFDF) (nothingDue (laggingTake 99))).tkq
        = { laggingTake 100 with state := .waiting, goal := #v[some 5, none, none, none], lag := Vector.replicate 4 false }
      ∧ (after (.controlPeriodBoundary 0xFFDF) (nothingDue (laggingTake 100))).tkq = laggingTake 101
      ∧ (after (.controlPeriodBoundary 0xFFDF) (nothingDue { playTake 10 0 with mask := 0x06#8, length := 5 })).tkq.t = 11
      ∧ (after (.controlPeriodBoundary 0xFFDF) (nothingDue { playTake 11 0 with mask := 0x06#8, length := 5 })).tkq.state = .waiting := by
  decide +kernel

/-- R173, R174: a record take asks for an append at each multiple of its period of 10 ms; R83: a read that was not made by the
boundary is a NO-START; R170: an axis at its target makes the pre-roll READY. -/
theorem test_boundary_take :
    (after (.controlPeriodBoundary 0xFFDF) (nothingDue { recordingTake false with t := 9 })).tkq.appendDue = true
      ∧ (after (.controlPeriodBoundary 0xFFDF) (nothingDue { recordingTake false with t := 10 })).tkq.appendDue = false
      ∧ (after (.controlPeriodBoundary 0xFFDF) (nothingDue (playTake 5 0))).tkq.goal[(0 : AxisNo)] = some 5
      ∧ (after (.controlPeriodBoundary 0xFFDF) op).axes[(0 : AxisNo)].link.frameErrors = 1
      ∧ (after (.controlPeriodBoundary 0xFFDF) op).due.reads = #v[true, true, false, false]
      ∧ (after (.controlPeriodBoundary 0xFFDF) (nothingDue { prerollTake with goal := #v[some 0, none, none, none] })).tkq.state
          = .ready := by decide +kernel

/-- A following error at the limit of 400 and one beyond it. -/
def following (e : Int) : State := opWith fun s => { s with
  axes := s.axes.set 0 { s.axes[0] with link := { s.axes[0].link with following := some e } } }

theorem test_meets_BoundaryWritesSetpoints :
    (op.operating = true ∧ op.used 0 = true ∧ op.used 2 = false ∧ ∀ z : ZoneNo, op.zonesOfOwnWord z = false)
      ∧ exec (.controlPeriodBoundary 0xFFDF) op = .next (after (.controlPeriodBoundary 0xFFDF) op)
      ∧ ((following (-401)).axes[(0 : AxisNo)].drive.enable = true ∧ (following (-401)).axes[(0 : AxisNo)].link.state = .locked
        ∧ (following (-401)).axes[(0 : AxisNo)].seeking = false
        ∧ (following (-401)).axes[(0 : AxisNo)].link.following = some (-401) ∧ cfg.axes[(0 : AxisNo)].followLimit = 400) :=
  ⟨by decide +kernel, rfl, by decide +kernel⟩

/-- STOPPING under BRAKE, RESUMING, and a seek, with nothing still due and the timers at n; a STATUS waits in LINE-MUTE. -/
def ticking (s : State) (n : Nat) : State := endEvent { s with
  due := {}
  lif := { s.lif with mute := .lineMute, failures := 16, probeTimer := 199, status := some (statusMsg false), statusAge := n }
  axes := Vector.ofFn fun i => { s.axes[i] with
    brakeTimer := s.axes[i].brakeTimer.map fun _ => n, releaseTimer := s.axes[i].releaseTimer.map fun _ => n } }

/-- A seek whose following error stands at the threshold of 30, or one short of it, after the computation. -/
def seekTick (c : Cal) (measured : Int) (n : Nat) : State := ticking (seeking c n n) 0 |>.modAxis 1 fun a =>
  { a with link := { a.link with measured := some measured } }

def lowSeek : Cal := { state := .seekLow, seekStart := some 0 }
def highSeek : Cal := { state := .seekHigh, low := some 0, seekStart := some 0 }

theorem test_meets_BoundaryWritesSetpoints_timers :
    (∀ n ∈ [0, 4], ∀ s ∈ [ticking braking n, ticking releasing n], closePeriod s = s ∧ s.operating = true
        ∧ s.stop.category ≠ some .cut ∧ s.axes[(0 : AxisNo)].drive.released = false
        ∧ (after (.controlPeriodBoundary 0xFFDF) s).stop.category = s.stop.category
        ∧ (after (.controlPeriodBoundary 0xFFDF) s).stop.state = s.stop.state
        ∧ s.lif.status.isSome = true ∧ s.lif.mute = .lineMute ∧ s.lif.probeTimer < s.cfg.liveness)
      ∧ (∀ n ∈ [0, 19], ∀ s ∈ [seekTick lowSeek 28 n, seekTick highSeek (-28) n, seekTick lowSeek 27 n],
          closePeriod s = s ∧ s.axes[(1 : AxisNo)].seeking = true
          ∧ (after (.controlPeriodBoundary 0xFFDF) s).axes[(1 : AxisNo)].seeking = true) := by decide +kernel

/-- R136: timers count control periods; R15, R22: age and probe timer; R108: at the threshold the stall timer advances. -/
theorem test_boundary_timers :
    (after (.controlPeriodBoundary 0xFFDF) (ticking braking 4)).axes[(0 : AxisNo)].brakeTimer = some 5
      ∧ (after (.controlPeriodBoundary 0xFFDF) (ticking releasing 4)).axes[(0 : AxisNo)].releaseTimer = some 5
      ∧ (after (.controlPeriodBoundary 0xFFDF) (ticking releasing 4)).lif.statusAge = 5
      ∧ (after (.controlPeriodBoundary 0xFFDF) (ticking releasing 4)).lif.probeTimer = 200
      ∧ [seekTick lowSeek 29 19, seekTick lowSeek 28 19, seekTick highSeek (-29) 19, seekTick highSeek (-28) 19].map
          (fun s => (after (.controlPeriodBoundary 0xFFDF) s).axes[(1 : AxisNo)].lens.stall) = [20, 0, 20, 0] := by decide +kernel

/-- R93: 401 counts beside the commanded count are too many, 400 are not; R138: an axis at rest under BRAKE is braked. -/
theorem test_boundary_stops :
    (giveFollow (following (-401))).stop.localMarks = [.follow] ∧ (giveFollow (following 400)).stop.state = .run
      ∧ (after (.controlPeriodBoundary 0xFFDF) ({ op with stop := { op.stop with state := .stopping, category := some .brake } } : State)).axes[(0 : AxisNo)].brakeTimer
          = some 0 := by decide +kernel

theorem test_meets_StoppingBoundIsTheLargest :
    2 ^ 39 ≤ 2 ^ 39 ∧ 65535 ≤ 65535 ∧ stoppingBound (2 ^ 39) 65535 = 268400642 ∧ stoppingBound (2 ^ 39) 1 = 1048575 := by
  decide +kernel

/-- An edge at the end of its range, which p touches. -/
theorem test_meets_EdgesAreNotCrossed :
    let up : ProfilerInput := { approach with goal := .velocity 5120, upEdge := some (2 ^ 30 - 1) }
    let down : ProfilerInput := { approach with goal := .velocity (-5120), downEdge := some (-(2 ^ 30)) }
    up.tracks = false ∧ up.upEdge = some (2 ^ 30 - 1) ∧ (2 ^ 30 - 1 : Int) < 2 ^ 30
      ∧ (up.compute { p := (2 ^ 30 - 1) * 256, v := 300 }).p = (2 ^ 30 - 1) * 256
      ∧ down.downEdge = some (-(2 ^ 30)) ∧ (down.compute { p := -(2 ^ 30) * 256 + 1, v := -300 }).p = -(2 ^ 30) * 256 := by
  decide +kernel

theorem test_meets_DriveOffTracks :
    stopped.used 0 = true ∧ stopped.axes[(0 : AxisNo)].drive.enable = false
      ∧ stopped.axes[(0 : AxisNo)].link.measured = some 0
      ∧ (linked {} {}).axes[(0 : AxisNo)].link.measured = none
      ∧ (after (.estopEdge 0 false) (linked {} {})).stop.category = some .cut := by decide +kernel

theorem test_meets_LensMapStaysInside :
    tableWellFormed [(0, 0), (65535, 65535)] = true ∧ (∀ p ∈ [(0, 0), (65535, 65535)], p.2 ≤ 65535)
      ∧ (0 : Int) + (20 : Nat) ≤ 40 - (20 : Nat) ∧ scaleUnit 0 40 20 (shapeUnit [(0, 0), (65535, 65535)] 65535) = 20 := by
  decide +kernel

/-- An edge that is due (hold = q + 1) and one that is not; samples that differ from the qualified level. -/
theorem test_meets_LinesQualify :
    dueNow.operating = true ∧ dueNow.cfg.lines[(4 : LineNo)].function ≠ .estop
      ∧ dueNow.lines[(4 : LineNo)].hold = dueNow.cfg.lines[(4 : LineNo)].qualTime + 1
      ∧ op.lines[(4 : LineNo)].hold ≠ op.cfg.lines[(4 : LineNo)].qualTime + 1
      ∧ op.lines[(4 : LineNo)].qualified = some true ∧ op.lines[(4 : LineNo)].hold ≤ op.cfg.lines[(4 : LineNo)].qualTime
      ∧ op.cfg.lines[(5 : LineNo)].function = .enable
      ∧ (opWith fun s => { s with lines := s.lines.set 5 { raw := true, qualified := some true } }).lines[(5 : LineNo)].qualified
          = some op.cfg.lines[(5 : LineNo)].activeHigh
      ∧ (opWith fun s => { s with lines := s.lines.set 4 { hold := 1 } }).lines[(4 : LineNo)].qualified = none := by decide +kernel

/-- R39, R41: three milliseconds of qualification count from the first sample that differs; an ENABLE line opens at once. -/
theorem test_sampling :
    let s := opWith fun s => { s with lines := s.lines.set 5 { raw := true, qualified := some true } }
    (after (.controlPeriodBoundary 0xFFCF) s).lines[(4 : LineNo)] = { raw := false, qualified := some true, hold := 1 }
      ∧ (after (.controlPeriodBoundary 0xFFCF) s).lines[(5 : LineNo)] = { raw := false, qualified := some false, latch := true } := by
  decide +kernel

theorem test_meets_EstopActsAtOnce :
    op.operating = true ∧ op.cfg.lines[(0 : LineNo)].function = .estop ∧ op.lines[(0 : LineNo)].qualified ≠ some false
      ∧ op.cfg.lines[(0 : LineNo)].activeHigh = false ∧ op.cfg.estopCategory = .cut ∧ op.stop.category ≠ some .cut := by
  decide +kernel

/-- R40, R139: an ESTOP edge cuts; R96: the drive that was on is sent enable 0. -/
theorem test_estop :
    (after (.estopEdge 0 false) op).stop.category = some .cut ∧ (after (.estopEdge 0 false) op).secured = true
      ∧ (after (.estopEdge 0 false) op).lif.stop.map StopSlot.copies = some 3
      ∧ (after (.estopEdge 0 false) op).axes[(0 : AxisNo)].drive.word = 0#40 := by decide +kernel

/-- A line that has held its active level for q + 1 samples. -/
def edgeOf (k : LineNo) : State := opWith fun s => { s with lines := s.lines.set k { raw := false, qualified := some true, hold := 4 } }

/-- A button on line 6 that has held its active level for q + 1 samples, with a last-ARM record. -/
def buttonOf (f : LineFunction) : State := opWith fun s => { s with
  cfg := { s.cfg with lines := s.cfg.lines.set 6 { function := f, qualTime := 3 } }
  lines := s.lines.set 6 { raw := false, qualified := some true, hold := 4 }
  lastArm := some { record := false, number := 17, mask := 0x06#8, period := none, sender := 2 } }

/-- The same GO-BUTTON without a last-ARM record. -/
def unarmedButton : State := { buttonOf .goButton with lastArm := none }

/-- A CREW-TRIP line of a group that is tripped, at a level that has held for q + 1 samples. -/
def tripped (level : Bool) : State := opWith fun s => { s with
  lines := s.lines.set 1 { raw := level, qualified := some (!level), hold := 4 }, groups := s.groups.set 0 true }

theorem test_meets_StopLinesGiveTheirCauses :
    (∀ k ∈ [1, 2, 3, 4], (edgeOf k).operating = true ∧ (edgeOf k).lines[k].hold = (edgeOf k).cfg.lines[k].qualTime + 1
        ∧ (edgeOf k).lines[k].raw = (edgeOf k).cfg.lines[k].activeHigh)
      ∧ (cfg.lines[(3 : LineNo)].function = .driveFault 0 ∧ cfg.lines[(2 : LineNo)].function = .limit 0 true
        ∧ (edgeOf 2).axes[(0 : AxisNo)].seeking = false ∧ cfg.lines[(4 : LineNo)].function = .stopButton
        ∧ cfg.lines[(1 : LineNo)].function = .crewTrip ∧ (edgeOf 1).groups[cfg.lines[(1 : LineNo)].group] = false)
      ∧ (∀ level, (tripped level).lines[(1 : LineNo)].hold = 4 ∧ (tripped level).groups[cfg.lines[(1 : LineNo)].group] = true)
      ∧ ((buttonOf .goButton).lines[(6 : LineNo)].raw = (buttonOf .goButton).cfg.lines[(6 : LineNo)].activeHigh
        ∧ (buttonOf .goButton).lastArm.map (fun a => (a.number, a.mask)) = some (17, 6)
        ∧ (buttonOf .goButton).lif.cues.length < 4 ∧ (buttonOf .goButton).lif.mute = .off)
      ∧ (unarmedButton.operating = true ∧ unarmedButton.cfg.lines[(6 : LineNo)].function = .goButton
        ∧ unarmedButton.lastArm = none ∧ unarmedButton.lines[(6 : LineNo)].hold = 4
        ∧ unarmedButton.cfg.lines[(6 : LineNo)].qualTime = 3) := by decide +kernel

/-- R44, R97, R137: a drive fault cuts; a stop button holds, and with every axis at rest STOPPED follows at once. -/
theorem test_qualified_edges :
    (after (.qualifiedEdge 3) (edgeOf 3)).stop.category = some .cut
      ∧ (after (.qualifiedEdge 4) (edgeOf 4)).stop.category = some .hold
      ∧ (after (.qualifiedEdge 4) (edgeOf 4)).stop.state = .stopped
      ∧ (after (.qualifiedEdge 1) (edgeOf 1)).groups[(0 : GroupNo)] = true := by decide +kernel

/-- R45: a group untrips when its last member is inactive; R164: the buttons' cues, with the record's mask or the roster. -/
theorem test_groups_and_buttons :
    (after (.qualifiedEdge 1) (tripped true)).groups[(0 : GroupNo)] = false
      ∧ (after (.qualifiedEdge 1) (tripped false)).stop.state = .run
      ∧ (after (.qualifiedEdge 6) (buttonOf .goButton)).lif.cues.map CueSlot.cue
          = [{ kind := .go, seq := 0, number := 17, mask := 6, parameter := 0 }]
      ∧ (after (.qualifiedEdge 6) (buttonOf .haltButton)).lif.cues.map (fun x => x.cue.kind) = [.halt]
      ∧ (after (.qualifiedEdge 6) unarmedButton).lif.cues = [] ∧ (after (.qualifiedEdge 6) unarmedButton).lif.droppedCues = 0
      ∧ (after (.qualifiedEdge 6) (buttonOf .resumeButton)).lif.cues.map (fun x => (x.cue.number, x.cue.mask)) = [(0, 6)] := by
  decide +kernel

/-- R60: one phase changes; both change at once. The direction is a free value, so only the size is tested. -/
theorem test_meets_HandwheelCounts :
    op.inReset = false ∧ quadrature false false true true = 0 ∧ after (.handwheelCount 0 false false) op = op := by
  decide +kernel

theorem test_meets_DemandPeriodMakesDemands :
    dueNow.calm ∧ dueNow.due.demand = true ∧ dueNow.cfg.wheels[(2 : WheelNo)].target = none
      ∧ dueNow.cfg.wheels[(0 : WheelNo)].target = some (2, 0) ∧ dueNow.cfg.wheels[(0 : WheelNo)].lens = false
      ∧ dueNow.cfg.wheels[(1 : WheelNo)].lens = true ∧ dueNow.lif.mute = .off ∧ muted.lif.mute ≠ .off :=
  ⟨dueNow_calm, by decide +kernel⟩

/-- R61 to R63: a count of 12 with gain 100 makes 1200 with sequence 0, and the count returns to 0. -/
theorem test_demand_period :
    let s := { dueNow with wheels := dueNow.wheels.set 0 { count := 12 } }
    (after .demandPeriodBoundary s).lif.demand[(0 : Fin 4)] =
        some { station := 2, axis := 0, lens := false, seq := 0, value := 1200 }
      ∧ (after .demandPeriodBoundary s).wheels[(0 : WheelNo)].count = 0
      ∧ (after .demandPeriodBoundary s).wheels[(0 : WheelNo)].seq = 1 := by decide +kernel

/-- R60 to R63: the phases that a mapped wheel holds stay. -/
theorem test_demand_period_keeps_phases :
    let s := { dueNow with wheels := dueNow.wheels.set 0 { phaseA := true, count := 12, seq := 15 } }
    (after .demandPeriodBoundary s).wheels[(0 : WheelNo)] = { phaseA := true } := by decide +kernel

theorem test_meets_StatusPeriodComposes : dueNow.calm ∧ dueNow.due.status = true := ⟨dueNow_calm, by decide +kernel⟩

/-- R32, R33: at time 5101 the start flag is clear, and every encoder is locked. -/
theorem test_status_period :
    (after .statusPeriod dueNow).lif.status.map StatusMsg.startFlag = some false
      ∧ (after .statusPeriod dueNow).lif.status.map StatusMsg.encodersLocked = some true
      ∧ (after .statusPeriod dueNow).lif.statusAge = 101 := by decide +kernel

theorem test_meets_AxisPeriodComposes :
    dueNow.calm ∧ dueNow.due.axis = true ∧ dueNow.cfg.axes[(2 : AxisNo)].kind = .unused
      ∧ dueNow.axes[(0 : AxisNo)].link.state = .locked ∧ dueNow.axes[(0 : AxisNo)].link.measured = some 0
      ∧ dueNow.axes[(0 : AxisNo)].prevPos = none := ⟨dueNow_calm, by decide +kernel⟩

/-- R38: 45 counts backwards in 8 ms are -5 counts per ms, rounded toward zero. -/
theorem test_axis_period :
    let s := { dueNow with axes := dueNow.axes.set 0 { dueNow.axes[0] with prevPos := some 45 } }
    (after .axisPeriod s).lif.axis[(0 : Fin 4)].map AxisMsg.velocity = some (-5)
      ∧ (after .axisPeriod s).lif.axis[(2 : Fin 4)] = none := by decide +kernel

/-! ## Witnesses and steps: the crane line -/

/-- In LINE-MUTE with a probe due; the STATUS slot holds the content of the last STATUS, or is empty. -/
def probeReady (placed : Bool) : State := opWith fun s => { s with lif := { s.lif with
  mute := .lineMute, failures := 16, probeDue := true, lastPlaced := some (statusMsg false)
  status := if placed then some (statusMsg false) else none } }

/-- A probe on the line. -/
def probe : TxFrame := { slot := .probe, cls := 5, index := 0, payload := statusPayload (statusMsg false), renewed := false }

def probing : State := opWith fun s => { s with lif := { s.lif with
  mute := .lineMute, failures := 16, onLine := some probe, status := some (statusMsg false) } }

theorem probing_calm : probing.calm := (calm_iff _).mpr (by decide +kernel)

theorem test_meets_LowestIdentifierBegins :
    queued.operating = true ∧ queued.lif.mute = .off ∧ queued.lif.onLine = none
      ∧ queued.lif.pendingIds 1 = [4, 164, 68, 103, 132] ∧ op.lif.pendingIds 1 = []
      ∧ (sending 0).lif.onLine ≠ none ∧ muted.lif.probeDue = false ∧ muteForGood.lif.mute = .permanent
      ∧ (∀ placed, (probeReady placed).lif.mute = .lineMute ∧ (probeReady placed).lif.onLine = none
        ∧ (probeReady placed).lif.probeDue = true ∧ (probeReady placed).operating = true)
      ∧ (probeReady true).lif.status = some (statusMsg false) ∧ (probeReady false).lif.status = none
      ∧ (probeReady false).lif.lastPlaced = some (statusMsg false) := by decide +kernel

/-- R14, R16: the STOP copy goes first, and only it after 3 idle cells; below 3 nothing begins. -/
theorem test_frame_start :
    ((after (.frameStart 6) queued).lif.onLine.map TxFrame.payload) = some [0xC1, 0x21, 0x01]
      ∧ ((after (.frameStart 3) queued).lif.onLine.map TxFrame.slot) = some .stop
      ∧ (after (.frameStart 2) queued).lif.onLine = none ∧ (after (.frameStart 6) op).lif.onLine = none := by decide +kernel

/-- R22: the probe goes out with the last STATUS placed, and its acknowledge ends the mute. R2: a start cell ends the idle count. -/
theorem test_probe :
    (after (.frameStart 6) (probeReady false)).lif.onLine = some probe ∧ (after (.frameStart 5) (probeReady false)).lif.onLine = none
      ∧ (after (.frameStart 6) muteForGood).lif.onLine = none ∧ (after (.frameStart 6) queued).lif.idle = 0
      ∧ (after (.attemptEnd ((frameCells 1 probe).dropLast ++ [false])) probing).lif.mute = .off
      ∧ (after (.attemptEnd (frameCells 1 probe)) probing).lif.mute = .lineMute := by decide +kernel

/-- The own frame of a RESUME, and of a DEMAND, on the line. -/
def resumeOnLine : TxFrame := { cueOnLine with payload := cuePayload (cueMsg .resume 0 0) }
def demandOnLine : TxFrame :=
  { slot := .demand 3, cls := 3, index := 3, payload := demandPayload (demandMsg 0 false 0), renewed := false }

/-- A station with a frame of its own on the line, the head of its cues with attempts used. -/
def onLineOf (f : TxFrame) (attempts : Nat) (s : State) : State :=
  endEvent { s with lif := { s.lif with onLine := some f, cues := [{ cue := cueMsg .resume 0 0, attempts := attempts }] } }

theorem resumeOnLine_calm : (onLineOf resumeOnLine 2 stopped).calm := (calm_iff _).mpr (by decide +kernel)
theorem demandOnLine_calm : (onLineOf demandOnLine 0 op).calm := (calm_iff _).mpr (by decide +kernel)

/-- An own RESUME at its third attempt and an own DEMAND, handed back when acknowledged. -/
theorem test_meets_AttemptOutcomesAreCounted_handed :
    ((onLineOf resumeOnLine 2 stopped).calm ∧ (onLineOf demandOnLine 0 op).calm)
      ∧ (onLineOf resumeOnLine 2 stopped).noOwnGates
      ∧ parseCue resumeOnLine.payload = some (cueMsg .resume 0 0) ∧ (cueWire .resume 0 0).sender ≠ 1
      ∧ ({ cueWire .resume 0 0 with sender := 1 } : Wire).sender = (onLineOf resumeOnLine 2 stopped).cfg.own
      ∧ (onLineOf resumeOnLine 2 stopped).peers[(1 : StationNo)].cueSeq ≠ some (cueMsg .resume 0 0).seq
      ∧ names (cueMsg .resume 0 0).mask 1 = true ∧ (onLineOf resumeOnLine 2 stopped).stop.state = .stopped
      ∧ (onLineOf resumeOnLine 2 stopped).lif.onLine = some resumeOnLine ∧ resumeOnLine.slot = .cue
      ∧ (onLineOf resumeOnLine 2 stopped).lif.failures < 15 ∧ (frameCells 1 resumeOnLine)[2]? = some true :=
  ⟨⟨resumeOnLine_calm, demandOnLine_calm⟩, by unfold State.noOwnGates; decide +kernel, by decide +kernel⟩

/-- R10: an own RESUME acts when it is acknowledged, and not when it is not; R17: its third failure is CUE-FAIL. -/
theorem test_hand_back :
    (after (.attemptEnd ((frameCells 1 resumeOnLine).dropLast ++ [false])) (onLineOf resumeOnLine 2 stopped)).stop.state = .resuming
      ∧ (after (.attemptEnd (frameCells 1 resumeOnLine)) (onLineOf resumeOnLine 2 stopped)).stop.state = .stopped
      ∧ (after (.attemptEnd (frameCells 1 resumeOnLine)) (onLineOf resumeOnLine 2 stopped)).svp.flags.getLsbD flagCueFail = true
      ∧ (after (.attemptEnd (frameCells 1 resumeOnLine)) (onLineOf resumeOnLine 1 stopped)).svp.flags.getLsbD flagCueFail = false
      ∧ (after (.attemptEnd ((frameCells 1 demandOnLine).dropLast ++ [false])) (onLineOf demandOnLine 0 op)).peers[(1 : StationNo)].demandSeq[3]
          = some (demandMsg 0 false 0).seq := by decide +kernel

theorem not_accepted {s : State} {cells : List Bool} {f : TxFrame} (hf : s.lif.onLine = some f)
    (h : (readBack 0 (frameCells s.cfg.own f) cells ≠ some .acked ∨ f.cls ≠ 2)
      ∧ readBack 0 (frameCells s.cfg.own f) cells ≠ some .bitError) : ¬ s.acceptsResume (.attemptEnd cells) := by
  rintro (⟨w, hw, -⟩ | ⟨cells', f', hc, hf', hr⟩)
  · cases hw
  · cases hc; rw [hf] at hf'; cases hf'
    rcases hr with ⟨ha, hr, -⟩ | ⟨hb, -, -⟩
    · exact h.1.elim (fun k => k ha) (fun k => k hr.1)
    · exact h.2 hb

/-- STOPPED, with a command in front: an own DEMAND ends ACKED, an own RESUME ends UNACKED, a RESUME comes that ESTOP blocks. -/
theorem test_meets_StopsStaySafe :
    ((onLineOf demandOnLine 0 stopped).stopAgrees
        ∧ ¬ (onLineOf demandOnLine 0 stopped).acceptsResume (.attemptEnd ((frameCells 1 demandOnLine).dropLast ++ [false])))
      ∧ ((onLineOf resumeOnLine 0 stopped).stopAgrees
        ∧ ¬ (onLineOf resumeOnLine 0 stopped).acceptsResume (.attemptEnd (frameCells 1 resumeOnLine)))
      ∧ (blockedStop.stopAgrees ∧ ¬ blockedStop.acceptsResume (.resume (cueWire .resume 0 0))
        ∧ step { blockedStop with pending := [.resume (cueWire .resume 0 0)] }
          = .next (after (.resume (cueWire .resume 0 0)) blockedStop)
        ∧ (after (.resume (cueWire .resume 0 0)) blockedStop).stop.category = some .brake) := by
  refine ⟨⟨?_, not_accepted (f := demandOnLine) (by decide +kernel) (by decide +kernel)⟩,
    ⟨?_, not_accepted (f := resumeOnLine) (by decide +kernel) (by decide +kernel)⟩, ?_, ?_, rfl, by decide +kernel⟩
  · unfold State.stopAgrees; decide +kernel
  · unfold State.stopAgrees; decide +kernel
  · unfold State.stopAgrees; decide +kernel
  · rintro (⟨w, -, -, h⟩ | ⟨_, _, h, -⟩)
    · exact h .estop (by unfold State.persistsBy State.clear; decide +kernel)
    · cases h

theorem test_meets_AttemptOutcomesAreCounted :
    (sending 14).operating = true ∧ (sending 14).lif.onLine = some cueOnLine ∧ (sending 14).lif.failures < 15
      ∧ (frameCells 1 cueOnLine)[2]? = some true ∧ (frameCells 1 cueOnLine)[0]? = some false
      ∧ (frameCells 1 cueOnLine)[9]? = some false ∧ (frameCells 1 cueOnLine).length = 70
      ∧ probing.operating = true ∧ probing.lif.onLine = some probe ∧ probing.lif.mute = .lineMute := by decide +kernel

/-- R8, R17: an unacknowledged cue keeps its place; an acknowledged one leaves the FIFO; a lost one counts as lost. -/
theorem test_attempt_end :
    (after (.attemptEnd (frameCells 1 cueOnLine)) (sending 0)).lif.cues.map CueSlot.attempts = [1]
      ∧ (after (.attemptEnd ((frameCells 1 cueOnLine).dropLast ++ [false])) (sending 0)).lif.cues = []
      ∧ (after (.attemptEnd ((frameCells 1 cueOnLine).take 2 ++ [false])) (sending 0)).lif.arbitrationLosses = 1 := by
  decide +kernel

theorem test_meets_AttemptRuleOfEachSlot :
    (queued.lif.stop.map StopSlot.copies = some 2) ∧ cueOnLine.renewed = false ∧ cueOnLine.slot = .cue
      ∧ queued.lif.cues = { cue := cueMsg .go 17 0, attempts := 0 } :: []
      ∧ probe.renewed = false ∧ probe.slot = .probe ∧ ({ probe with renewed := true } : TxFrame).renewed = true := by decide +kernel

theorem test_meets_SixteenFailuresMute :
    (sending 15).operating = true ∧ (sending 15).lif.onLine = some cueOnLine ∧ (sending 15).lif.failures = 15
      ∧ (sending 15).lif.mute = .off ∧ (sending 15).lif.cues ≠ [] ∧ cueOnLine.payload.length ≤ 8
      ∧ (frameCells 1 cueOnLine)[9]? = some false ∧ 9 + 1 < (frameCells 1 cueOnLine).length
      ∧ (after (.attemptEnd ((frameCells 1 cueOnLine).take 9 ++ [true])) (sending 15)).lif.mute = .lineMute := by decide +kernel

theorem test_meets_LineTimersAct :
    (muted.calm ∧ muted.lif.mute = .lineMute ∧ muted.cfg.liveness ≤ muted.lif.probeTimer)
      ∧ (op.calm ∧ op.lif.mute ≠ .lineMute ∧ op.lif.status = none ∧ op.due.window = false)
      ∧ (dueNow.calm ∧ dueNow.lif.status.isSome = true ∧ dueNow.lif.statusUrgent = false
        ∧ dueNow.cfg.liveness < 2 * dueNow.lif.statusAge ∧ dueNow.due.window = true) :=
  ⟨⟨muted_calm, by decide +kernel⟩, ⟨op_calm, by decide +kernel⟩, ⟨dueNow_calm, by decide +kernel⟩⟩

/-- R15, R20, R22 at their bounds. -/
theorem test_line_timers :
    (after .probeDue muted).lif.probeDue = true ∧ (after .probeDue muted).lif.probeTimer = 0
      ∧ (after .statusEscalation dueNow).lif.statusUrgent = true
      ∧ (after .checkWindowEnd { dueNow with lif := { dueNow.lif with windowCount := 3 } }).lif.windowCount = 0 := by
  decide +kernel

/-- op with a check failure threshold of 1. -/
def alarmed : State := opWith fun s => { s with cfg := { s.cfg with checkThreshold := 1 } }

theorem alarmed_calm : alarmed.calm := (calm_iff _).mpr (by decide +kernel)

/-- Frames that R9 discards: too long, with an idle cell, with a wrong check, of class 7, of a wrong length, with an index. -/
theorem test_meets_DiscardedFramesOnlyCount :
    op.calm ∧ 8 < ({ stopWire 0 with length := 9 } : Wire).length.val ∧ ({ stopWire 0 with idleInside := true } : Wire).idleInside = true
      ∧ op.cfg.checkThreshold = 0
      ∧ lineCheck 0 2 0 3 (stopWire 0).payload ≠ (stopWire 0).check + 1
      ∧ lineCheck 7 2 0 0 [] = (wire 7 []).check ∧ classLength 3 ≠ some (wire 3 [1]).length.val
      ∧ lineCheck 3 2 0 1 [1] = (wire 3 [1]).check
      ∧ lineCheck 0 2 1 3 (stopWire 0).payload
          = ({ stopWire 0 with index := 1, check := lineCheck 0 2 1 3 (stopWire 0).payload } : Wire).check
      ∧ alarmed.calm ∧ alarmed.cfg.checkThreshold = 1 ∧ lineCheck 2 2 0 5 [1, 9, 17, 2, 3] = (wire 2 [1, 9, 17, 2, 3]).check :=
  by refine ⟨op_calm, ?_⟩; simp only [alarmed_calm, true_and]; decide +kernel

theorem test_discarded_frames :
    (after (.unknownClass true (wire 7 [])) op).lif.unknownClass = 1 ∧ (after (.unknownClass true (wire 7 [])) op).lif.ackDriven = true
      ∧ (after (.demandFrame (wire 3 [1])) op).lif.formatErrors = 1
      ∧ (after (.stopFrame { stopWire 0 with check := (stopWire 0).check + 1 }) op).lif.checkFailures = 1
      ∧ (after (.stopFrame { stopWire 0 with check := (stopWire 0).check + 1 }) alarmed).svp.flags.getLsbD flagCounterAlert = true
      ∧ (after (.armRecord (wire 2 [1, 9, 17, 2, 3])) op).lif.formatErrors = 1 := by decide +kernel

/-- op, once it has seen the STOP of stopMsg. -/
def seenStop : State := opWith fun s => { s with stopSeen := s.stopSeen.set 2 (some 7) }

theorem seenStop_calm : seenStop.calm := (calm_iff _).mpr (by decide +kernel)

/-- A seek in progress. -/
def seekingHigh : State := seeking { state := .seekHigh, low := some 0, seekStart := some 0 } 20 19

theorem seekingHigh_calm : seekingHigh.calm := (calm_iff _).mpr (by decide +kernel)

/-- R112: a STOP frame that begins a stop cancels the seek of axis 1. -/
theorem test_meets_StopFramesStop_seek :
    seekingHigh.hears { cls := 0, wire := stopWire 0 } ∧ seekingHigh.axes[(1 : AxisNo)].seeking = true
      ∧ seekingHigh.stop.state = .run ∧ (after (.stopFrame (stopWire 0)) seekingHigh).axes[(1 : AxisNo)].lens.cal = {}
      ∧ (after (.stopFrame (stopWire 0)) seekingHigh).svp.flags.getLsbD flagCalDone = true :=
  ⟨⟨seekingHigh_calm, by decide +kernel⟩, by decide +kernel⟩

theorem test_meets_StopFramesStop :
    op.hears { cls := 0, wire := stopWire 0 } ∧ armedRec.hears { cls := 0, wire := stopWire 0 }
      ∧ seenStop.hears { cls := 0, wire := stopWire 1 } ∧ stopped.hears { cls := 0, wire := stopWire 0 }
      ∧ parseStop (stopWire 0).payload = some (stopMsg 0) ∧ (stopMsg 0).copy = 0
      ∧ op.stop.state = .run ∧ op.tkq.state = .idle ∧ armedRec.tkq.state ≠ .idle
      ∧ parseStop (stopWire 1).payload = some (stopMsg 1) ∧ (stopMsg 1).copy ≠ 0
      ∧ seenStop.stopSeen[(2 : StationNo)] = some 7 ∧ stopped.stop.state = .stopped :=
  ⟨⟨op_calm, by decide +kernel⟩, ⟨armedRec_calm, by decide +kernel⟩, ⟨seenStop_calm, by decide +kernel⟩,
    ⟨stopped_calm, by decide +kernel⟩, by decide +kernel⟩

/-- R135, R180: a received stop takes its category and cause, and aborts an armed take. -/
theorem test_stop_frame :
    (after (.stopFrame (stopWire 0)) armedRec).stop.remoteMarks = [.operator]
      ∧ (after (.stopFrame (stopWire 0)) armedRec).stop.category = some .hold
      ∧ (after (.stopFrame (stopWire 0)) armedRec).tkq.state = .aborted
      ∧ (after (.stopFrame (stopWire 0)) armedRec).stop.seq = 0
      ∧ (after (.stopFrame (stopWire 1)) seenStop).stop.state = .run := by decide +kernel

/-- op with the entry of station 2 replaced. -/
def peerAs (e : PeerEntry) : State := opWith fun s => { s with peers := s.peers.set 2 e }

theorem peerAs_absent_calm : (peerAs {}).calm := (calm_iff _).mpr (by decide +kernel)
theorem peerAs_joining_calm : (peerAs { presence := .joining, count := 2, arrival := 4800 }).calm :=
  (calm_iff _).mpr (by decide +kernel)
theorem peerAs_lost_calm : (peerAs { presence := .lost }).calm := (calm_iff _).mpr (by decide +kernel)

/-- Each presence that a STATUS can find, with a JOINING peer silent for exactly the liveness timeout. -/
theorem test_meets_StatusFramesMovePresence :
    op.hears { cls := 5, wire := statusWire true } ∧ (peerAs {}).hears { cls := 5, wire := statusWire false }
      ∧ (peerAs { presence := .lost }).hears { cls := 5, wire := statusWire false }
      ∧ (peerAs { presence := .joining, count := 2, arrival := 4800 }).hears { cls := 5, wire := statusWire false }
      ∧ parseStatus (statusWire true).payload = some (statusMsg true)
      ∧ op.peers[(2 : StationNo)].presence = .present ∧ op.peers[(2 : StationNo)].marker = false
      ∧ names op.cfg.roster 2 = true ∧ parseStatus (statusWire false).payload = some (statusMsg false)
      ∧ (5000 - 4800 : Nat) ≤ op.cfg.liveness :=
  ⟨⟨op_calm, by decide +kernel⟩, ⟨peerAs_absent_calm, by decide +kernel⟩, ⟨peerAs_lost_calm, by decide +kernel⟩,
    ⟨peerAs_joining_calm, by decide +kernel⟩, by decide +kernel⟩

/-- R29, R30: the third STATUS makes a peer PRESENT; a start flag in PRESENT is a restart, which stops a roster peer's
station with the peer loss category. -/
theorem test_status_frame :
    (after (.statusFrame false (statusWire false)) (peerAs { presence := .joining, count := 2, arrival := 4800 })).peers[(2 : StationNo)].presence
        = .present
      ∧ (after (.statusFrame false (statusWire true)) op).peers[(2 : StationNo)].presence = .joining
      ∧ (after (.statusFrame false (statusWire true)) op).stop.localMarks = [.peerRestart]
      ∧ (after (.statusFrame false (statusWire true)) op).stop.category = some .brake := by decide +kernel

/-- A take with station 2 as other participant, in a station without zones. -/
def shared (q : Tkq) : State := opWith fun s => { s with
  cfg := { s.cfg with zones := Vector.replicate 8 {} }, tkq := { q with number := 17, mask := 0x06#8, axes := [0] }, tks := recording17 }

/-- A STATUS of station 2 that shows a take state with number 17. -/
def takeStatus (t : TakeState) : StatusMsg := { statusMsg false with take := t, number := 17 }

def takeWire (t : TakeState) : Wire := wire 5 (statusPayload (takeStatus t))

theorem shared_calm : (shared { state := .armed, mode := some .record }).calm := (calm_iff _).mpr (by decide +kernel)
theorem shared_calm' : (shared { state := .running, mode := some .record }).calm := (calm_iff _).mpr (by decide +kernel)

theorem test_meets_StatusFramesMovePresence_take :
    ((shared { state := .armed, mode := some .record }).hears { cls := 5, wire := takeWire .refused }
        ∧ (shared { state := .running, mode := some .record }).hears { cls := 5, wire := takeWire .aborted })
      ∧ (parseStatus (takeWire .refused).payload = some (takeStatus .refused)
        ∧ parseStatus (takeWire .aborted).payload = some (takeStatus .aborted) ∧ names 0x06#8 2 = true
        ∧ (∀ z : ZoneNo, (shared {}).zonesOfOwnWord z = false ∧ (shared {}).cfg.zones[z].gateLine.map Prod.fst ≠ some 2
          ∧ (shared {}).cfg.zones[z].qualifier.map Qualifier.station ≠ some 2)) :=
  ⟨⟨⟨shared_calm, by decide +kernel⟩, ⟨shared_calm', by decide +kernel⟩⟩, by decide +kernel⟩

/-- R171, R177: REFUSED ends an armed take and not one that runs; ABORTED aborts one that runs, and its recording is truncated. -/
theorem test_status_take :
    (after (.statusFrame false (takeWire .refused)) (shared { state := .armed, mode := some .record })).tkq.state = .idle
      ∧ (after (.statusFrame false (takeWire .refused)) (shared { state := .running, mode := some .record })).tkq.state = .running
      ∧ (after (.statusFrame false (takeWire .aborted)) (shared { state := .running, mode := some .record })).tkq.abortKind
          = some .withoutStop
      ∧ (after (.statusFrame false (takeWire .aborted)) (shared { state := .running, mode := some .record })).tks.dir[(0 : EntryNo)].state
          = .truncated := by decide +kernel

/-- op with the sequence 3 heard last, so that a DEMAND with 3 is a gap; and with station 2 silent. -/
def heard3 : State := peerAs { peer with demandSeq := Vector.replicate 4 (some 3) }

theorem heard3_calm : heard3.calm := (calm_iff _).mpr (by decide +kernel)

/-- A DEMAND at the deadband, one above it, one for the LENS axis, one of a wrong kind; absent and present senders. -/
theorem test_meets_DemandFramesAreJudged :
    op.hears { cls := 3, wire := demandWire 256 false 0 } ∧ heard3.hears { cls := 3, wire := demandWire 256 false 0 }
      ∧ (peerAs {}).hears { cls := 3, wire := demandWire 256 false 0 }
      ∧ demandMsg 256 false 0 = parseDemand (demandWire 256 false 0).payload
      ∧ demandMsg 257 false 0 = parseDemand (demandWire 257 false 0).payload
      ∧ demandMsg 65536 true 1 = parseDemand (demandWire 65536 true 1).payload
      ∧ demandMsg 0 true 0 = parseDemand (demandWire 0 true 0).payload
      ∧ op.peers[(2 : StationNo)].demandSeq[(0 : Fin 4)] = none ∧ heard3.peers[(2 : StationNo)].demandSeq[(0 : Fin 4)] = some 3
      ∧ op.cfg.axes[(0 : AxisNo)].liveSource = some 2 ∧ op.present 2 = true ∧ op.enableOpen 0 = false
      ∧ op.cfg.axes[(0 : AxisNo)].deadband = 256 ∧ op.axes[(0 : AxisNo)].dsl.latch = true ∧ (peerAs {}).present 2 = false :=
  ⟨⟨op_calm, by decide +kernel⟩, ⟨heard3_calm, by decide +kernel⟩, ⟨peerAs_absent_calm, by decide +kernel⟩, by decide +kernel⟩

/-- op with the enable line of axis 0 at a slot of station 2 that reads 0, and no live source for axis 1. -/
def gripOpen : State := opWith fun s => { s with
  cfg := { s.cfg with
    axes := (s.cfg.axes.set 0 { s.cfg.axes[0] with enableLine := some (2, 3) }).set 1 { s.cfg.axes[1] with liveSource := none } } }

theorem gripOpen_calm : gripOpen.calm := (calm_iff _).mpr (by decide +kernel)

theorem test_meets_DemandFramesAreJudged_closed :
    gripOpen.hears { cls := 3, wire := demandWire 256 false 0 } ∧ gripOpen.enableOpen 0 = true
      ∧ gripOpen.hears { cls := 3, wire := demandWire 0 true 1 } ∧ gripOpen.cfg.axes[(1 : AxisNo)].liveSource ≠ some 2
      ∧ op.hears { cls := 3, wire := wire 3 (demandPayload { demandMsg 0 false 0 with station := 2 }) } :=
  ⟨⟨gripOpen_calm, by decide +kernel⟩, by decide +kernel, ⟨gripOpen_calm, by decide +kernel⟩, by decide +kernel,
    ⟨op_calm, by decide +kernel⟩⟩

/-- 3.6: a DEMAND of 7680 is clamped to vmax and leaves the latch set; one of 0 opens the gate. -/
theorem test_demand_frame :
    (after (.demandFrame (demandWire 7680 false 0)) op).axes[(0 : AxisNo)].dsl.liveVel = 5120
      ∧ (after (.demandFrame (demandWire 7680 false 0)) op).axes[(0 : AxisNo)].dsl.gate = .zeroWait
      ∧ (after (.demandFrame (demandWire 0 false 0)) op).axes[(0 : AxisNo)].dsl.gate = .opened
      ∧ (after (.demandFrame (demandWire 0 true 0)) op).mismatched = 1
      ∧ (after (.demandFrame (demandWire 256 false 0)) heard3).peers[(2 : StationNo)].gaps[(0 : Fin 4)] = 1 := by decide +kernel

theorem test_meets_AxisFramesUpdateReports :
    op.hears { cls := 4, wire := axisWire } ∧ axisMsg = parseAxis axisWire.payload ∧ op.cfg.zones[(0 : ZoneNo)].inUse = true
      ∧ op.cfg.zones[(0 : ZoneNo)].qualifier = some { station := 2, axis := 0, qlo := 0, qhi := 50 } ∧ op.present 2 = true
      ∧ (peerAs {}).present 2 = false :=
  ⟨⟨op_calm, by decide +kernel⟩, by decide +kernel⟩

/-- R115: the end of the range, 50, is inside it. -/
theorem test_axis_frame :
    (after (.axisFrame axisWire) op).zones[(0 : ZoneNo)].qualifier = .inside
      ∧ (after (.axisFrame axisWire) op).peers[(2 : StationNo)].reports[(0 : Fin 4)].arrival = some 5000 := by decide +kernel

/-- A zone that its qualifier keeps inactive, with the guarded axis at a position. -/
def waiting (x : Int) : State := opWith fun s => { s with
  peers := s.peers.set 2 { s.peers[2] with reports := s.peers[2].reports.set 0 { valid := true, position := 60, arrival := some 4950 } }
  zones := s.zones.set 0 { qualifier := .outside }
  axes := s.axes.set 0 { s.axes[0] with link := { s.axes[0].link with measured := some x } } }

theorem waiting_calm : (waiting 550).calm := (calm_iff _).mpr (by decide +kernel)

theorem test_meets_AxisFramesUpdateReports_breach :
    (waiting 550).hears { cls := 4, wire := axisWire } ∧ cfg.zones[(0 : ZoneNo)].gateLine = none
      ∧ (waiting 550).zones[(0 : ZoneNo)].active = false ∧ (waiting 550).zones[(0 : ZoneNo)].breached = false
      ∧ (waiting 550).axes[cfg.zones[(0 : ZoneNo)].axis].link.state = .locked
      ∧ (waiting 550).axes[cfg.zones[(0 : ZoneNo)].axis].link.measured = some 550 := ⟨⟨waiting_calm, by decide +kernel⟩, by decide +kernel⟩

/-- R119, R120: the zone 500 to 600 that becomes active is breached at 501 and not at its end. -/
theorem test_zone_breach :
    (after (.axisFrame axisWire) (waiting 501)).stop.localMarks = [.zoneBreach]
      ∧ (after (.axisFrame axisWire) (waiting 501)).stop.category = some .brake
      ∧ (after (.axisFrame axisWire) (waiting 500)).zones[(0 : ZoneNo)] = { qualifier := .inside, active := true } := by decide +kernel

/-- The STATUS of another station 1. -/
def twin : Frame :=
  { cls := 5, wire := { statusWire false with sender := 1, check := lineCheck 5 1 0 8 (statusWire false).payload } }

theorem test_meets_DuplicateMutesForGood :
    op.calm ∧ frameOf (.statusFrame false twin.wire) = some twin ∧ twin.judge (some op.cfg.own) = .duplicate
      ∧ op.lif.mute ≠ .permanent ∧ muteForGood.calm ∧ muteForGood.lif.mute = .permanent :=
  ⟨op_calm, by decide +kernel, by decide +kernel, by decide +kernel, muteForGood_calm, by decide +kernel⟩

theorem test_duplicate :
    (after (.statusFrame false twin.wire) op).lif.mute = .permanent
      ∧ (after (.statusFrame false twin.wire) op).stop.localMarks = [.duplicate]
      ∧ (after (.statusFrame false twin.wire) op).stop.category = some .cut := by decide +kernel

/-! ## Witnesses and steps: cues -/

/-- op, once it has heard the cue of cueMsg. -/
def heardCueAlready : State := peerAs { peer with cueSeq := some 9 }

theorem heardCueAlready_calm : heardCueAlready.calm := (calm_iff _).mpr (by decide +kernel)

theorem test_meets_RepeatsAreOnlyRecorded :
    heardCueAlready.hears { cls := 2, wire := cueWire .go 17 0 } ∧ cueRow (.go (cueWire .go 17 0)) (cueWire .go 17 0) (cueMsg .go 17 0)
      ∧ heardCueAlready.peers[(2 : StationNo)].cueSeq = some 9 ∧ names 0x04#8 op.cfg.own.val = false :=
  ⟨⟨heardCueAlready_calm, by decide +kernel⟩, rowOf_row (by decide +kernel), by decide +kernel, by decide +kernel⟩

/-- A store whose sixteen entries are taken; one where take 17 stands. -/
def fullDir : Tks := { dir := Vector.ofFn fun i => { number := BitVec.ofNat 8 (100 + i.val), state := .complete } }

theorem armedRec_hears : armedRec.hearsCue (.armRecord (cueWire .armRecord 17 1)) (cueWire .armRecord 17 1) (cueMsg .armRecord 17 1) :=
  hearsCue_of (k := .armRecord) armedRec_calm (by decide +kernel)

theorem test_meets_ArmRecordArmsOrRefuses :
    armedRec.hearsCue (.armRecord (cueWire .armRecord 17 1)) (cueWire .armRecord 17 1) (cueMsg .armRecord 17 1)
      ∧ armedRec.tkq.state = .armed
      ∧ op.hearsCue (.armRecord (cueWire .armRecord 250 2)) (cueWire .armRecord 250 2) (cueMsg .armRecord 250 2)
      ∧ op.tkq.state = .idle ∧ op.refusesArm (cueMsg .armRecord 250 2) = none
      ∧ op.refusesArm (cueMsg .armRecord 251 2) = some .badNumber
      ∧ stopped.hearsCue (.armRecord (cueWire .armRecord 17 1)) (cueWire .armRecord 17 1) (cueMsg .armRecord 17 1)
      ∧ stopped.refusesArm (cueMsg .armRecord 17 1) = some .stopped := by
  refine ⟨armedRec_hears, by decide +kernel, hearsCue_of (k := .armRecord) op_calm (by decide +kernel), by decide +kernel, ?_, ?_,
    hearsCue_of (k := .armRecord) stopped_calm (by decide +kernel), ?_⟩ <;> unfold State.refusesArm <;> decide +kernel

/-- R167, R168: armed with a period of 20 ms over the takeable axis; refused for its number, the directory, and a take that
exists. -/
theorem test_arm_record :
    (after (.armRecord (cueWire .armRecord 250 2)) op).tkq.state = .armed
      ∧ (after (.armRecord (cueWire .armRecord 250 2)) op).tkq.period = 20
      ∧ (after (.armRecord (cueWire .armRecord 250 2)) op).tkq.axes = [0]
      ∧ (after (.armRecord (cueWire .armRecord 251 2)) op).tkq.reason = some .badNumber
      ∧ (after (.armRecord (cueWire .armRecord 17 2)) { op with tks := fullDir }).tkq.reason = some .dirFull
      ∧ (after (.armRecord (cueWire .armRecord 17 2)) { op with tks := store17 }).tkq.reason = some .takeExists
      ∧ (after (.armRecord (cueWire .armRecord 17 1)) armedRec).tkq.armIgnored = 1 := by decide +kernel

/-- op over the store with take 17. -/
def withStore : State := opWith fun s => { s with tks := store17 }

theorem withStore_calm : withStore.calm := (calm_iff _).mpr (by decide +kernel)

theorem test_meets_ArmPlayPrerollsOrRefuses :
    withStore.hearsCue (.armPlay (cueWire .armPlay 17 0)) (cueWire .armPlay 17 0) (cueMsg .armPlay 17 0)
      ∧ withStore.tkq.state = .idle ∧ (withStore.tks.entry 17).map DirEntry.axes = some [0]
      ∧ withStore.axes[(0 : AxisNo)].seeking = false ∧ withStore.tks.entry 18 = none
      ∧ armedRec.hearsCue (.armPlay (cueWire .armPlay 17 0)) (cueWire .armPlay 17 0) (cueMsg .armPlay 17 0)
      ∧ armedRec.tkq.state = .armed :=
  ⟨hearsCue_of (k := .armPlay) withStore_calm (by decide +kernel), by decide +kernel, by decide +kernel, by decide +kernel,
    by decide +kernel, hearsCue_of (k := .armPlay) armedRec_calm (by decide +kernel), by decide +kernel⟩

/-- R169: the claimed axis goes to TAKE with its first sample, 5, as target; R168: no take 18. -/
theorem test_arm_play :
    (after (.armPlay (cueWire .armPlay 17 0)) withStore).tkq.state = .preroll
      ∧ (after (.armPlay (cueWire .armPlay 17 0)) withStore).tkq.goal[(0 : AxisNo)] = some 5
      ∧ (after (.armPlay (cueWire .armPlay 17 0)) withStore).axes[(0 : AxisNo)].dsl.owner = .take
      ∧ (after (.armPlay (cueWire .armPlay 17 0)) withStore).axes[(0 : AxisNo)].cap = 2048
      ∧ (after (.armPlay (cueWire .armPlay 18 0)) withStore).tkq.reason = some .noTake := by decide +kernel

/-- op over a store with take 17 of the LENS axis, one sample of 40,000, and the axis takeable. -/
def lensStore : State := opWith fun s => { s with
  cfg := { s.cfg with axes := s.cfg.axes.set 1 { s.cfg.axes[1] with takeable := true } }
  tks := (Tks.openTake 17 10 [1] [40000] {}).1.endRecording 17 true }

/-- R103, R179: the target of a LENS axis is held from the ARM-PLAY on, so that a DISARM before the next boundary keeps it. -/
theorem test_arm_play_lens :
    (after (.armPlay (cueWire .armPlay 17 0)) lensStore).tkq.goal[(1 : AxisNo)] = some 300
      ∧ (after (.armPlay (cueWire .armPlay 17 0)) lensStore).axes[(1 : AxisNo)].dsl.held = some 300
      ∧ (after (.armPlay (cueWire .armPlay 17 0)) lensStore).axes[(1 : AxisNo)].lens.lastUnit = some 40000
      ∧ (idleTake (after (.armPlay (cueWire .armPlay 17 0)) lensStore)).axes[(1 : AxisNo)].dsl.held = some 300 := by decide +kernel

/-- A recording armed over a store without a free block. -/
def armedFull : State := withTake { state := .armed, mode := some .record, number := 17, mask := 0x02#8, axes := [0] } { free := [] }

theorem armedFull_calm : armedFull.calm := (calm_iff _).mpr (by decide +kernel)
theorem ready_calm : (readyPlay 0x02#8 2).calm := (calm_iff _).mpr (by decide +kernel)
theorem readyEnd_calm : (readyPlay 0x02#8 1).calm := (calm_iff _).mpr (by decide +kernel)
theorem readyTwo_calm : (readyPlay 0x06#8 2).calm := (calm_iff _).mpr (by decide +kernel)

theorem test_meets_GoStartsTheTake :
    (armedRec.hearsCue (.go (cueWire .go 17 0)) (cueWire .go 17 0) (cueMsg .go 17 0) ∧ armedRec.noOwnGates
        ∧ armedRec.tkq.number = 17 ∧ armedRec.tkq.state = .armed ∧ armedRec.tkq.mode = some .record
        ∧ armedRec.tkq.axes.length ≤ 4 ∧ armedRec.tks.free.head? = some 0 ∧ armedRec.tks.lowestEmpty = some 0)
      ∧ (op.hearsCue (.go (cueWire .go 17 0)) (cueWire .go 17 0) (cueMsg .go 17 0) ∧ op.tkq.number ≠ 17)
      ∧ (armedFull.hearsCue (.go (cueWire .go 17 0)) (cueWire .go 17 0) (cueMsg .go 17 0) ∧ armedFull.tks.free = [])
      ∧ ((readyPlay 0x02#8 2).hearsCue (.go (cueWire .go 17 0)) (cueWire .go 17 0) (cueMsg .go 17 0)
        ∧ (readyPlay 0x02#8 2).tkq.state = .ready ∧ (readyPlay 0x02#8 2).tkq.mode = some .play
        ∧ (∀ st : StationNo, names (readyPlay 0x02#8 2).tkq.mask st.val = true → st = (readyPlay 0x02#8 2).cfg.own)
        ∧ (readyPlay 0x02#8 2).tkq.length ≠ 1)
      ∧ ((readyPlay 0x02#8 1).hearsCue (.go (cueWire .go 17 0)) (cueWire .go 17 0) (cueMsg .go 17 0)
        ∧ (readyPlay 0x02#8 1).tkq.length = 1)
      ∧ ((readyPlay 0x06#8 2).hearsCue (.go (cueWire .go 17 0)) (cueWire .go 17 0) (cueMsg .go 17 0)
        ∧ names (readyPlay 0x06#8 2).tkq.mask 2 = true
        ∧ (readyPlay 0x06#8 2).peers[(2 : StationNo)].takeState ≠ .ready) :=
  ⟨⟨hearsCue_of (k := .go) armedRec_calm (by decide +kernel), by unfold State.noOwnGates; decide +kernel, by decide +kernel⟩,
    ⟨hearsCue_of (k := .go) op_calm (by decide +kernel), by decide +kernel⟩,
    ⟨hearsCue_of (k := .go) armedFull_calm (by decide +kernel), by decide +kernel⟩,
    ⟨hearsCue_of (k := .go) ready_calm (by decide +kernel), by decide +kernel⟩,
    ⟨hearsCue_of (k := .go) readyEnd_calm (by decide +kernel), by decide +kernel⟩,
    ⟨hearsCue_of (k := .go) readyTwo_calm (by decide +kernel), by decide +kernel⟩⟩

/-- R151, R172: GO opens the recording with one sample; it starts a READY take, and is declined while a peer is not READY. -/
theorem test_go :
    (after (.go (cueWire .go 17 0)) armedRec).tks.dir[(0 : EntryNo)].length = 1
      ∧ (after (.go (cueWire .go 17 0)) armedRec).tks.dir[(0 : EntryNo)].stats
          = some [{ minimum := 0, maximum := 0, firstSample := 0 }]
      ∧ (armedRec.tks.links = [] ∧ (after (.go (cueWire .go 17 0)) armedRec).tks.links = [])
      ∧ (after (.go (cueWire .go 17 0)) armedRec).tks.free.head? = some 1
      ∧ (after (.go (cueWire .go 17 0)) armedFull).tkq.endKind = some .storeFull
      ∧ (after (.go (cueWire .go 17 0)) (readyPlay 0x02#8 2)).tkq.state = .running
      ∧ (after (.go (cueWire .go 17 0)) (readyPlay 0x06#8 2)).tkq.goDeclined = 1 := by decide +kernel

theorem playing_calm : (playing 0).calm := (calm_iff _).mpr (by decide +kernel)

theorem test_meets_HaltEndsTheTake :
    (recordingNow.hearsCue (.halt (cueWire .halt 17 0)) (cueWire .halt 17 0) (cueMsg .halt 17 0) ∧ recordingNow.noOwnGates
        ∧ recordingNow.tkq.number = 17 ∧ recordingNow.tkq.state = .running ∧ recordingNow.tkq.mode = some .record
        ∧ recordingNow.tks.find 17 = some 0 ∧ recordingNow.tks.dir[(0 : EntryNo)].state = .recording
        ∧ recordingNow.tks.dir[(0 : EntryNo)].uploaded = false)
      ∧ ((playing 0).hearsCue (.halt (cueWire .halt 17 0)) (cueWire .halt 17 0) (cueMsg .halt 17 0)
        ∧ (playing 0).claims 0 = true ∧ (playing 0).tkq.mode = some .play)
      ∧ (op.hearsCue (.halt (cueWire .halt 17 0)) (cueWire .halt 17 0) (cueMsg .halt 17 0) ∧ op.tkq.number ≠ 17) :=
  ⟨⟨hearsCue_of (k := .halt) recordingNow_calm (by decide +kernel), by unfold State.noOwnGates; decide +kernel, by decide +kernel⟩,
    ⟨hearsCue_of (k := .halt) playing_calm (by decide +kernel), by decide +kernel⟩,
    ⟨hearsCue_of (k := .halt) op_calm (by decide +kernel), by decide +kernel⟩⟩

/-- R178: at v = 1000 with a = 256 the stopping point lies 1953 units on, rounded to count 8. -/
theorem test_halt :
    (after (.halt (cueWire .halt 17 0)) recordingNow).tks.dir[(0 : EntryNo)].state = .complete
      ∧ (after (.halt (cueWire .halt 17 0)) (playing 0)).tkq.endKind = some .halted
      ∧ stoppingPoint 256 { p := 0, v := 1000 } = 8 ∧ stoppingPoint 256 { p := 0, v := -1000 } = -8 := by decide +kernel

theorem test_meets_DisarmReturnsToIdle :
    recordingNow.hearsCue (.disarm (cueWire .disarm 17 0)) (cueWire .disarm 17 0) (cueMsg .disarm 17 0)
      ∧ recordingNow.hearsCue (.disarm (cueWire .disarm 0 0)) (cueWire .disarm 0 0) (cueMsg .disarm 0 0)
      ∧ recordingNow.tkq.state ≠ .idle ∧ recordingNow.tks.find 17 = some 0
      ∧ op.hearsCue (.disarm (cueWire .disarm 0 0)) (cueWire .disarm 0 0) (cueMsg .disarm 0 0) ∧ op.tkq.state = .idle :=
  ⟨hearsCue_of (k := .disarm) recordingNow_calm (by decide +kernel), hearsCue_of (k := .disarm) recordingNow_calm (by decide +kernel),
    by decide +kernel, by decide +kernel, hearsCue_of (k := .disarm) op_calm (by decide +kernel), by decide +kernel⟩

/-- A play take of a MOTION axis with a live source. -/
theorem test_meets_DisarmReturnsToIdle_live :
    (playing 0).hearsCue (.disarm (cueWire .disarm 17 0)) (cueWire .disarm 17 0) (cueMsg .disarm 17 0)
      ∧ (playing 0).noOwnGates ∧ (playing 0).claims 0 = true ∧ (playing 0).stop.state = .run
      ∧ (playing 0).axes[(0 : AxisNo)].seeking = false ∧ (playing 0).cfg.axes[(0 : AxisNo)].kind = .motion
      ∧ (playing 0).cfg.axes[(0 : AxisNo)].liveSource ≠ none :=
  ⟨hearsCue_of (k := .disarm) playing_calm (by decide +kernel), by unfold State.noOwnGates; decide +kernel, by decide +kernel⟩

/-- R54: the axis goes from TAKE to LIVE behind its zero-start latch. -/
theorem test_disarm_live :
    (after (.disarm (cueWire .disarm 17 0)) (playing 0)).axes[(0 : AxisNo)].dsl.owner = .live
      ∧ (after (.disarm (cueWire .disarm 17 0)) (playing 0)).axes[(0 : AxisNo)].dsl.latch = true := by decide +kernel

theorem test_disarm :
    (after (.disarm (cueWire .disarm 0 0)) recordingNow).tkq.state = .idle
      ∧ (after (.disarm (cueWire .disarm 0 0)) recordingNow).tks.dir[(0 : EntryNo)].state = .complete
      ∧ (after (.disarm (cueWire .disarm 18 0)) recordingNow).tkq.state = .running := by decide +kernel

theorem persists_none {s : State} (h : (∀ k : LineNo, s.lines[k].qualified = some (!s.cfg.lines[k].activeHigh))
      ∧ (∀ g : GroupNo, s.groups[g] = false) ∧ (∀ i : AxisNo, s.cfg.axes[i].kind = .unused ∨ s.axes[i].link.state = .locked)
      ∧ (∀ z : ZoneNo, s.zones[z].breached = false)
      ∧ (∀ st : StationNo, names s.cfg.roster st.val = true → st ≠ s.cfg.own → s.peers[st].presence = .present)
      ∧ s.lif.mute = .off) : ∀ k ∈ persistingOrder, ¬ s.persistsBy k := by
  obtain ⟨hs, hg, hl, hz, hp, hm⟩ := h
  intro k hk
  simp only [persistingOrder, List.mem_cons, List.not_mem_nil, or_false] at hk
  rcases hk with rfl | rfl | rfl | rfl | rfl | rfl | rfl | rfl | rfl <;> simp only [State.persistsBy, State.clear]
  · rintro ⟨k, _, h⟩; exact h (hs k)
  · rintro (⟨g, h⟩ | ⟨k, _, h⟩)
    · simp [hg g] at h
    · rw [hs k] at h; cases h
  · rintro ⟨k, _, _, _, _, h⟩; exact h (hs k)
  · rintro ⟨k, _, _, h⟩; exact h (hs k)
  · rintro ⟨i, h, h'⟩; rcases hl i with h1 | h1 <;> contradiction
  · rintro ⟨z, h⟩; rw [hz z] at h; cases h
  · rintro ⟨st, h, h', h''⟩; exact h'' (hp st h h')
  · simp [hm]
  · simp [hm]

/-- Where nothing persists, and where the first condition of R142 does. -/
theorem test_meets_ResumeIsEvaluatedInStopped :
    (stopped.hearsCue (.resume (cueWire .resume 0 0)) (cueWire .resume 0 0) (cueMsg .resume 0 0)
        ∧ stopped.stop.state = .stopped ∧ ∀ k ∈ persistingOrder, ¬ stopped.persistsBy k)
      ∧ (blockedStop.hearsCue (.resume (cueWire .resume 0 0)) (cueWire .resume 0 0) (cueMsg .resume 0 0)
        ∧ blockedStop.stop.state = .stopped ∧ blockedStop.persistsBy .estop
        ∧ persistingOrder = [] ++ .estop :: persistingOrder.tail ∧ blockedStop.stop.category = some .brake
        ∧ blockedStop.lif.mute ≠ .permanent)
      ∧ (op.hearsCue (.resume (cueWire .resume 0 0)) (cueWire .resume 0 0) (cueMsg .resume 0 0) ∧ op.stop.state ≠ .stopped) :=
  ⟨⟨hearsCue_of (k := .resume) stopped_calm (by decide +kernel), by decide +kernel,
      persists_none (by decide +kernel)⟩,
    ⟨hearsCue_of (k := .resume) blockedStop_calm (by decide +kernel), by decide +kernel,
      ⟨0, by decide +kernel, by unfold State.clear; decide +kernel⟩, rfl, by decide +kernel, by decide +kernel⟩,
    ⟨hearsCue_of (k := .resume) op_calm (by decide +kernel), by decide +kernel⟩⟩

theorem test_resume :
    (after (.resume (cueWire .resume 0 0)) stopped).stop.state = .resuming
      ∧ (after (.resume (cueWire .resume 0 0)) stopped).driveOn = .awaited
      ∧ (after (.resume (cueWire .resume 0 0)) blockedStop).stop.blocking = some .estop
      ∧ (after (.resume (cueWire .resume 0 0)) blockedStop).lif.stop.map StopSlot.category = some .brake := by decide +kernel

theorem upload_calm : (uploading 1).calm := (calm_iff _).mpr (by decide +kernel)

/-- R157: the ERASE of a take whose upload is open; of another take, withStore, no upload is open. -/
theorem test_meets_EraseFreesTheTake_upload :
    (uploading 1).hearsCue (.erase (cueWire .erase 19 0)) (cueWire .erase 19 0) (cueMsg .erase 19 0)
      ∧ (uploading 1).tks.find 19 = some 0 ∧ (uploading 1).tkq.state = .idle ∧ (uploading 1).tks.upload = some (19, 1)
      ∧ withStore.tks.upload = none ∧ (after (.erase (cueWire .erase 19 0)) (uploading 1)).tks.upload = none :=
  ⟨hearsCue_of (k := .erase) upload_calm (by decide +kernel), by decide +kernel⟩

theorem test_meets_EraseFreesTheTake :
    withStore.hearsCue (.erase (cueWire .erase 17 0)) (cueWire .erase 17 0) (cueMsg .erase 17 0)
      ∧ recordingNow.hearsCue (.erase (cueWire .erase 17 0)) (cueWire .erase 17 0) (cueMsg .erase 17 0)
      ∧ op.hearsCue (.erase (cueWire .erase 250 0)) (cueWire .erase 250 0) (cueMsg .erase 250 0)
      ∧ withStore.tks.find 17 = some 0 ∧ withStore.tkq.state = .idle ∧ recordingNow.tks.find 17 = some 0
      ∧ recordingNow.tkq.number = 17 ∧ recordingNow.tkq.state ≠ .idle ∧ recordingNow.tkq.state ≠ .refused
      ∧ op.tks.find 250 = none :=
  ⟨hearsCue_of (k := .erase) withStore_calm (by decide +kernel), hearsCue_of (k := .erase) recordingNow_calm (by decide +kernel),
    hearsCue_of (k := .erase) op_calm (by decide +kernel), by decide +kernel⟩

/-- R149: the freed block joins the tail of the free list. -/
theorem test_erase :
    (after (.erase (cueWire .erase 17 0)) withStore).tks.free.getLast? = some 0
      ∧ (after (.erase (cueWire .erase 17 0)) withStore).tks.dir[(0 : EntryNo)] = {}
      ∧ (after (.erase (cueWire .erase 17 0)) recordingNow).tks.eraseIgnored = 1 := by decide +kernel

theorem test_meets_CalibrateSeeksOrCounts :
    op.hearsCue (.calibrate (cueWire .calibrate 0 2)) (cueWire .calibrate 0 2) (cueMsg .calibrate 0 2)
      ∧ op.hearsCue (.calibrate (cueWire .calibrate 0 1)) (cueWire .calibrate 0 1) (cueMsg .calibrate 0 1)
      ∧ (∀ j : AxisNo, names (cueMsg .calibrate 0 2).parameter j.val = decide (j = 1)) ∧ op.cfg.axes[(1 : AxisNo)].kind = .lens
      ∧ op.stop.state = .run ∧ op.claims 1 = false ∧ op.axes[(1 : AxisNo)].seeking = false ∧ op.limitActive 1 false = false
      ∧ (∀ j : AxisNo, names (cueMsg .calibrate 0 1).parameter j.val = decide (j = 0)) ∧ op.cfg.axes[(0 : AxisNo)].kind ≠ .lens :=
  ⟨hearsCue_of (k := .calibrate) op_calm (by decide +kernel), hearsCue_of (k := .calibrate) op_calm (by decide +kernel),
    by decide +kernel⟩

theorem test_calibrate :
    (after (.calibrate (cueWire .calibrate 0 2)) op).axes[(1 : AxisNo)].lens.cal.state = .seekLow
      ∧ (after (.calibrate (cueWire .calibrate 0 2)) op).axes[(1 : AxisNo)].dsl.owner = .cal
      ∧ (after (.calibrate (cueWire .calibrate 0 2)) op).axes[(1 : AxisNo)].cap = 512
      ∧ (after (.calibrate (cueWire .calibrate 0 1)) op).calIgnored = 1 := by decide +kernel

/-- The LIMIT lines of both ends of the LENS axis, each active or not. -/
def ends (low high : Bool) : State := opWith fun s => { s with
  cfg := { s.cfg with
    lines := (s.cfg.lines.set 6 { function := .limit 1 false, qualTime := 3 }).set 7 { function := .limit 1 true, qualTime := 3 } }
  lines := (s.lines.set 6 { raw := !low, qualified := some (!low) }).set 7 { raw := !high, qualified := some (!high) } }

theorem ends_calm : (ends true true).calm := (calm_iff _).mpr (by decide +kernel)
theorem ends_calm' : (ends true false).calm := (calm_iff _).mpr (by decide +kernel)

theorem test_meets_CalibrateSeeksOrCounts_ends :
    ((ends true true).hearsCue (.calibrate (cueWire .calibrate 0 2)) (cueWire .calibrate 0 2) (cueMsg .calibrate 0 2)
        ∧ (ends true false).hearsCue (.calibrate (cueWire .calibrate 0 2)) (cueWire .calibrate 0 2) (cueMsg .calibrate 0 2))
      ∧ ((ends true true).limitActive 1 false = true ∧ (ends true true).limitActive 1 true = true
        ∧ (ends true false).limitActive 1 false = true ∧ (ends true false).limitActive 1 true = false
        ∧ 0 < (ends true true).cfg.axes[(1 : AxisNo)].minSpan) :=
  ⟨⟨hearsCue_of (k := .calibrate) ends_calm (by decide +kernel), hearsCue_of (k := .calibrate) ends_calm' (by decide +kernel)⟩,
    by decide +kernel⟩

/-- R111, R80: a seek that ends in its own event fails with SPAN-SHORT, and the next computation starts from the measured
position. -/
theorem test_calibrate_ends :
    (after (.calibrate (cueWire .calibrate 0 2)) (ends true true)).axes[(1 : AxisNo)].lens.cal.reason = some .spanShort
      ∧ (after (.calibrate (cueWire .calibrate 0 2)) (ends true true)).axes[(1 : AxisNo)].mpr.reseed = true
      ∧ (after (.calibrate (cueWire .calibrate 0 2)) (ends true false)).axes[(1 : AxisNo)].lens.cal.state = .seekHigh := by
  decide +kernel

/-! ## Witnesses and steps: what falls due -/

theorem test_meets_TimeoutsAct :
    (dueNow.calm ∧ dueNow.peers[(2 : StationNo)].presence = .present
      ∧ dueNow.cfg.liveness < dueNow.time - dueNow.peers[(2 : StationNo)].arrival ∧ names dueNow.cfg.roster 2 = true
      ∧ dueNow.cfg.axes[(0 : AxisNo)].liveSource = some 2
      ∧ dueNow.axes[(0 : AxisNo)].dsl.fresh = dueNow.cfg.axes[(0 : AxisNo)].demandTimeout + 1
      ∧ dueNow.axes[(1 : AxisNo)].dsl.fresh ≠ dueNow.cfg.axes[(1 : AxisNo)].demandTimeout + 1
      ∧ dueNow.present 2 = true ∧ dueNow.enableOpen 0 = false
      ∧ dueNow.peers[(2 : StationNo)].reports[(0 : Fin 4)].arrival = some 4900 ∧ min (dueNow.time - 4900) 65535 = dueNow.cfg.liveness + 1)
      ∧ op.calm ∧ op.time - op.peers[(2 : StationNo)].arrival ≤ op.cfg.liveness ∧ op.peers[(0 : StationNo)].presence = .absent :=
  ⟨⟨dueNow_calm, by decide +kernel⟩, op_calm, by decide +kernel⟩

/-- R28, R57, R117 one millisecond past their limits. -/
theorem test_timeouts :
    (after (.livenessTimeout 2) dueNow).peers[(2 : StationNo)].presence = .lost
      ∧ (after (.livenessTimeout 2) dueNow).stop.localMarks = [.peerLost]
      ∧ (after (.demandTimeout 0) dueNow).axes[(0 : AxisNo)].dsl.gate = .closedStale
      ∧ (after (.reportStale 2 0) dueNow).zones[(0 : ZoneNo)].active = true
      ∧ (after (.livenessTimeout 2) op).peers[(2 : StationNo)].presence = .present := by decide +kernel

/-- W = 12: the largest raw value, behind three 0s; a burst without a start bit; a wrong check. -/
theorem test_meets_EncoderFramesAreRead :
    (4095 : Nat) < 2 ^ 12 ∧ 3 ≤ 3 ∧ readSamples 12 ([false, false, false] ++ (burst 12 4095 false).drop 1) = .good 4095 false
      ∧ readSamples 12 (burst 12 4095 true) = .error ∧ readSamples 12 (List.replicate 24 false) = .noStart
      ∧ readSamples 12 ((burst 12 4095 false).set 4 false) = .check := by decide +kernel

theorem linked_calm : (linked {} { state := .locked, measured := some 7, window := 31, windowBad := 2 }).calm :=
  (calm_iff _).mpr (by decide +kernel)

/-- A searching link before read 17, a locked one with its threshold reached, and one in FAULT. -/
theorem test_meets_ReadsMoveTheLink :
    (linked {} { state := .locked, measured := some 7, window := 31, windowBad := 2 }).calm
      ∧ ((linked {} { state := .locked, measured := some 7, window := 31, windowBad := 2 }).axes[(1 : AxisNo)].link.windowBad
          = cfg.axes[(1 : AxisNo)].badThreshold
        ∧ (31 : Nat) < 32 ∧ cfg.axes[(1 : AxisNo)].kind ≠ .unused ∧ (linked {} {}).due.reads[(1 : AxisNo)] = true
        ∧ (linked {} { state := .locked, measured := some 7, window := 31, windowBad := 2 }).axes[(1 : AxisNo)].drive.enable = true
        ∧ readSamples 12 (burst 12 350 false) = .good 350 false)
      ∧ ∀ raw w, readSamples 12 (burst 12 350 true) ≠ .good raw w := by
  have h : readSamples 12 (burst 12 350 true) = .error := by decide +kernel
  exact ⟨linked_calm, by decide +kernel, by simp [h]⟩

/-- A LOCKED link at an alert threshold of 1, its axis guarded by an active zone; the read of the period made, or not. -/
def guarded (due : Bool) : State := opWith fun s => { s with
  cfg := { s.cfg with axes := s.cfg.axes.set 0 { s.cfg.axes[0] with alertThreshold := 1 } }
  zones := s.zones.set 0 { qualifier := .unknown, active := true }
  due := { reads := #v[due, false, false, false] } }

theorem guarded_calm : (guarded true).calm := (calm_iff _).mpr (by decide +kernel)

theorem test_meets_ReadsMoveTheLink_guarded :
    (guarded true).calm ∧ (guarded true).axes[(0 : AxisNo)].link.state = .locked ∧ (guarded false).due.reads[(0 : AxisNo)] = false
      ∧ (guarded true).cfg.axes[(0 : AxisNo)].alertThreshold = 1 ∧ (guarded true).zones[(0 : ZoneNo)].active = true
      ∧ (guarded true).zonesOfOwnWord 0 = false ∧ (guarded true).cfg.zones[(0 : ZoneNo)].qualifier.map Qualifier.station = some 2 :=
  ⟨guarded_calm, by decide +kernel⟩

/-- R110: a seeking axis that reads 1020 from its seek start seeks on, and one that reads 1021 fails with NO-END. -/
theorem test_meets_ReadsMoveTheLink_travel :
    seekingHigh.calm ∧ seekingHigh.axes[(1 : AxisNo)].link.state = .locked ∧ seekingHigh.due.reads[(1 : AxisNo)] = true
      ∧ seekingHigh.axes[(1 : AxisNo)].lens.cal.seekStart = some 0
      ∧ cfg.axes[(1 : AxisNo)].maxSpan + cfg.axes[(1 : AxisNo)].guardBand = 1020
      ∧ (after (.encoderRead 1 (burst 12 1020 false)) seekingHigh).axes[(1 : AxisNo)].lens = seekingHigh.axes[(1 : AxisNo)].lens
      ∧ (after (.encoderRead 1 (burst 12 1021 false)) seekingHigh).axes[(1 : AxisNo)].lens.cal.reason = some .noEnd :=
  ⟨seekingHigh_calm, by decide +kernel⟩

theorem searching_calm : (linked { dwell := 16 } { state := .fault }).calm := (calm_iff _).mpr (by decide +kernel)

theorem test_meets_ReadsMoveTheLink_unlocked :
    (linked { dwell := 16 } { state := .fault }).calm
      ∧ (linked { dwell := 16 } { state := .fault }).axes[(0 : AxisNo)].link.state = .search
      ∧ (linked { dwell := 16 } { state := .fault }).axes[(1 : AxisNo)].link.state = .fault := ⟨searching_calm, by decide +kernel⟩

/-- R84: 350 less the origin 100; R85: bad reads count from read 17; R89, R91: one bad read more than the threshold. -/
theorem test_encoder_read :
    (after (.encoderRead 0 (burst 12 350 false)) op).axes[(0 : AxisNo)].link.measured = some 250
      ∧ (after (.encoderRead 0 (burst 12 350 true)) (linked { dwell := 16 } {})).axes[(0 : AxisNo)].link.dwellBad = 1
      ∧ (after (.encoderRead 0 (burst 12 350 true)) (linked { dwell := 15 } {})).axes[(0 : AxisNo)].link.dwellBad = 0
      ∧ (after (.encoderRead 1 (burst 12 350 true))
          (linked {} { state := .locked, measured := some 7, window := 31, windowBad := 2 })).stop.localMarks = [.encLost] := by
  decide +kernel

/-- R92, R119 at their bounds: the first bad read alerts; 501 lies in the zone 500 to 600 deeper than 0, and 500 does not. Log 29:
the second read of a period is passed over. -/
theorem test_encoder_read_guarded :
    (after (.encoderRead 0 (burst 12 350 true)) (guarded true)).svp.flags.getLsbD flagCounterAlert = true
      ∧ (after (.encoderRead 0 (burst 12 601 false)) (guarded true)).stop.localMarks = [.zoneBreach]
      ∧ (after (.encoderRead 0 (burst 12 600 false)) (guarded true)).stop.state = .run
      ∧ after (.encoderRead 0 (burst 12 601 false)) (guarded false) = guarded false := by decide +kernel

def dwelling (delay pass bad : Nat) : State :=
  linked { dwell := 32, delay := delay, pass := pass, dwellBad := bad, lastGood := some 9 } { state := .locked, window := 32, windowBad := 2 }

theorem dwelling_calm : (dwelling 14 0 2).calm := (calm_iff _).mpr (by decide +kernel)
theorem dwelling_calm' : (dwelling 15 2 3).calm := (calm_iff _).mpr (by decide +kernel)

theorem test_meets_DwellsAndWindowsEnd :
    ((dwelling 14 0 2).calm ∧ (dwelling 14 0 2).axes[(0 : AxisNo)].link.dwell = 32
        ∧ (dwelling 14 0 2).axes[(0 : AxisNo)].link.state = .search ∧ cfg.axes[(0 : AxisNo)].badThreshold = 2
        ∧ (dwelling 14 0 2).axes[(1 : AxisNo)].link.window = 32 ∧ (dwelling 14 0 2).axes[(1 : AxisNo)].link.windowBad = 2)
      ∧ ((dwelling 15 2 3).calm ∧ (dwelling 15 2 3).axes[(0 : AxisNo)].link.pass = 2
        ∧ (dwelling 15 2 3).axes[(0 : AxisNo)].link.delay = 15 ∧ (dwelling 15 2 3).axes[(0 : AxisNo)].link.dwellBad = 3)
      ∧ (op.calm ∧ op.axes[(0 : AxisNo)].link.window ≠ 32) :=
  ⟨⟨dwelling_calm, by decide +kernel⟩, ⟨dwelling_calm', by decide +kernel⟩, ⟨op_calm, by decide +kernel⟩⟩

theorem test_dwell_and_window :
    (after (.dwellEnd 0) (dwelling 14 0 2)).axes[(0 : AxisNo)].link.measured = some 9
      ∧ (after (.dwellEnd 0) (dwelling 14 0 3)).axes[(0 : AxisNo)].link.delay = 15
      ∧ (after (.dwellEnd 0) (dwelling 15 1 3)).axes[(0 : AxisNo)].link.delay = 2
      ∧ (after (.dwellEnd 0) (dwelling 15 2 3)).axes[(0 : AxisNo)].link.state = .fault
      ∧ (after (.windowEnd 1) (dwelling 14 0 2)).axes[(1 : AxisNo)].link.windowBad = 0 := by decide +kernel

def seekHigh : Cal := { state := .seekHigh, low := some 0, seekStart := some 0 }

theorem seekLow_calm : (seeking { state := .seekLow, seekStart := some 300 } 20 20).calm := (calm_iff _).mpr (by decide +kernel)
theorem seekHigh_calm : (seeking seekHigh 20 19).calm := (calm_iff _).mpr (by decide +kernel)

theorem test_meets_SeeksEnd :
    ((seeking { state := .seekLow, seekStart := some 300 } 20 20).calm
        ∧ (seeking { state := .seekLow, seekStart := some 300 } 20 20).axes[(1 : AxisNo)].lens.stall = 20
        ∧ (seeking { state := .seekLow, seekStart := some 300 } 20 20).axes[(1 : AxisNo)].lens.blocked = 20
        ∧ (seeking { state := .seekLow, seekStart := some 300 } 20 20).limitActive 1 true = false)
      ∧ ((seeking seekHigh 20 19).calm ∧ (seeking seekHigh 20 19).axes[(1 : AxisNo)].lens.cal.low = some 0
        ∧ (seeking seekHigh 20 19).axes[(1 : AxisNo)].link.measured = some 300 ∧ cfg.axes[(1 : AxisNo)].minSpan ≤ 300)
      ∧ (op.calm ∧ op.axes[(1 : AxisNo)].seeking = false) :=
  ⟨⟨seekLow_calm, by decide +kernel⟩, ⟨seekHigh_calm, by decide +kernel⟩, ⟨op_calm, by decide +kernel⟩⟩

/-- R108, R111: a span of 300 calibrates, one of 99 is short, one of 1001 long. -/
theorem test_seek_ends :
    (after (.seekStall 1) (seeking { state := .seekLow, seekStart := some 300 } 20 0)).axes[(1 : AxisNo)].lens.cal.state = .seekHigh
      ∧ (after (.seekStall 1) (seeking seekHigh 20 19)).axes[(1 : AxisNo)].lens.cal.span = some 300
      ∧ (after (.seekStall 1) (seeking { seekHigh with low := some 201 } 20 0)).axes[(1 : AxisNo)].lens.cal.reason = some .spanShort
      ∧ (after (.seekStall 1) (seeking { seekHigh with low := some (-701) } 20 0)).axes[(1 : AxisNo)].lens.cal.reason = some .spanLong
      ∧ (after (.blocked 1) (seeking seekHigh 0 20)).axes[(1 : AxisNo)].lens.cal.reason = some .blocked
      ∧ (after (.blocked 1) (seeking seekHigh 0 19)).axes[(1 : AxisNo)].lens.cal.state = .seekHigh := by decide +kernel

/-- The LENS axis seeks, and a LIMIT line of it has held its active level for q + 1 samples. -/
def seekEdge (c : Cal) (k : LineNo) : State := endEvent { ends false false with
  lines := (ends false false).lines.set k { raw := false, qualified := some true, hold := 4 }
  axes := (ends false false).axes.set 1 { (ends false false).axes[1] with
    link := { (ends false false).axes[1].link with measured := some 300 }, lens := { (ends false false).axes[1].lens with cal := c } } }

theorem seekEdge_calm : (seekEdge { state := .seekLow } 6).calm := (calm_iff _).mpr (by decide +kernel)
theorem seekEdge_calm' : (seekEdge seekHigh 7).calm := (calm_iff _).mpr (by decide +kernel)
theorem seekEdge_calm'' : (seekEdge seekHigh 6).calm := (calm_iff _).mpr (by decide +kernel)

theorem test_meets_SeeksEnd_edges :
    ((seekEdge { state := .seekLow } 6).calm ∧ (seekEdge seekHigh 7).calm ∧ (seekEdge seekHigh 6).calm)
      ∧ ((seekEdge seekHigh 7).cfg.lines[(7 : LineNo)].function = .limit 1 true
        ∧ (seekEdge seekHigh 7).cfg.lines[(6 : LineNo)].function = .limit 1 false
        ∧ (seekEdge seekHigh 7).lines[(7 : LineNo)].hold = (seekEdge seekHigh 7).cfg.lines[(7 : LineNo)].qualTime + 1
        ∧ (seekEdge seekHigh 7).lines[(7 : LineNo)].raw = (seekEdge seekHigh 7).cfg.lines[(7 : LineNo)].activeHigh
        ∧ ∀ z : ZoneNo, (seekEdge seekHigh 7).zonesOfOwnWord z = false) := ⟨⟨seekEdge_calm, seekEdge_calm', seekEdge_calm''⟩, by decide +kernel⟩

/-- R109, R111, R126: the end inputs of a seek end it, and so does the low end during the high seek; the high end during the low
seek is cause LIMIT. -/
theorem test_end_inputs :
    (after (.qualifiedEdge 6) (seekEdge { state := .seekLow } 6)).axes[(1 : AxisNo)].lens.cal.state = .seekHigh
      ∧ (after (.qualifiedEdge 7) (seekEdge seekHigh 7)).axes[(1 : AxisNo)].lens.cal.span = some 300
      ∧ (after (.qualifiedEdge 6) (seekEdge seekHigh 6)).axes[(1 : AxisNo)].lens.cal.span = some 300
      ∧ (after (.qualifiedEdge 6) (seekEdge seekHigh 6)).stop.state = .run
      ∧ (after (.qualifiedEdge 7) (seekEdge { state := .seekLow } 7)).stop.localMarks = [.limit] := by decide +kernel

theorem test_meets_BrakesAndReleasesFinish :
    (braking.calm ∧ braking.noOwnGates ∧ braking.axes[(0 : AxisNo)].brakeTimer = some braking.cfg.axes[(0 : AxisNo)].brakeDelay
        ∧ braking.axes[(0 : AxisNo)].drive.enable = true ∧ braking.stop.state = .stopping ∧ braking.stop.category = some .brake
        ∧ ∀ j : AxisNo, braking.cfg.axes[j].kind = .unused ∨ braking.axes[j].mpr.atRest = true
          ∧ (j ≠ 0 → braking.axes[j].drive.enable = false) ∧ braking.axes[j].drive.released = false)
      ∧ (driveOnNow.calm ∧ driveOnNow.driveOn = .due ∧ driveOnNow.stop.state = .resuming
        ∧ (∀ i : AxisNo, driveOnNow.cfg.axes[i].kind = .unused ∨ driveOnNow.axes[i].link.state = .locked)
        ∧ driveOnNow.axes[(0 : AxisNo)].drive.released = false ∧ driveOnNow.cfg.axes[(0 : AxisNo)].brakeDelay ≠ 0)
      ∧ (driveOnReleased.calm ∧ driveOnReleased.driveOn = .due
        ∧ ∀ i : AxisNo, driveOnReleased.cfg.axes[i].kind = .unused ∨ driveOnReleased.axes[i].drive.released = true)
      ∧ (driveOnLost.calm ∧ driveOnLost.driveOn = .due ∧ driveOnLost.stop.state = .resuming
        ∧ driveOnLost.cfg.axes[(0 : AxisNo)].kind ≠ .unused ∧ driveOnLost.axes[(0 : AxisNo)].link.state ≠ .locked)
      ∧ (releasing.calm ∧ releasing.axes[(0 : AxisNo)].releaseTimer = some releasing.cfg.axes[(0 : AxisNo)].brakeDelay
        ∧ releasing.stop.state = .resuming
        ∧ ∀ j : AxisNo, releasing.cfg.axes[j].kind = .unused ∨ releasing.axes[j].drive.enable = true
          ∧ (j ≠ 0 → releasing.axes[j].drive.released = true)) :=
  ⟨⟨braking_calm, by unfold State.noOwnGates; decide +kernel, by decide +kernel⟩, ⟨driveOnNow_calm, by decide +kernel⟩,
    ⟨driveOnReleased_calm, by decide +kernel⟩, ⟨driveOnLost_calm, by decide +kernel⟩, ⟨releasing_calm, by decide +kernel⟩⟩

theorem test_brakes_and_releases :
    (after (.brakeTimer 0) braking).stop.state = .stopped ∧ (after (.brakeTimer 0) braking).axes[(0 : AxisNo)].drive.enable = false
      ∧ (after .driveOnBoundary driveOnNow).axes[(0 : AxisNo)].releaseTimer = some 0
      ∧ (after .driveOnBoundary driveOnReleased).stop.state = .run
      ∧ (after .driveOnBoundary driveOnLost).stop.localMarks = [.encLost]
      ∧ (after (.releaseTimer 0) releasing).stop.state = .run := by decide +kernel

/-- RESUMING at the last release, with an automatic calibration pending and the latch of axis 0 clear. -/
def releasingAuto : State := endEvent { releasing with
  axes := (releasing.axes.set 0 { releasing.axes[0] with dsl := { releasing.axes[0].dsl with latch := false } }).set 1
    { releasing.axes[1] with lens := { releasing.axes[1].lens with cal := { autoPending := true } } } }

theorem releasingAuto_calm : releasingAuto.calm := (calm_iff _).mpr (by decide +kernel)

theorem test_meets_BrakesAndReleasesFinish_auto :
    releasingAuto.calm ∧ releasingAuto.axes[(0 : AxisNo)].releaseTimer = some releasingAuto.cfg.axes[(0 : AxisNo)].brakeDelay
      ∧ releasingAuto.stop.state = .resuming ∧ releasingAuto.cfg.axes[(1 : AxisNo)].kind = .lens
      ∧ releasingAuto.axes[(1 : AxisNo)].lens.cal.autoPending = true ∧ releasingAuto.limitActive 1 false = false
      ∧ releasingAuto.cfg.axes[(0 : AxisNo)].liveSource ≠ none ∧ releasingAuto.axes[(0 : AxisNo)].dsl.latch = false :=
  ⟨releasingAuto_calm, by decide +kernel⟩

/-- R106: the seek starts at the release that enters RUN; R54: axis 0 goes to LIVE behind its latch. -/
theorem test_automatic_seek :
    (after (.releaseTimer 0) releasingAuto).axes[(1 : AxisNo)].lens.cal = { state := .seekLow, seekStart := some 0 }
      ∧ (after (.releaseTimer 0) releasingAuto).axes[(1 : AxisNo)].dsl.owner = .cal
      ∧ (after (.releaseTimer 0) releasingAuto).axes[(0 : AxisNo)].dsl.owner = .live
      ∧ (after (.releaseTimer 0) releasingAuto).axes[(0 : AxisNo)].dsl.latch = true := by decide +kernel

/-- STOPPING under a category, with every drive on and every brake released. -/
def stopping (c : Category) : State := opWith fun s => { s with stop := { s.stop with state := .stopping, category := some c } }

theorem stopping_calm : (stopping .brake).calm := (calm_iff _).mpr (by decide +kernel)

theorem test_meets_BrakesAndReleasesFinish_sequence :
    (stopping .brake).calm ∧ (stopping .brake).axes[(0 : AxisNo)].drive.released = true
      ∧ (stopping .brake).axes[(0 : AxisNo)].mpr.atRest = true ∧ cfg.axes[(0 : AxisNo)].brakeDelay ≠ 0
      ∧ cfg.axes[(1 : AxisNo)].brakeDelay = 0 ∧ braking.axes[(0 : AxisNo)].drive.released = false
      ∧ braking.axes[(0 : AxisNo)].brakeTimer ≠ none := ⟨stopping_calm, by decide +kernel⟩

/-- R137 to R139: HOLD leaves drive and brake, BRAKE engages and starts the timer (a delay of 0 ends at once), CUT cuts. -/
theorem test_sequences :
    (applySequence (stopping .hold)).axes = (stopping .hold).axes
      ∧ (applySequence (stopping .brake)).axes[(0 : AxisNo)].brakeTimer = some 0
      ∧ (applySequence (stopping .brake)).axes[(1 : AxisNo)].drive.enable = false
      ∧ (applySequence (stopping .cut)).secured = true := by decide +kernel

/-- RESUMING with every brake released, a zone gated by the own RUN slot around axis 0, and the latch of axis 0 clear. -/
def gatedByRun : State := opWith fun s => { s with
  cfg := { s.cfg with
    sources := s.cfg.sources.set 0 .running
    zones := s.cfg.zones.set 0 { inUse := true, axis := 0, lo := -50, hi := 50, gateLine := some (1, 0) } }
  stop := { s.stop with state := .resuming }
  driveOn := .due
  axes := s.axes.set 0 { s.axes[0] with dsl := { s.axes[0].dsl with latch := false } } }

/-- R54: the owner passes through LIVE in the event, which sets the latch, though the breach of the zone leaves it at STOP. -/
theorem test_passing_through_live :
    gatedByRun.axes[(0 : AxisNo)].dsl.latch = false ∧ (after .driveOnBoundary gatedByRun).stop.localMarks = [.zoneBreach]
      ∧ (after .driveOnBoundary gatedByRun).axes[(0 : AxisNo)].dsl.owner = .stop
      ∧ (after .driveOnBoundary gatedByRun).axes[(0 : AxisNo)].dsl.latch = true := by decide +kernel

theorem holding_calm : (playing 101).calm := (calm_iff _).mpr (by decide +kernel)

/-- The recording with its only block full, over a store with and without a free block. -/
def recordingFull (free : List Nat) : State :=
  withTake { state := .running, mode := some .record, number := 17, mask := 0x02#8, axes := [0], appendDue := true }
    { recording17 with
      free := free, dir := recording17.dir.set 0 { recording17.dir[0] with length := 64 } }

theorem recordingFull_calm : (recordingFull [5]).calm := (calm_iff _).mpr (by decide +kernel)
theorem recordingFull_calm' : (recordingFull []).calm := (calm_iff _).mpr (by decide +kernel)

theorem test_meets_TakeTimersAct :
    ((playing 101).calm ∧ (playing 101).noOwnGates ∧ (playing 101).tkq.mode = some .play ∧ (playing 101).tkq.state = .running
        ∧ (playing 101).cfg.holdLimit < (playing 101).tkq.holdTimer ∧ (playing 101).claims 0 = true)
      ∧ ((playing 0).calm ∧ ((playing 0).tkq.length - 1) * (playing 0).tkq.period ≤ (playing 0).tkq.t)
      ∧ (recordingNow.calm ∧ recordingNow.tkq.appendDue = true ∧ recordingNow.tks.find 17 = some 0
        ∧ recordingNow.tks.dir[(0 : EntryNo)].state = .recording
        ∧ recordingNow.tks.dir[(0 : EntryNo)].length % (64 / recordingNow.tks.dir[(0 : EntryNo)].axes.length) ≠ 0)
      ∧ ((recordingFull [5]).calm ∧ (recordingFull [5]).tks.free = 5 :: []
        ∧ (recordingFull [5]).tks.dir[(0 : EntryNo)].length % (64 / (recordingFull [5]).tks.dir[(0 : EntryNo)].axes.length) = 0
        ∧ (recordingFull [5]).tks.dir[(0 : EntryNo)].last = some 0 ∧ (recordingFull [5]).tks.dir[(0 : EntryNo)].length ≠ 0)
      ∧ ((recordingFull []).calm ∧ (recordingFull []).tks.free = []
        ∧ (recordingFull []).tks.dir[(0 : EntryNo)].state = .recording) :=
  ⟨⟨holding_calm, by unfold State.noOwnGates; decide +kernel, by decide +kernel⟩, ⟨playing_calm, by decide +kernel⟩,
    ⟨recordingNow_calm, by decide +kernel⟩, ⟨recordingFull_calm, by decide +kernel⟩, ⟨recordingFull_calm', by decide +kernel⟩⟩

theorem test_take_timers :
    (after .holdLimit (playing 101)).tkq.abortKind = some .withoutStop ∧ (after .holdLimit (playing 100)).tkq.state = .running
      ∧ (after .endReached (playing 0)).tkq.endKind = some .endReached
      ∧ (after .sampleAppend recordingNow).tks.dir[(0 : EntryNo)].length = 2
      ∧ (after .sampleAppend (recordingFull [5])).tks.dir[(0 : EntryNo)].last = some 5
      ∧ (after .sampleAppend (recordingFull [])).tkq.endKind = some .storeFull := by decide +kernel

/-- R151, R153: the sample joins the words of the block, and the minimum and maximum take it. -/
theorem test_sample_append :
    let s : State := { recordingNow with axes := recordingNow.axes.set 0 { recordingNow.axes[0] with mpr := { count := 7 } } }
    readWord (after .sampleAppend s).tks.mem 0 0 = 5 ∧ readWord (after .sampleAppend s).tks.mem 0 1 = 7
      ∧ (after .sampleAppend s).tks.dir[(0 : EntryNo)].stats = some [{ minimum := 5, maximum := 7, firstSample := 5 }] := by
  decide +kernel

/-! ## Witnesses and steps: the service port -/

theorem test_meets_PortReadsChangeNothing :
    withStore.operating = true ∧ withStore.tks.find 17 = some 0 ∧ withStore.tks.dir[(0 : EntryNo)].blocks = 1
      ∧ 7 < (8#8).toNat ∧ 3 < (4#8).toNat ∧ withStore.cfg.axes[(1 : AxisNo)].kind = .lens
      ∧ withStore.cfg.axes[(0 : AxisNo)].kind ≠ .lens ∧ withStore.axes[(1 : AxisNo)].lens.table.length ≤ 16 := by decide +kernel

theorem test_port_reads :
    (after (.takeRead 17 0) withStore).svp.response.isSome = true
      ∧ (after (.takeRead 17 1) withStore).svp.response = some (.refused .badArgs)
      ∧ (after (.readPeer 8) withStore).svp.response = some (.refused .badArgs)
      ∧ (after (.readAxis 4) withStore).svp.response = some (.refused .badArgs)
      ∧ (after (.lensTableRead 0) withStore).svp.response = some (.refused .badArgs)
      ∧ (after (.lensTableRead 5) withStore).svp.response = some (.refused .badArgs)
      ∧ (after (.lensTableRead 1) withStore).svp.response
          = some (.table 2 false ([(0, 0), (65535, 65535)] ++ List.replicate 14 (0, 0)))
      ∧ (after .readRequests withStore).svp.response = some (.requests 1 0) := by decide +kernel

theorem test_meets_ReadAndClearCommands : op.operating = true := by decide +kernel

/-- R43, R190, R193: reading clears. -/
theorem test_read_and_clear :
    let s := { op with mismatched := 5, lines := op.lines.set 1 { op.lines[1] with latch := true } }
    (after .readInputs s).lines[(1 : LineNo)].latch = false
      ∧ (after .readInputs s).svp.response = some (.inputs 0xFFDF 0 2)
      ∧ (after .readCounters s).mismatched = 0 ∧ (after .readSnapshot s).svp.snapArmed = true
      ∧ (after .readTakedir s).svp.response = some (.takedir s.tks.dir 2048 (some 0))
      ∧ ((after .readStation s).svp.response.isSome && (after (.readAxis 0) s).svp.response.isSome) = true := by decide +kernel

/-- 12.4, 12.5, R194: IN15 stands in bit 7 of the first byte of each pair, and the result code comes first. -/
theorem test_response_bytes :
    Response.bytes (.inputs 0x8001 0 2) = [0, 0x80, 0x01, 0, 0, 0, 2] ∧ Response.bytes (.refused .queueFull) = [8]
      ∧ Response.bytes (.block [0x01020304]) = [0, 1, 2, 3, 4]
      ∧ (counterReport op).bytes.length = 43 ∧ snapshotBytes none = [1]
      ∧ ((after (.writeEnables 1) op).svp.snap.map fun x => (snapshotBytes (some x)).take 11) = some [0, 0, 0, 0, 0, 0x13, 0x88, 0, 1, 0, 0] := by
  decide +kernel

/-- R189, R194: READ-STATION sends the 48-bit time after the station number, and the reason NO-TAKE as 7 after a take time of 24
bits; R150, R194: the per-axis values are 32-bit two's complement; R66: a Q8 position takes 40 bits. -/
theorem test_field_bytes :
    ((stationReport op).bytes.drop 3).take 7 = [1, 0, 0, 0, 0, 0x13, 0x88]
      ∧ (({ stationReport op with t := 0x010203, reason := some .noTake, endKind := some .halted } : StationReport).bytes.drop 55).take 6
          = [1, 2, 3, 7, 2, 0]
      ∧ AxisStat.bytes { minimum := -2, maximum := 5, firstSample := 0x01020304 }
          = [0xFF, 0xFF, 0xFF, 0xFE, 0, 0, 0, 5, 1, 2, 3, 4]
      ∧ (Mpr.bytes { p := -(2 ^ 38) }).take 5 = [0xC0, 0, 0, 0, 0] := by decide +kernel

/-- op over a store. -/
def stored (t : Tks) : State := opWith fun s => { s with tks := t }

/-- R158, R160: an upload; 2048 blocks are the most. -/
theorem test_meets_TakeCommandsFollowTheirChecks :
    op.operating = true ∧ op.tks.upload = none ∧ maskAxes 1 = [0] ∧ (131072 + 64 / [(0 : AxisNo)].length - 1) / (64 / 1) = 2048
      ∧ op.tks.lowestEmpty = some 0 ∧ op.tks.free.length = 2048 ∧ op.tks.find 19 = none
      ∧ armedRec.tkq.number ≠ 19 ∧ armedRec.tkq.state = .armed ∧ (uploading 0).tks.upload = some (19, 0)
      ∧ (uploading 0).tks.find 19 = some 0
      ∧ ((uploading 0).tks.chain (uploading 0).tks.dir[(0 : EntryNo)])[0]? = some 0
      ∧ (uploading 0).tks.dir[(0 : EntryNo)].blocks = 1
      ∧ (uploading 1).tks.dir[(0 : EntryNo)].blocks ≤ 1 ∧ withStore.tks.find 17 = some 0 ∧ withStore.tkq.state = .idle
      ∧ 1 < armedRec.tks.emptyCount ∧ (stored fullDir).tks.emptyCount = 0 ∧ (stored fullDir).tks.upload = none
      ∧ (stored { free := [3] }).tks.free.length < (65 + 64 / 1 - 1) / (64 / 1)
      ∧ (stored { free := [3, 9] }).tks.free.take 2 = [3, 9] := by decide +kernel

/-- R148, R149, R152, R158: TAKE-CREATE with the directory full, with one EMPTY entry that is reserved, with a block too few, and
with two scattered blocks, which are chained. -/
theorem test_take_create :
    (after (.takeCreate 19 1 0 65) (stored fullDir)).svp.response = some (.refused .dirFull)
      ∧ (after (.takeCreate 19 1 0 65) { armedRec with tks := { fullDir with dir := fullDir.dir.set 4 {} } }).svp.response
          = some (.refused .dirFull)
      ∧ (after (.takeCreate 19 1 0 65) armedRec).svp.response = some .ok
      ∧ (after (.takeCreate 17 1 0 65) armedRec).svp.response = some (.refused .takeExists)
      ∧ (after (.takeCreate 19 1 0 65) (stored { free := [3] })).svp.response = some (.refused .noSpace)
      ∧ (after (.takeCreate 19 1 0 65) (stored { free := [3, 9] })).tks.links = [(3, 9)]
      ∧ (after (.takeErase 19) (uploading 0)).tks.upload = none := by decide +kernel

theorem test_take_commands :
    (after (.takeCreate 19 1 0 64) op).svp.response = some .ok
      ∧ (after (.takeCreate 19 1 0 64) op).tks.dir[(0 : EntryNo)].blocks = 1
      ∧ (after (.takeCreate 19 1 3 64) op).svp.response = some (.refused .badArgs)
      ∧ (after (.takeCreate 19 1 0 64) (uploading 0)).svp.response = some (.refused .busy)
      ∧ (after (.takeWrite 19 0 (List.replicate 64 0x10#32)) (uploading 0)).tks.upload = some (19, 1)
      ∧ (after (.takeWrite 19 1 (List.replicate 64 0x10#32)) (uploading 0)).svp.response = some (.refused .badArgs)
      ∧ (after (.takeClose 19) (uploading 0)).svp.response = some (.refused .badArgs)
      ∧ (after (.takeClose 19) (uploading 1)).tks.dir[(0 : EntryNo)].state = .complete
      ∧ (after (.takeErase 17) withStore).svp.response = some .ok := by decide +kernel

theorem test_meets_PortWritesFollowTheirChecks :
    op.operating = true ∧ op.cfg.axes[(1 : AxisNo)].kind = .lens ∧ op.axes[(1 : AxisNo)].dsl.owner = .live
      ∧ (seeking seekHigh 0 0).axes[(1 : AxisNo)].dsl.owner = .cal ∧ op.lif.cues.length < 4 ∧ op.lif.mute = .off
      ∧ muted.lif.mute ≠ .off ∧ cueKindOf (8#8).toNat = some .calibrate ∧ 8 < (9#8).toNat
      ∧ op.svp.attention = false ∧ op.svp.snapArmed = true ∧ (after (.writeEnables 1) op).svp.snapArmed = false := by decide +kernel

theorem test_port_writes :
    (after (.lensTableWrite 1 2 [(0, 7), (0xFFFF, 9)]) op).axes[(1 : AxisNo)].lens.table = [(0, 7), (65535, 9)]
      ∧ (after (.lensTableWrite 1 1 [(0, 7), (0xFFFF, 9)]) op).svp.response = some (.refused .badTable)
      ∧ (after (.lensTableWrite 1 2 [(0, 7), (0xFFFF, 9)]) (seeking seekHigh 0 0)).svp.response = some (.refused .busy)
      ∧ (after (.lensTableWrite 5 2 [(0, 7), (0xFFFF, 9)]) op).svp.response = some (.refused .badArgs)
      ∧ (after (.sendCue 8 0 2 1) op).lif.cues.map CueSlot.attempts = [0] ∧ (after (.sendCue 8 0 2 1) op).tkq.cueSeq = 1
      ∧ (after (.sendCue 9 0 2 1) op).svp.response = some (.refused .badArgs)
      ∧ (after (.sendCue 8 0 2 1) muted).svp.response = some (.refused .queueFull)
      ∧ (after (.writeEnables 1) op).svp.attention = true ∧ (after (.writeEnables 0xFFFF) op).svp.enables = 0x03FF
      ∧ (after (.clearRequests 0xFFFE) (after (.writeEnables 1) op)).svp.attention = false
      ∧ (after (.writeEnables 1) op).svp.snap.map (fun x => (x.time, x.flags)) = some (5000, 1) := by decide +kernel

theorem test_meets_PortFailuresAreCounted :
    op.inReset = false ∧ (0x44#8 ∉ commandBytes) ∧ State.reset.inReset = false ∧ State.reset.cfl.load ≠ .runReady
      ∧ (held true).inReset = true ∧ (Instr.takeCreate 19 1 0 64).wf = true
      ∧ shiftedIn (.takeCreate 19 1 0 64) = some [0x11, 19, 1, 0, 0, 0, 64] ∧ argumentCount 0x11 = some 6 := by decide +kernel

/-- 12.5, R187: the bytes of a transfer, with fill before and after the response, and one that ends a byte early. -/
theorem test_transfers :
    (∀ b : Fin 256, (argumentCount (BitVec.ofFin b)).isSome = commandBytes.contains (BitVec.ofFin b))
      ∧ transferred [0x11, 19, 1, 0, 0, 0, 64, 0xFF] = (.takeCreate 19 1 0 64, 7)
      ∧ transferred [0x41, 0x01, 0x02] = (.clearRequests 0x0102, 3) ∧ transferred [0x11, 19] = (.shortTransfer false, 2)
      ∧ shiftedOut [0x40, 0, 0, 0, 0, 0, 0, 0] op = some [0xFF, 0, 0, 1, 0, 0, 0xFF, 0xFF]
      ∧ shiftedOut [0x40, 0, 0] (held true) = none
      ∧ (transfer [0x40, 0, 0, 0, 0, 0] op matches .next { svp := { shortTransfers := 0, .. }, .. })
      ∧ (transfer [0x40, 0, 0, 0, 0] op matches .next { svp := { shortTransfers := 1, responseCut := true, .. }, .. }) := by
  decide +kernel

theorem test_port_failures :
    (after (.badCommand 0x44) op).svp.badCommands = 1 ∧ (after (.shortTransfer true) op).svp.responseCut = true
      ∧ (after .readTakedir State.reset).svp.response = some (.refused .busy)
      ∧ (after .readStation (held true)).svp.response = none := by decide +kernel

end Sys2Proof.Machine.Tests
end

section
/-! PROOFS. The integer square root and the stopping bound of the Motion Profiler (R68, R70, R71). -/

namespace Sys2Proof.Machine

/-! ## The integer square root -/

/-- The bits still to be placed keep the number between the squares of r and r + 2^k, so the last bit leaves the floor
root. -/
theorem isqrtFrom_eq_sqrt {n k r : Nat} (hlow : r * r ≤ n) (hhigh : n < (r + 2 ^ k) * (r + 2 ^ k)) :
    isqrtFrom n k r = Nat.sqrt n := by
  induction k generalizing r with
  | zero => exact Nat.eq_sqrt.mpr ⟨hlow, hhigh⟩
  | succ k ih =>
    rw [isqrtFrom]
    by_cases hbit : (r + 2 ^ k) * (r + 2 ^ k) ≤ n
    · have htop : r + 2 ^ (k + 1) = r + 2 ^ k + 2 ^ k := by omega
      rw [if_pos hbit]
      exact ih hbit (htop ▸ hhigh)
    · rw [if_neg hbit]
      exact ih hlow (Nat.lt_of_not_le hbit)

/-- The model's integer square root is the floor square root of every 64-bit number. -/
theorem isqrt_eq_sqrt {n : Nat} (h : n < 2 ^ 64) : isqrt n = Nat.sqrt n :=
  isqrtFrom_eq_sqrt (Nat.zero_le n) (by simpa using h)

/-! ## The stopping bound (R68) -/

theorem stoppingBound_of_nonpos {x : Int} (s : Nat) (h : x ≤ 0) : stoppingBound x s = 0 := if_pos h

theorem radicand_bounds {x s : Nat} (hx : x ≤ 2 ^ 39) (hs : s ≤ 65535) : 8 * s * x < 2 ^ 58 ∧ s * s < 2 ^ 32 := by
  have hprod : s * x ≤ 65535 * 2 ^ 39 := Nat.mul_le_mul hs hx
  have hsquare : s * s ≤ 65535 * 65535 := Nat.mul_le_mul hs hs
  rw [Nat.mul_assoc]
  omega

/-- R68's evaluation, for the distance 0 as well, where the root is s. -/
theorem stoppingBound_eq_sqrt {x s : Nat} (hx : x ≤ 2 ^ 39) (hs : s ≤ 65535) :
    stoppingBound x s = ((Nat.sqrt (s * s + 8 * s * x) - s) / 2 : Nat) := by
  obtain rfl | hpos := Nat.eq_zero_or_pos x
  · simp [stoppingBound_of_nonpos]
  · have ⟨hprod, hsquare⟩ := radicand_bounds hx hs
    rw [stoppingBound, if_neg (by omega), Int.toNat_natCast, isqrt_eq_sqrt (by omega)]

/-- The evaluation is exact: 2w + s is within the root exactly when its square is within the radicand. -/
theorem le_half_sqrt_sub_iff {w s x : Nat} :
    w ≤ (Nat.sqrt (s * s + 8 * s * x) - s) / 2 ↔ w * w + s * w ≤ 2 * s * x := by
  have hstep : s ≤ Nat.sqrt (s * s + 8 * s * x) := Nat.le_sqrt.mpr (Nat.le_add_right _ _)
  calc w ≤ (Nat.sqrt (s * s + 8 * s * x) - s) / 2
      ↔ 2 * w + s ≤ Nat.sqrt (s * s + 8 * s * x) := by omega
    _ ↔ (2 * w + s) * (2 * w + s) ≤ s * s + 8 * s * x := Nat.le_sqrt
    _ ↔ w * w + s * w ≤ 2 * s * x := by constructor <;> intro h <;> linarith only [h]

/-! ## Where the profiler takes the bound (R70, R71) -/

theorem ProfilerInput.approach_eq (n : ProfilerInput) (d : Int) :
    n.approach d = d.sign * min (n.cap : Int) (stoppingBound d.natAbs n.cfg.a) := rfl

theorem ProfilerInput.limited_of_upEdge {n : ProfilerInput} {e : Int} (p g : Int) (hup : n.upEdge = some e)
    (hdown : n.downEdge = none) : n.limited p g = min g (stoppingBound (e * 256 - p) n.cfg.ad) := by
  simp [limited, freeUp, freeDown, hup, hdown, clampOpt, minOpt, maxOpt]

theorem ProfilerInput.limited_of_downEdge {n : ProfilerInput} {e : Int} (p g : Int) (hup : n.upEdge = none)
    (hdown : n.downEdge = some e) : n.limited p g = max g (-(stoppingBound (p - e * 256) n.cfg.ad)) := by
  simp [limited, freeUp, freeDown, hup, hdown, clampOpt, minOpt, maxOpt]

/-- Settles O18: the bound is the half difference of root and step, which `le_half_sqrt_sub_iff` makes the largest. -/
theorem stoppingBoundIsTheLargest : Obligations.StoppingBoundIsTheLargest := by
  refine ⟨fun x s hx hs => ?_, fun _ s => stoppingBound_of_nonpos s, ProfilerInput.approach_eq, fun n p g e =>
    ⟨ProfilerInput.limited_of_upEdge p g, ProfilerInput.limited_of_downEdge p g⟩⟩
  refine ⟨_, stoppingBound_eq_sqrt hx hs, le_half_sqrt_sub_iff.mp le_rfl, fun w => le_half_sqrt_sub_iff.mpr,
    fun r hlow hhigh => ?_, radicand_bounds hx hs⟩
  rw [Nat.eq_sqrt.mpr ⟨hlow, hhigh⟩]

end Sys2Proof.Machine
end

section
/-! PROOFS. The mapping of the Lens Map Unit: the shaped unit within its segment (R102) and the target count within the
guarded span (R103). -/

namespace Sys2Proof.Machine

/-! ## Truncated division -/

/-- A truncated fraction of a whole that is not negative lies between 0 and the whole. -/
theorem tdiv_fraction_of_nonneg {x n d : Int} (hx : 0 ≤ x) (hxn : x ≤ n) (hn : 0 < n) (hd : 0 ≤ d) :
    0 ≤ (x * d).tdiv n ∧ (x * d).tdiv n ≤ d := by
  have hprod : x * d ≤ d * n := mul_comm n d ▸ Int.mul_le_mul_of_nonneg_right hxn hd
  rw [Int.tdiv_eq_ediv_of_nonneg (Int.mul_nonneg hx hd)]
  exact ⟨Int.ediv_nonneg (Int.mul_nonneg hx hd) hn.le, Int.ediv_le_of_le_mul hn hprod⟩

/-- A truncated fraction lies between 0 and the whole, whatever the sign of the whole: truncation is odd. -/
theorem tdiv_fraction_bounds {x n : Int} (d : Int) (hx : 0 ≤ x) (hxn : x ≤ n) (hn : 0 < n) :
    min 0 d ≤ (x * d).tdiv n ∧ (x * d).tdiv n ≤ max 0 d := by
  obtain hd | hd := le_total 0 d
  · have hfraction := tdiv_fraction_of_nonneg hx hxn hn hd
    omega
  · have hmirrored := tdiv_fraction_of_nonneg hx hxn hn (Int.neg_nonneg_of_nonpos hd)
    rw [Int.mul_neg, Int.neg_tdiv] at hmirrored
    omega

/-! ## A segment (R102) -/

/-- The shaped unit of u in the segment from pair p to pair q. -/
def segmentUnit (p q : Nat × Nat) (u : Nat) : Int :=
  (p.2 : Int) + (((u : Int) - p.1) * ((q.2 : Int) - p.2)).tdiv ((q.1 : Int) - p.1)

theorem shapeUnit_of_lt {p q : Nat × Nat} {rest : List (Nat × Nat)} {u : Nat} (h : u < q.1) :
    shapeUnit (p :: q :: rest) u = segmentUnit p q u := if_pos h

theorem shapeUnit_of_le {p q : Nat × Nat} {rest : List (Nat × Nat)} {u : Nat} (h : q.1 ≤ u) :
    shapeUnit (p :: q :: rest) u = shapeUnit (q :: rest) u := if_neg h.not_gt

@[simp] theorem segmentUnit_first (p q : Nat × Nat) : segmentUnit p q p.1 = p.2 := by simp [segmentUnit]

theorem segmentUnit_bounds {p q : Nat × Nat} {u : Nat} (hp : p.1 ≤ u) (hq : u < q.1) :
    min (p.2 : Int) q.2 ≤ segmentUnit p q u ∧ segmentUnit p q u ≤ max (p.2 : Int) q.2 := by
  have hfraction := tdiv_fraction_bounds (x := (u : Int) - p.1) (n := (q.1 : Int) - p.1) ((q.2 : Int) - p.2)
    (by omega) (by omega) (by omega)
  rw [segmentUnit]
  omega

/-! ## A table (R100, R102) -/

/-- Neighbours that rise make a table that rises. -/
theorem rising_of_neighbours {t : List (Nat × Nat)} (h : (t.zip t.tail).all (fun p => decide (p.1.1 < p.2.1)) = true) :
    Rising t := by
  have : IsTrans (Nat × Nat) fun a b => a.1 < b.1 := ⟨fun _ _ _ => Nat.lt_trans⟩
  refine List.IsChain.pairwise ?_
  induction t with
  | nil => exact .nil
  | cons p t ih =>
    cases t with
    | nil => exact .singleton p
    | cons q rest =>
      obtain ⟨hpq, hrest⟩ : p.1 < q.1 ∧ ((q :: rest).zip rest).all (fun p => decide (p.1.1 < p.2.1)) = true := by
        simpa using h
      exact .cons_cons hpq (ih hrest)

/-- No unit of a rising table is above that of its last pair. -/
theorem Rising.le_getLast {t : List (Nat × Nat)} {p q : Nat × Nat} (h : Rising t) (hlast : t.getLast? = some p)
    (hq : q ∈ t) : q.1 ≤ p.1 := by
  obtain ⟨init, rfl⟩ := List.getLast?_eq_some_iff.mp hlast
  obtain ⟨_, _, hbelow⟩ := List.pairwise_append.mp h
  obtain hinit | hp := List.mem_append.mp hq
  · exact (hbelow q hinit p List.mem_cons_self).le
  · rw [List.mem_singleton.mp hp]

/-- A well-formed table (R100) rises from the unit 0 to the unit 65535. -/
theorem tableWellFormed_spans {t : List (Nat × Nat)} (h : tableWellFormed t = true) :
    Rising t ∧ (∃ p, t.head? = some p ∧ p.1 = 0) ∧ ∃ p, t.getLast? = some p ∧ p.1 = 65535 := by
  simp only [tableWellFormed, Bool.and_eq_true, beq_iff_eq, Option.map_eq_some_iff] at h
  obtain ⟨⟨⟨_, hhead⟩, hlast⟩, hrise⟩ := h
  exact ⟨rising_of_neighbours hrise, hhead, hlast⟩

/-- Two neighbouring pairs of the table hold u between them and shape it. -/
def ShapedBySegment (t : List (Nat × Nat)) (u : Nat) : Prop :=
  ∃ i p q, t[i]? = some p ∧ t[i + 1]? = some q ∧ p.1 ≤ u ∧ u < q.1 ∧ shapeUnit t u = segmentUnit p q u

/-- A unit from the first pair on and below the last falls into a segment. -/
theorem shapedBySegment_of_between {t : List (Nat × Nat)} {u : Nat} {first last : Nat × Nat} (hhead : t.head? = some first)
    (hfirst : first.1 ≤ u) (hend : t.getLast? = some last) (hlast : u < last.1) : ShapedBySegment t u := by
  induction t generalizing first with
  | nil => cases hhead
  | cons p t ih =>
    obtain rfl : p = first := by simpa using hhead
    cases t with
    | nil =>
      obtain rfl : p = last := by simpa using hend
      omega
    | cons q rest =>
      obtain hlt | hle := Nat.lt_or_ge u q.1
      · exact ⟨0, p, q, rfl, rfl, hfirst, hlt, shapeUnit_of_lt hlt⟩
      · obtain ⟨i, p', q', hi, hi', hp', hq', hshape⟩ := ih rfl hle (by simpa using hend)
        exact ⟨i + 1, p', q', hi, hi', hp', hq', (shapeUnit_of_le hle).trans hshape⟩

/-- At or above every unit of the table, the shaped unit is the m of the last pair. -/
theorem shapeUnit_of_all_le {t : List (Nat × Nat)} {u : Nat} {last : Nat × Nat} (hend : t.getLast? = some last)
    (hall : ∀ p ∈ t, p.1 ≤ u) : shapeUnit t u = last.2 := by
  induction t with
  | nil => cases hend
  | cons p t ih =>
    cases t with
    | nil =>
      obtain rfl : p = last := by simpa using hend
      rfl
    | cons q rest =>
      rw [shapeUnit_of_le (hall q (by simp))]
      exact ih (by simpa using hend) fun r hr => hall r (List.mem_cons_of_mem p hr)

theorem shapedBySegment_of_wellFormed {t : List (Nat × Nat)} {u : Nat} (h : tableWellFormed t = true) (hu : u < 65535) :
    ShapedBySegment t u := by
  obtain ⟨_, ⟨first, hhead, hfirst⟩, last, hend, hlast⟩ := tableWellFormed_spans h
  exact shapedBySegment_of_between hhead (by omega) hend (by omega)

theorem shapeUnit_at_end_of_wellFormed {t : List (Nat × Nat)} {last : Nat × Nat} (h : tableWellFormed t = true)
    (hend : t.getLast? = some last) : shapeUnit t 65535 = last.2 := by
  obtain ⟨hrise, _, p, hp, hlast⟩ := tableWellFormed_spans h
  obtain rfl : p = last := Option.some.inj (hp.symm.trans hend)
  exact shapeUnit_of_all_le hend fun q hq => hlast ▸ hrise.le_getLast hend hq

/-- The shaped unit of a lens unit is again one of 0 to 65535. -/
theorem shapeUnit_range {t : List (Nat × Nat)} {u : Nat} (h : tableWellFormed t = true) (hm : ∀ p ∈ t, p.2 ≤ 65535)
    (hu : u ≤ 65535) : 0 ≤ shapeUnit t u ∧ shapeUnit t u ≤ 65535 := by
  obtain hlt | rfl := Nat.lt_or_eq_of_le hu
  · obtain ⟨i, p, q, hi, hi', hp, hq, hshape⟩ := shapedBySegment_of_wellFormed h hlt
    have hbounds := segmentUnit_bounds hp hq
    have hpm := hm p (List.mem_of_getElem? hi)
    have hqm := hm q (List.mem_of_getElem? hi')
    omega
  · obtain ⟨_, _, last, hend, _⟩ := tableWellFormed_spans h
    have hlast := hm last (List.mem_of_getLast? hend)
    have hshape := shapeUnit_at_end_of_wellFormed h hend
    omega

/-! ## The target count (R103) -/

theorem scaleUnit_eq_fdiv (low high : Int) (guardBand : Nat) (m : Int) :
    scaleUnit low high guardBand m
      = (low + guardBand) + (m * ((high - guardBand) - (low + guardBand))).fdiv 65535 := by
  rw [Int.fdiv_eq_ediv_of_nonneg _ (by decide), scaleUnit]

@[simp] theorem scaleUnit_zero (low high : Int) (guardBand : Nat) : scaleUnit low high guardBand 0 = low + guardBand := by
  simp [scaleUnit]

@[simp] theorem scaleUnit_full (low high : Int) (guardBand : Nat) :
    scaleUnit low high guardBand 65535 = high - guardBand := by
  rw [scaleUnit, Int.mul_ediv_cancel_left _ (by decide)]
  omega

/-- A larger shaped unit never gives a smaller target count. -/
theorem scaleUnit_mono {low high : Int} {guardBand : Nat} (hspan : low + guardBand ≤ high - guardBand) {m n : Int}
    (h : m ≤ n) : scaleUnit low high guardBand m ≤ scaleUnit low high guardBand n :=
  Int.add_le_add_left (Int.ediv_le_ediv (by decide) (Int.mul_le_mul_of_nonneg_right h (Int.sub_nonneg_of_le hspan))) _

/-- Settles O21: the segment that holds u shapes it, and scaling keeps the order of 0, the shaped unit and 65535. -/
theorem lensMapStaysInside : Obligations.LensMapStaysInside := by
  intro table low high guardBand u hwf hm hu hspan
  have ⟨hnonneg, hle⟩ := shapeUnit_range hwf hm hu
  refine ⟨fun hlt => ?_, fun p hu' hend => ?_, scaleUnit_eq_fdiv low high guardBand, ?_, ?_, scaleUnit_zero ..,
    scaleUnit_full ..⟩
  · obtain ⟨i, ⟨u0, m0⟩, ⟨u1, m1⟩, hi, hi', hp, hq, hshape⟩ := shapedBySegment_of_wellFormed hwf hlt
    have ⟨hlow, hhigh⟩ := segmentUnit_bounds hp hq
    refine ⟨i, u0, m0, u1, m1, hi, hi', hp, hq, hshape, hshape ▸ hlow, hshape ▸ hhigh, ?_⟩
    rintro rfl
    rw [hshape, segmentUnit_first]
  · rw [hu', shapeUnit_at_end_of_wellFormed hwf hend]
  · rw [← scaleUnit_zero low high guardBand]
    exact scaleUnit_mono hspan hnonneg
  · rw [← scaleUnit_full low high guardBand]
    exact scaleUnit_mono hspan hle

end Sys2Proof.Machine
end

section
/-! PROOFS. What holds the part in reset (R182): only the supply and the reset pin change it, so no operation of an event
does. One lemma for each operation, in the order of their definitions, up to the close of a control period. -/

namespace Sys2Proof.Machine

/-! ## Reactions -/

/-- Where the quiet parts agree, the reset sources do. -/
theorem hold_of_quiet {s t : State} (h : t.quiet = s.quiet) : t.hold = s.hold :=
  congrArg (·.hold) h

@[simp] theorem takeCause_hold (loc : Bool) (o : StationNo) (k : Cause) (c : Category) (s : State) :
    (takeCause loc o k c s).hold = s.hold := hold_of_quiet (takeCause_quiet ..)

@[simp] theorem giveCause_hold (k : Cause) (c : Category) (s : State) : (giveCause k c s).hold = s.hold :=
  hold_of_quiet (giveCause_quiet ..)

@[simp] theorem giveCauseIf_hold (b : Bool) (k : Cause) (c : Category) (s : State) :
    (giveCauseIf b k c s).hold = s.hold := hold_of_quiet (giveCauseIf_quiet ..)

@[simp] theorem reformZones_hold (f : ZoneNo → Bool) (s : State) : (reformZones f s).hold = s.hold :=
  hold_of_quiet (reformZones_quiet ..)

@[simp] theorem reformGates_hold (f : AxisNo → Bool) (s : State) : (reformGates f s).hold = s.hold := rfl

@[simp] theorem peerReaders_hold (b : Bool) (st : StationNo) (s : State) : (peerReaders b st s).hold = s.hold :=
  hold_of_quiet (peerReaders_quiet ..)

@[simp] theorem linkZones_hold (i : AxisNo) (s : State) : (linkZones i s).hold = s.hold :=
  hold_of_quiet (linkZones_quiet ..)

@[simp] theorem endEvent_hold (s : State) : (endEvent s).hold = s.hold := hold_of_quiet (endEvent_quiet s)

/-! ## Lens, demands, profiler -/

@[simp] theorem endDirection_hold (i : AxisNo) (s : State) : (endDirection i s).hold = s.hold := rfl

@[simp] theorem failSeek_hold (i : AxisNo) (r : CalReason) (s : State) : (failSeek i r s).hold = s.hold := rfl

@[simp] theorem startSeek_hold (i : AxisNo) (s : State) : (startSeek i s).hold = s.hold := rfl

@[simp] theorem receiveDemand_hold (st : StationNo) (m : DemandMsg) (s : State) : (receiveDemand st m s).hold = s.hold := by
  unfold receiveDemand; split_ifs <;> rfl

@[simp] theorem demandWork_hold (s : State) : (demandWork s).hold = s.hold := rfl

@[simp] theorem computeAxes_hold (s : State) : (computeAxes s).hold = s.hold := rfl

@[simp] theorem giveFollow_hold (s : State) : (giveFollow s).hold = s.hold :=
  foldl_keeps State.hold _ (fun _ _ => giveCauseIf_hold ..) _ _

/-! ## The way back from a stop -/

@[simp] theorem evaluateResume_hold (s : State) : (evaluateResume s).hold = s.hold := by
  unfold evaluateResume
  split
  · split <;> rfl
  · rfl

@[simp] theorem startAutoSeeks_hold (s : State) : (startAutoSeeks s).hold = s.hold :=
  foldl_keeps State.hold _ (fun _ _ => by split <;> rfl) _ _

@[simp] theorem judgeReleased_hold (s : State) : (judgeReleased s).hold = s.hold := by
  unfold judgeReleased enterRun; split <;> simp

@[simp] theorem giveEncLost_hold (s : State) : (giveEncLost s).hold = s.hold :=
  foldl_keeps State.hold _ (fun _ _ => giveCauseIf_hold ..) _ _

@[simp] theorem driveOnWork_hold (s : State) : (driveOnWork s).hold = s.hold := by
  unfold driveOnWork startReleases switchDrivesOn; dsimp only; split <;> simp

@[simp] theorem releaseWork_hold (i : AxisNo) (s : State) : (releaseWork i s).hold = s.hold := by simp [releaseWork]

@[simp] theorem brakeWork_hold (i : AxisNo) (s : State) : (brakeWork i s).hold = s.hold := rfl

/-! ## Input lines -/

@[simp] theorem followEstop_hold (k : LineNo) (raw : Bool) (s : State) : (followEstop k raw s).hold = s.hold :=
  giveCauseIf_hold ..

@[simp] theorem sampleLines_hold (levels : Word16) (s : State) : (sampleLines levels s).hold = s.hold :=
  foldl_keeps State.hold _ (fun _ _ => by split <;> simp) _ _

@[simp] theorem buttonCue_hold (k : CueKind) (n m : Byte) (s : State) : (buttonCue k n m s).hold = s.hold := by
  unfold buttonCue; split <;> rfl

@[simp] theorem armedButton_hold (k : CueKind) (s : State) : (armedButton k s).hold = s.hold := by
  unfold armedButton; split <;> simp

@[simp] theorem limitEdge_hold (i : AxisNo) (highEnd : Bool) (s : State) : (limitEdge i highEnd s).hold = s.hold := by
  unfold limitEdge; split <;> simp

@[simp] theorem judgeGroup_hold (g : GroupNo) (s : State) : (judgeGroup g s).hold = s.hold := giveCauseIf_hold ..

@[simp] theorem lineActs_hold (f : LineFunction) (g : GroupNo) (first active : Bool) (s : State) :
    (lineActs f g first active s).hold = s.hold := by
  unfold lineActs
  split
  case h_1 | h_3 | h_4 | h_8 => simp
  all_goals split <;> simp

@[simp] theorem qualifiedEdgeWork_hold (k : LineNo) (s : State) : (qualifiedEdgeWork k s).hold = s.hold :=
  lineActs_hold ..

/-! ## Takes and cues -/

@[simp] theorem armRecordTake_hold (c : CueMsg) (s : State) : (armRecordTake c s).hold = s.hold := by
  unfold armRecordTake; split <;> rfl

@[simp] theorem armPlayTake_hold (c : CueMsg) (s : State) : (armPlayTake c s).hold = s.hold := by
  unfold armPlayTake
  split
  · rfl
  · split <;> rfl

@[simp] theorem judgePreroll_hold (s : State) : (judgePreroll s).hold = s.hold := by
  unfold judgePreroll; split <;> rfl

@[simp] theorem goTake_hold (c : CueMsg) (s : State) : (goTake c s).hold = s.hold := by
  unfold goTake
  split
  · rfl
  · split
    · rfl
    · unfold goPlay; split <;> rfl
    · rfl

@[simp] theorem haltTake_hold (c : CueMsg) (s : State) : (haltTake c s).hold = s.hold := by
  unfold haltTake; split <;> rfl

@[simp] theorem disarmTake_hold (c : CueMsg) (s : State) : (disarmTake c s).hold = s.hold := by
  unfold disarmTake; split <;> rfl

@[simp] theorem abortWithoutStop_hold (s : State) : (abortWithoutStop s).hold = s.hold := rfl

@[simp] theorem participantSeen_hold (st : StationNo) (m : StatusMsg) (s : State) :
    (participantSeen st m s).hold = s.hold := by
  unfold participantSeen
  split
  · split
    case h_6 => rfl
    all_goals split <;> rfl
  · rfl

@[simp] theorem playStep_hold (s : State) : (playStep s).hold = s.hold := by
  unfold playStep
  split
  · dsimp only; split <;> rfl
  · rfl

@[simp] theorem takeStep_hold (s : State) : (takeStep s).hold = s.hold := by
  unfold takeStep
  split
  · split
    · simp
    · rfl
    · rfl
  · rfl

@[simp] theorem endReachedWork_hold (s : State) : (endReachedWork s).hold = s.hold := rfl

@[simp] theorem appendWork_hold (s : State) : (appendWork s).hold = s.hold := rfl

@[simp] theorem eraseCue_hold (c : CueMsg) (s : State) : (eraseCue c s).hold = s.hold := by
  unfold eraseCue
  split
  · rfl
  · split <;> rfl

@[simp] theorem calibrateCue_hold (c : CueMsg) (s : State) : (calibrateCue c s).hold = s.hold := by
  refine foldl_keeps State.hold _ (fun _ _ => ?_) _ _
  split
  · unfold calibrateAxis; split <;> rfl
  · rfl

@[simp] theorem dispatchCue_hold (c : CueMsg) (s : State) : (dispatchCue c s).hold = s.hold := by
  unfold dispatchCue; split <;> simp

@[simp] theorem takeCue_hold (st : StationNo) (c : CueMsg) (s : State) : (takeCue st c s).hold = s.hold := by
  unfold takeCue; dsimp only; split <;> simp

/-! ## Encoder links and AXIS messages -/

@[simp] theorem testTravel_hold (i : AxisNo) (s : State) : (testTravel i s).hold = s.hold := by
  unfold testTravel; split <;> rfl

@[simp] theorem setLink_hold (i : AxisNo) (l : Link) (s : State) : (setLink i l s).hold = s.hold := rfl

@[simp] theorem dwellWork_hold (i : AxisNo) (s : State) : (dwellWork i s).hold = s.hold := by simp [dwellWork]

@[simp] theorem windowWork_hold (i : AxisNo) (s : State) : (windowWork i s).hold = s.hold := rfl

@[simp] theorem encoderWork_hold (i : AxisNo) (samples : List Bool) (s : State) : (encoderWork i samples s).hold = s.hold := by
  simp [encoderWork]

@[simp] theorem axisWork_hold (s : State) : (axisWork s).hold = s.hold := rfl

/-! ## Frames, received and sent -/

@[simp] theorem setPeer_hold (st : StationNo) (e : PeerEntry) (changed : Bool) (s : State) :
    (setPeer st e changed s).hold = s.hold := rfl

@[simp] theorem receiveStatus_hold (st : StationNo) (m : StatusMsg) (s : State) : (receiveStatus st m s).hold = s.hold := by
  simp [receiveStatus]

@[simp] theorem livenessWork_hold (st : StationNo) (s : State) : (livenessWork st s).hold = s.hold := by
  simp [livenessWork]

@[simp] theorem receiveAxis_hold (st : StationNo) (i : AxisNo) (m : AxisMsg) (s : State) :
    (receiveAxis st i m s).hold = s.hold := reformZones_hold ..

@[simp] theorem hearDemand_hold (st : StationNo) (i : Fin 4) (m : DemandMsg) (s : State) :
    (hearDemand st i m s).hold = s.hold := receiveDemand_hold ..

@[simp] theorem receiveStop_hold (m : StopMsg) (s : State) : (receiveStop m s).hold = s.hold := by
  unfold receiveStop; split <;> simp

@[simp] theorem handFrame_hold (f : Frame) (s : State) : (handFrame f s).hold = s.hold := by
  unfold handFrame
  split
  case h_5 => simp
  case h_7 => rfl
  case h_2 | h_3 =>
    split
    · split <;> simp
    · rfl
  all_goals split <;> simp

@[simp] theorem findDuplicate_hold (s : State) : (findDuplicate s).hold = s.hold := by
  unfold findDuplicate; split <;> simp

@[simp] theorem carryOut_hold (f : Frame) (v : Verdict) (s : State) : (carryOut f v s).hold = s.hold := by
  unfold carryOut; dsimp only; split <;> simp

@[simp] theorem receiveFrame_hold (f : Frame) (s : State) : (receiveFrame f s).hold = s.hold := by
  unfold receiveFrame
  split
  · simp
  · split <;> rfl

@[simp] theorem judgeMute_hold (s : State) : (judgeMute s).hold = s.hold := by
  unfold judgeMute; split <;> simp

@[simp] theorem receiveLate_hold (cells : List Bool) (s : State) : (receiveLate cells s).hold = s.hold := by
  unfold receiveLate; dsimp only; split <;> simp

@[simp] theorem endAttempt_hold (f : TxFrame) (r : AttemptResult) (cells : List Bool) (s : State) :
    (endAttempt f r cells s).hold = s.hold := by
  unfold endAttempt; dsimp only; split <;> simp

@[simp] theorem attemptWork_hold (cells : List Bool) (s : State) : (attemptWork cells s).hold = s.hold := by
  unfold attemptWork
  split
  · rfl
  · split <;> simp

@[simp] theorem probeWork_hold (s : State) : (probeWork s).hold = s.hold := rfl

@[simp] theorem escalateWork_hold (s : State) : (escalateWork s).hold = s.hold := rfl

@[simp] theorem windowEndWork_hold (s : State) : (windowEndWork s).hold = s.hold := rfl

@[simp] theorem statusWork_hold (s : State) : (statusWork s).hold = s.hold := rfl

/-! ## The load and the control period -/

@[simp] theorem beginOperation_hold (img : List Byte) (s : State) : (beginOperation img s).hold = s.hold := rfl

@[simp] theorem firstPeriod_hold (levels : Word16) (s : State) : (firstPeriod levels s).hold = s.hold := by
  simp [firstPeriod]

/-- An event whose effect keeps the reset sources keeps them. -/
theorem eventIf_hold {cond : State → Bool} {f : State → State} (hf : ∀ s, (f s).hold = s.hold) (s : State) :
    (eventIf cond f s).hold = s.hold := by
  obtain heq | ⟨-, -, heq⟩ := eventIf_cases cond f s <;> rw [heq]
  rw [endEvent_hold, hf]

@[simp] theorem qualifiedEdgeStep_hold (k : LineNo) (s : State) : (qualifiedEdgeStep k s).hold = s.hold :=
  eventIf_hold (qualifiedEdgeWork_hold k) s

@[simp] theorem driveOnStep_hold (s : State) : (driveOnStep s).hold = s.hold := eventIf_hold driveOnWork_hold s

@[simp] theorem releaseStep_hold (i : AxisNo) (s : State) : (releaseStep i s).hold = s.hold :=
  eventIf_hold (releaseWork_hold i) s

@[simp] theorem brakeStep_hold (i : AxisNo) (s : State) : (brakeStep i s).hold = s.hold := eventIf_hold (brakeWork_hold i) s

@[simp] theorem livenessStep_hold (st : StationNo) (s : State) : (livenessStep st s).hold = s.hold :=
  eventIf_hold (livenessWork_hold st) s

@[simp] theorem reportStaleStep_hold (st : StationNo) (i : AxisNo) (s : State) : (reportStaleStep st i s).hold = s.hold :=
  eventIf_hold (fun _ => reformZones_hold ..) s

@[simp] theorem demandTimeoutStep_hold (i : AxisNo) (s : State) : (demandTimeoutStep i s).hold = s.hold := by
  refine eventIf_hold (fun _ => ?_) s; rfl

@[simp] theorem probeStep_hold (s : State) : (probeStep s).hold = s.hold := eventIf_hold probeWork_hold s

@[simp] theorem escalationStep_hold (s : State) : (escalationStep s).hold = s.hold := eventIf_hold escalateWork_hold s

@[simp] theorem checkWindowStep_hold (s : State) : (checkWindowStep s).hold = s.hold := eventIf_hold windowEndWork_hold s

@[simp] theorem holdLimitStep_hold (s : State) : (holdLimitStep s).hold = s.hold := eventIf_hold abortWithoutStop_hold s

@[simp] theorem endReachedStep_hold (s : State) : (endReachedStep s).hold = s.hold := eventIf_hold endReachedWork_hold s

@[simp] theorem sampleAppendStep_hold (s : State) : (sampleAppendStep s).hold = s.hold := eventIf_hold appendWork_hold s

@[simp] theorem seekStallStep_hold (i : AxisNo) (s : State) : (seekStallStep i s).hold = s.hold :=
  eventIf_hold (endDirection_hold i) s

@[simp] theorem blockedStep_hold (i : AxisNo) (s : State) : (blockedStep i s).hold = s.hold :=
  eventIf_hold (failSeek_hold i .blocked) s

@[simp] theorem dwellStep_hold (i : AxisNo) (s : State) : (dwellStep i s).hold = s.hold := eventIf_hold (dwellWork_hold i) s

@[simp] theorem windowStep_hold (i : AxisNo) (s : State) : (windowStep i s).hold = s.hold :=
  eventIf_hold (windowWork_hold i) s

@[simp] theorem demandStep_hold (s : State) : (demandStep s).hold = s.hold := eventIf_hold demandWork_hold s

@[simp] theorem axisStep_hold (s : State) : (axisStep s).hold = s.hold := eventIf_hold axisWork_hold s

@[simp] theorem statusStep_hold (s : State) : (statusStep s).hold = s.hold := eventIf_hold statusWork_hold s

@[simp] theorem encoderStep_hold (i : AxisNo) (samples : List Bool) (s : State) :
    (encoderStep i samples s).hold = s.hold := by
  rw [encoderStep, eventIf_hold (encoderWork_hold i samples), windowStep_hold, dwellStep_hold]

@[simp] theorem restingRead_hold (i : AxisNo) (s : State) : (restingRead i s).hold = s.hold := encoderStep_hold i [] s

/-- A station that a period's close finds released is still released after it (log 3). -/
@[simp] theorem closePeriod_hold (s : State) : (closePeriod s).hold = s.hold := by
  simp [closePeriod, foldl_keeps State.hold]

@[simp] theorem periodStart_hold (levels : Word16) (s : State) : (periodStart levels s).hold = s.hold := by
  simp [periodStart, advanceTime]

end Sys2Proof.Machine
end

section
/-! PROOFS. The attention output (R182, R192). What can raise a flag is an event or a change of the store, and each ends
with the forming of attention; the resets and the rest of the service port keep attention, flags and mask together. -/

namespace Sys2Proof.Machine

/-! ## Flags that call -/

/-- A flag calls exactly while its bit and its enable bit are both set (R192). -/
theorem Svp.calling_iff (p : Svp) :
    p.calling = true ↔ ∃ k : Nat, p.flags.getLsbD k = true ∧ p.enables.getLsbD k = true := by
  rw [Svp.calling, bne_iff_ne]
  constructor
  · contrapose!
    intro hnone
    refine BitVec.eq_of_getLsbD_eq fun k _ => ?_
    simpa using hnone k
  · rintro ⟨k, hflag, henable⟩ hzero
    have hbit := congrArg (·.getLsbD k) hzero
    simp [hflag, henable] at hbit

/-- With an empty enable mask no flag calls. -/
theorem Svp.calling_of_enables_zero {p : Svp} (h : p.enables = 0) : p.calling = false := by simp [Svp.calling, h]

theorem State.attends.attention_iff {s : State} (h : s.attends) :
    s.svp.attention = true ↔
      s.inReset = false ∧ ∃ k : Nat, s.svp.flags.getLsbD k = true ∧ s.svp.enables.getLsbD k = true := by
  rw [← Svp.calling_iff, h, Bool.and_eq_true, Bool.not_eq_true']

/-! ## Events -/

theorem inReset_congr {s t : State} (h : t.hold = s.hold) : t.inReset = s.inReset := by
  rw [State.inReset, State.inReset, h]

/-- Every event of a released station ends with attention as the flags call for it. -/
theorem endEvent_attends {s : State} (h : s.inReset = false) : (endEvent s).attends :=
  formAttention_attends ((inReset_congr (endEvent_hold s)).trans h)

/-- An effect on an operating station that keeps the reset sources, and what follows it, leave attention formed. -/
theorem endEvent_attends_of_operating {s t : State} (hop : s.operating = true) (hold : t.hold = s.hold) :
    (endEvent t).attends :=
  endEvent_attends ((inReset_congr hold).trans (operating_released hop))

theorem event_attends {f : State → State} (hf : ∀ s, (f s).hold = s.hold) {s : State} (h : s.attends) :
    (event f s).attends := by
  unfold event
  split
  · next hop => exact endEvent_attends_of_operating hop (hf s)
  · exact h

theorem eventIf_attends {cond : State → Bool} {f : State → State} (hf : ∀ s, (f s).hold = s.hold) {s : State}
    (h : s.attends) : (eventIf cond f s).attends := by
  obtain heq | ⟨hop, -, heq⟩ := eventIf_cases cond f s <;> rw [heq]
  · exact h
  · exact endEvent_attends_of_operating hop (hf s)

theorem demandTimeoutStep_attends (i : AxisNo) {s : State} (h : s.attends) : (demandTimeoutStep i s).attends := by
  refine eventIf_attends (fun _ => ?_) h; rfl

theorem encoderStep_attends (i : AxisNo) (samples : List Bool) {s : State} (h : s.attends) :
    (encoderStep i samples s).attends :=
  eventIf_attends (encoderWork_hold i samples) (eventIf_attends (windowWork_hold i) (eventIf_attends (dwellWork_hold i) h))

theorem boundary_attends (levels : Word16) {s : State} (h : s.attends) : (boundary levels s).attends := by
  unfold boundary periodCompute
  split
  · next hop => exact endEvent_attends_of_operating hop (by simp)
  · split <;> exact h

theorem observeWheel_attends (k : WheelNo) (a b : Bool) {s : State} (h : s.attends) : (observeWheel k a b s).attends := by
  unfold observeWheel; split <;> exact h

theorem startOpportunity_attends (idle : Nat) {s : State} (h : s.attends) : (startOpportunity idle s).attends := by
  unfold startOpportunity; split <;> exact h

/-- Outside operation a frame changes nothing but the Line Interface (R24, R185). -/
theorem receiveFrame_svp_of_not_operating (f : Frame) {s : State} (h : s.operating ≠ true) :
    (receiveFrame f s).svp = s.svp := by
  rw [receiveFrame, if_neg h]; split <;> rfl

/-- The invariant depends on the reset sources and the service port alone. -/
theorem attends_of_eq {s t : State} (hold : t.hold = s.hold) (hsvp : t.svp = s.svp) (h : s.attends) : t.attends := by
  rw [State.attends, hsvp, inReset_congr hold]; exact h

theorem frameStep_attends (f : Frame) {s : State} (h : s.attends) : (frameStep f s).attends := by
  unfold frameStep
  split
  · next hop => exact endEvent_attends_of_operating hop (receiveFrame_hold f s)
  · next hop => exact attends_of_eq (receiveFrame_hold f s) (receiveFrame_svp_of_not_operating f hop) h

theorem cueStep_attends (k : CueKind) (w : Wire) {s : State} (h : s.attends) : (cueStep k w s).attends := by
  unfold cueStep
  split
  · exact h
  · exact frameStep_attends _ h

/-! ## Resets and the load -/

/-- A part held in reset does not assert attention (R182). -/
theorem holdPins_attends {s : State} (h : s.inReset = true) : (holdPins s).attends := by
  have hheld : (holdPins s).inReset = true := h
  rw [State.attends, hheld]; rfl

theorem powerOnHold_attends (s : State) : (powerOnHold s).attends := holdPins_attends rfl

theorem pinHold_attends (lowMicros : Nat) {s : State} (h : s.attends) : (pinHold lowMicros s).attends := by
  unfold pinHold
  split
  · exact h
  · exact holdPins_attends (Bool.or_true _)

/-- A start begins released, with an empty enable mask and attention not asserted. -/
theorem beginStart_svp (s : State) :
    (beginStart s).inReset = false ∧ (beginStart s).svp.enables = 0 ∧ (beginStart s).svp.attention = false := by
  unfold beginStart; split <;> exact ⟨rfl, rfl, rfl⟩

theorem releaseReset_attends {s : State} (h : s.attends) : (releaseReset s).attends := by
  unfold releaseReset
  split
  · obtain ⟨-, henables, hattention⟩ := beginStart_svp s
    rw [State.attends, hattention, Svp.calling_of_enables_zero henables, Bool.and_false]
  · exact h

theorem readStart_attends {s : State} (h : s.attends) : (readStart s).attends := by
  unfold readStart; split <;> exact h

theorem loadingRead_released {s : State} {begun : Bool} (h : s.loadingRead begun = true) : s.inReset = false := by
  simp only [State.loadingRead, Bool.and_eq_true, Bool.not_eq_true'] at h
  obtain ⟨⟨hreset, -⟩, -⟩ := h
  exact hreset

theorem readDone_attends (image : List Byte) (levels : Word16) {s : State} (h : s.attends) :
    (readDone image levels s).attends := by
  unfold readDone
  split
  · next hread =>
    split
    · exact h
    · have hold := (firstPeriod_hold levels _).trans (beginOperation_hold (image.take 1024) s)
      exact endEvent_attends ((inReset_congr hold).trans (loadingRead_released hread))
  · exact h

/-! ## The service port -/

@[simp] theorem respond_hold (r : Response) (s : State) : (respond r s).hold = s.hold := rfl

theorem respond_attends (r : Response) {s : State} (h : s.attends) : (respond r s).attends := h

/-- A command that its port carries out is given to a released station. -/
theorem portCommand_attends {always : Bool} {f : State → State} {s : State} (hf : s.inReset = false → (f s).attends)
    (h : s.attends) : (portCommand always f s).attends := by
  unfold portCommand
  split
  · exact h
  · next hreset =>
    split
    · exact hf (Bool.eq_false_of_not_eq_true hreset)
    · exact respond_attends _ h

theorem portCommand_always {f : State → State} {s : State} (h : s.inReset = false) : portCommand true f s = f s := by
  simp [portCommand, h]

theorem readPeerWork_attends (st : Byte) {s : State} (h : s.attends) : (readPeerWork st s).attends := by
  unfold readPeerWork; split <;> exact respond_attends _ h

theorem readAxisWork_attends (axis : Byte) {s : State} (h : s.attends) : (readAxisWork axis s).attends := by
  unfold readAxisWork; split <;> exact respond_attends _ h

theorem takeReadWork_attends (n : Byte) (b : Word16) {s : State} (h : s.attends) : (takeReadWork n b s).attends := by
  unfold takeReadWork; split <;> exact respond_attends _ h

theorem takeCreateWork_attends (n m p : Byte) (len : BitVec 24) {s : State} (h : s.inReset = false) :
    (takeCreateWork n m p len s).attends := by
  refine formAttention_attends ((inReset_congr ?_).trans h)
  unfold answer
  split
  · rfl
  · unfold createNow; rw [respond_hold]; split <;> rfl

/-- A store whose directory is as it was raises no flag (R150). -/
theorem setStore_svp_of_dir {t : Tks} {s : State} (h : t.dir = s.tks.dir) : (setStore t s).svp = s.svp := by
  simp [setStore, Svp.raiseIf, h]

theorem takeWriteWork_attends (n : Byte) (b : Word16) (ws : List Word32) {s : State} (h : s.attends) :
    (takeWriteWork n b ws s).attends := by
  unfold takeWriteWork
  split
  · exact respond_attends _ h
  · split
    · exact respond_attends _ (attends_of_eq (setStore_hold ..) (setStore_svp_of_dir rfl) h)
    · exact respond_attends _ h

theorem takeCloseWork_attends (n : Byte) {s : State} (hreset : s.inReset = false) (h : s.attends) :
    (takeCloseWork n s).attends := by
  unfold takeCloseWork
  split
  · exact respond_attends _ h
  · exact formAttention_attends hreset

theorem takeEraseWork_attends (n : Byte) {s : State} (hreset : s.inReset = false) (h : s.attends) :
    (takeEraseWork n s).attends := by
  unfold takeEraseWork
  split
  · exact respond_attends _ h
  · split
    · exact respond_attends _ h
    · exact formAttention_attends hreset

theorem lensTableWriteWork_attends (axis count : Byte) (pairs : List (Word16 × Word16)) {s : State} (h : s.attends) :
    (lensTableWriteWork axis count pairs s).attends := by
  unfold lensTableWriteWork
  split
  · exact respond_attends _ h
  · split_ifs <;> exact respond_attends _ h

theorem lensTableReadWork_attends (axis : Byte) {s : State} (h : s.attends) : (lensTableReadWork axis s).attends := by
  unfold lensTableReadWork; split <;> exact respond_attends _ h

theorem sendCueWork_attends (k n m p : Byte) {s : State} (h : s.attends) : (sendCueWork k n m p s).attends := by
  unfold sendCueWork
  split
  · exact respond_attends _ h
  · split_ifs <;> exact respond_attends _ h

theorem badCommandWork_attends (c : Byte) {s : State} (h : s.attends) : (badCommandWork c s).attends := by
  unfold badCommandWork; split <;> exact h

/-! ## WRITE-ENABLES -/

/-- The request flags are bits 0 to 9 (12.4). -/
theorem getLsbD_flagMask (k : Nat) : flagMask.getLsbD k = decide (k < 10) := by
  have hmask : flagMask = (BitVec.allOnes 10).setWidth 16 := rfl
  rw [hmask, BitVec.getLsbD_setWidth, BitVec.getLsbD_allOnes, ← Bool.decide_and]
  exact decide_eq_decide.mpr (by omega)

theorem writeEnablesWork_enables (mask : Word16) (s : State) : (writeEnablesWork mask s).svp.enables = mask &&& flagMask :=
  rfl

theorem writeEnablesWork_flags (mask : Word16) (s : State) : (writeEnablesWork mask s).svp.flags = s.svp.flags := rfl

theorem writeEnablesWork_attention (mask : Word16) (s : State) :
    (writeEnablesWork mask s).svp.attention = (writeEnablesWork mask s).svp.calling := rfl

/-! ## Every step -/

/-- Every command leaves attention formed, or as it was together with what it is formed from. -/
theorem exec_attends (c : Instr) {s : State} (h : s.attends) : ∃ t, exec c s = .next t ∧ t.attends := by
  cases c with
  | powerOnReset => exact ⟨_, rfl, powerOnHold_attends s⟩
  | pinReset lowMicros => exact ⟨_, rfl, pinHold_attends lowMicros h⟩
  | resetRelease => exact ⟨_, rfl, releaseReset_attends h⟩
  | configReadStart => exact ⟨_, rfl, readStart_attends h⟩
  | configReadDone image levels => exact ⟨_, rfl, readDone_attends image levels h⟩
  | controlPeriodBoundary levels => exact ⟨_, rfl, boundary_attends levels h⟩
  | qualifiedEdge line => exact ⟨_, rfl, eventIf_attends (qualifiedEdgeWork_hold line) h⟩
  | estopEdge line level => exact ⟨_, rfl, eventIf_attends (followEstop_hold line level) h⟩
  | handwheelCount wheel a b => exact ⟨_, rfl, observeWheel_attends wheel a b h⟩
  | demandPeriodBoundary => exact ⟨_, rfl, eventIf_attends demandWork_hold h⟩
  | statusPeriod => exact ⟨_, rfl, eventIf_attends statusWork_hold h⟩
  | axisPeriod => exact ⟨_, rfl, eventIf_attends axisWork_hold h⟩
  | frameStart idle => exact ⟨_, rfl, startOpportunity_attends idle h⟩
  | attemptEnd cells => exact ⟨_, rfl, event_attends (attemptWork_hold cells) h⟩
  | probeDue => exact ⟨_, rfl, eventIf_attends probeWork_hold h⟩
  | statusEscalation => exact ⟨_, rfl, eventIf_attends escalateWork_hold h⟩
  | checkWindowEnd => exact ⟨_, rfl, eventIf_attends windowEndWork_hold h⟩
  | stopFrame w => exact ⟨_, rfl, frameStep_attends _ h⟩
  | statusFrame urgent w => exact ⟨_, rfl, frameStep_attends _ h⟩
  | demandFrame w => exact ⟨_, rfl, frameStep_attends _ h⟩
  | axisFrame w => exact ⟨_, rfl, frameStep_attends _ h⟩
  | unknownClass seven w => exact ⟨_, rfl, frameStep_attends _ h⟩
  | armRecord w => exact ⟨_, rfl, cueStep_attends .armRecord w h⟩
  | armPlay w => exact ⟨_, rfl, cueStep_attends .armPlay w h⟩
  | go w => exact ⟨_, rfl, cueStep_attends .go w h⟩
  | halt w => exact ⟨_, rfl, cueStep_attends .halt w h⟩
  | disarm w => exact ⟨_, rfl, cueStep_attends .disarm w h⟩
  | resume w => exact ⟨_, rfl, cueStep_attends .resume w h⟩
  | erase w => exact ⟨_, rfl, cueStep_attends .erase w h⟩
  | calibrate w => exact ⟨_, rfl, cueStep_attends .calibrate w h⟩
  | livenessTimeout st => exact ⟨_, rfl, eventIf_attends (livenessWork_hold st) h⟩
  | demandTimeout axis => exact ⟨_, rfl, demandTimeoutStep_attends axis h⟩
  | reportStale st axis => exact ⟨_, rfl, eventIf_attends (fun _ => reformZones_hold ..) h⟩
  | encoderRead axis samples => exact ⟨_, rfl, encoderStep_attends axis samples h⟩
  | dwellEnd axis => exact ⟨_, rfl, eventIf_attends (dwellWork_hold axis) h⟩
  | windowEnd axis => exact ⟨_, rfl, eventIf_attends (windowWork_hold axis) h⟩
  | seekStall axis => exact ⟨_, rfl, eventIf_attends (endDirection_hold axis) h⟩
  | blocked axis => exact ⟨_, rfl, eventIf_attends (failSeek_hold axis .blocked) h⟩
  | brakeTimer axis => exact ⟨_, rfl, eventIf_attends (brakeWork_hold axis) h⟩
  | driveOnBoundary => exact ⟨_, rfl, eventIf_attends driveOnWork_hold h⟩
  | releaseTimer axis => exact ⟨_, rfl, eventIf_attends (releaseWork_hold axis) h⟩
  | holdLimit => exact ⟨_, rfl, eventIf_attends abortWithoutStop_hold h⟩
  | endReached => exact ⟨_, rfl, eventIf_attends endReachedWork_hold h⟩
  | sampleAppend => exact ⟨_, rfl, eventIf_attends appendWork_hold h⟩
  | readStation => exact ⟨_, rfl, portCommand_attends (fun _ => h) h⟩
  | readPeer st => exact ⟨_, rfl, portCommand_attends (fun _ => readPeerWork_attends st h) h⟩
  | readAxis axis => exact ⟨_, rfl, portCommand_attends (fun _ => readAxisWork_attends axis h) h⟩
  | readInputs => exact ⟨_, rfl, portCommand_attends (fun _ => h) h⟩
  | readCounters => exact ⟨_, rfl, portCommand_attends (fun _ => h) h⟩
  | readTakedir => exact ⟨_, rfl, portCommand_attends (fun _ => h) h⟩
  | takeRead n b => exact ⟨_, rfl, portCommand_attends (fun _ => takeReadWork_attends n b h) h⟩
  | takeCreate n m p len => exact ⟨_, rfl, portCommand_attends (takeCreateWork_attends n m p len) h⟩
  | takeWrite n b ws => exact ⟨_, rfl, portCommand_attends (fun _ => takeWriteWork_attends n b ws h) h⟩
  | takeClose n => exact ⟨_, rfl, portCommand_attends (takeCloseWork_attends n · h) h⟩
  | takeErase n => exact ⟨_, rfl, portCommand_attends (takeEraseWork_attends n · h) h⟩
  | lensTableWrite axis n ps => exact ⟨_, rfl, portCommand_attends (fun _ => lensTableWriteWork_attends axis n ps h) h⟩
  | lensTableRead axis => exact ⟨_, rfl, portCommand_attends (fun _ => lensTableReadWork_attends axis h) h⟩
  | sendCue k n m p => exact ⟨_, rfl, portCommand_attends (fun _ => sendCueWork_attends k n m p h) h⟩
  | readRequests => exact ⟨_, rfl, portCommand_attends (fun _ => h) h⟩
  | clearRequests bits => exact ⟨_, rfl, portCommand_attends (fun hreset => formAttention_attends hreset) h⟩
  | writeEnables mask => exact ⟨_, rfl, portCommand_attends (fun hreset => formAttention_attends hreset) h⟩
  | readSnapshot => exact ⟨_, rfl, portCommand_attends (fun _ => h) h⟩
  | badCommand c => exact ⟨_, rfl, portCommand_attends (fun _ => badCommandWork_attends c h) h⟩
  | shortTransfer duringResponse => exact ⟨_, rfl, portCommand_attends (fun _ => h) h⟩

theorem step_attends {s t : State} (h : s.attends) (hstep : step s = .next t) : t.attends := by
  unfold step at hstep
  split at hstep
  · cases hstep; exact h
  · next c rest _ =>
    obtain ⟨u, hu, hattends⟩ := exec_attends c (s := { s with pending := rest }) h
    rw [hu] at hstep
    cases hstep
    exact hattends

theorem releaseReset_of_inReset {s : State} (h : s.inReset = true) : releaseReset s = beginStart s := if_pos h

/-- Settles O7: by `step_attends` each command ends in `formAttention` or leaves what attention is formed from. -/
theorem attentionIsKept : Obligations.AttentionIsKept := by
  refine ⟨fun s t h hstep => (step_attends h hstep).attention_iff, fun s t => step_attends, fun s h => ?_,
    fun mask s h => ?_⟩
  · obtain ⟨-, henables, hattention⟩ := beginStart_svp s
    exact ⟨_, congrArg Host.Outcome.next (releaseReset_of_inReset h), henables, hattention⟩
  · refine ⟨_, congrArg Host.Outcome.next (portCommand_always h), fun k => ?_, ?_⟩
    · rw [writeEnablesWork_enables, BitVec.getLsbD_and, getLsbD_flagMask]
    · rw [writeEnablesWork_attention, Svp.calling_iff, writeEnablesWork_flags]

end Sys2Proof.Machine
end

section
/-! PROOFS. Every command of the station runs through small changes of its state, each of a kind from one list. An
invariant then needs an argument for each kind of change, not for each command. -/

namespace Sys2Proof.Machine

/-! ## What the kinds of change may do -/

/-- The 16-bit counters of the Line Interface (R19, R20). -/
def Lif.counters (l : Lif) : List Nat :=
  [l.checkFailures, l.formatErrors, l.unknownClass, l.arbitrationLosses, l.bitErrors, l.unacknowledged, l.droppedCues,
    l.windowCount]

/-- A change of the Line Interface that keeps its bounds and its counters in range. -/
structure Lif.Fits (l q : Lif) : Prop where
  bounded : l.bounded → q.bounded
  counters : (∀ n ∈ l.counters, n ≤ 65535) → ∀ n ∈ q.counters, n ≤ 65535

/-- Such a change that leaves the mute state and the timers of the slots as they are, and frees no STATUS slot. -/
structure Lif.Steady (l q : Lif) : Prop extends Lif.Fits l q where
  mute : q.mute = l.mute
  probeTimer : q.probeTimer = l.probeTimer
  statusAge : q.statusAge = l.statusAge
  status : l.status.isSome = true → q.status.isSome = true

/-- A change of an axis that switches no drive on, releases no brake and starts no release timer. -/
structure AxisState.Secures (a b : AxisState) : Prop where
  enable : b.drive.enable = true → a.drive.enable = true
  released : b.drive.released = true → a.drive.released = true
  timer : b.releaseTimer ≠ none → a.releaseTimer ≠ none
  frameErrors : a.link.frameErrors ≤ 65535 → b.link.frameErrors ≤ 65535

/-- Such a change that leaves the profiler's position and velocity, the cap and the freshness timer as they are. -/
structure AxisState.Steady (a b : AxisState) : Prop extends AxisState.Secures a b where
  position : b.mpr.p = a.mpr.p
  velocity : b.mpr.v = a.mpr.v
  cap : b.cap = a.cap
  fresh : b.dsl.fresh = a.dsl.fresh

/-- A change of the take record and the store that keeps what is said of each of them. -/
structure State.Takes (s : State) (q : Tkq) (t : Tks) : Prop where
  mem : Memory.wf s.tks.mem → Memory.wf t.mem
  blocks : s.blocksSound → ({ s with tkq := q, tks := t } : State).blocksSound
  agrees : s.takeAgrees → ({ s with tkq := q, tks := t } : State).takeAgrees
  eraseIgnored : s.tks.eraseIgnored ≤ 65535 → t.eraseIgnored ≤ 65535
  armIgnored : s.tkq.armIgnored ≤ 65535 → q.armIgnored ≤ 65535
  goDeclined : s.tkq.goDeclined ≤ 65535 → q.goDeclined ≤ 65535

/-- A step of the release sequence (R144): drives and brakes of the axes, with the stop state staying or becoming RUN. -/
structure State.Releases (s : State) (as : Vector AxisState 4) (st : StopState) (d : DriveOnPhase) : Prop where
  loaded : s.cfl.load = .runReady
  stop : st = s.stop.state ∨ (s.stop.state = .resuming ∧ st = .run)
  steady : ∀ i : AxisNo, as[i].mpr = s.axes[i].mpr ∧ as[i].cap = s.axes[i].cap ∧ as[i].dsl = s.axes[i].dsl
    ∧ as[i].link = s.axes[i].link
  safe : s.drivesSafe → s.stopAgrees →
    ({ s with axes := as, stop := { s.stop with state := st }, driveOn := d } : State).drivesSafe
      ∧ ({ s with axes := as, stop := { s.stop with state := st }, driveOn := d } : State).stopAgrees

/-- What a run may do beside the work of a period: what the clock, a frame and a port command do, accept a RESUME, hold the
part or load the image, and begin a start. -/
structure Scope where
  frames : Prop
  resumes : Prop
  loads : Prop
  starts : Prop

/-- The kinds of small changes. The first ones can come about in the work of a period, the others elsewhere alone. -/
inductive Piece (l : Scope) : State → State → Prop
  | board (s : State) (zs : Vector ZoneState 8) (w : Word16) (b : Bool) (os : Vector Bool 8) (gs : Vector Bool 4)
      (ws : Vector WheelState 4) (d : PeriodWork) :
      Piece l s { s with zones := zs, word := w, crewWarn := b, outputs := os, groups := gs, wheels := ws, due := d }
  | svp (s : State) (p : Svp) (short : s.svp.shortTransfers ≤ 65535 → p.shortTransfers ≤ 65535)
      (bad : s.svp.badCommands ≤ 65535 → p.badCommands ≤ 65535) : Piece l s { s with svp := p }
  | queue (s : State) (q : Lif) (steady : s.lif.Steady q) : Piece l s { s with lif := q }
  | peers (s : State) (ps : Vector PeerEntry 8)
      (gaps : ∀ (st : StationNo) (i : Fin 4), s.peers[st].gaps[i] ≤ 65535 → ps[st].gaps[i] ≤ 65535) :
      Piece l s { s with peers := ps }
  | axes (s : State) (as : Vector AxisState 4) (steady : ∀ i : AxisNo, s.axes[i].Steady as[i]) :
      Piece l s { s with axes := as }
  | owners (s : State) (loaded : s.cfl.load = .runReady) : Piece l s (formOwners s)
  | cause (s : State) (loc : Bool) (o : StationNo) (k : Cause) (c : Category) : Piece l s (takeCause loc o k c s)
  | edge (s : State) (k : LineNo) (due : s.edgeDue k = true) :
      Piece l s { s with lines := s.lines.set k (s.lines[k].qualify s.cfg.lines[k]) }
  | probe (s : State) (due : s.probeIsDue = true) : Piece l s (probeWork s)
  | counts (s : State) (m f c : Nat) (mismatched : s.mismatched ≤ 65535 → m ≤ 65535)
      (foreign : s.foreign ≤ 65535 → f ≤ 65535) (calIgnored : s.calIgnored ≤ 65535 → c ≤ 65535) :
      Piece l s { s with mismatched := m, foreign := f, calIgnored := c }
  | take (s : State) (q : Tkq) (t : Tks) (takes : s.Takes q t) : Piece l s { s with tkq := q, tks := t }
  | judged (s : State) (stopping : s.stop.state = .stopping) : Piece l s { s with stop := { s.stop with state := .stopped } }
  | release (s : State) (as : Vector AxisState 4) (st : StopState) (d : DriveOnPhase) (releases : s.Releases as st d) :
      Piece l s { s with axes := as, stop := { s.stop with state := st }, driveOn := d }
  | notes (s : State) (la : Option ArmContext) (ss : Vector (Option Byte) 8) (scope : l.frames) :
      Piece l s { s with lastArm := la, stopSeen := ss }
  | lines (s : State) (ls : Vector LineState 16) (scope : l.frames) : Piece l s { s with lines := ls }
  | motion (s : State) (as : Vector AxisState 4) (scope : l.frames) (secures : ∀ i : AxisNo, s.axes[i].Secures as[i])
      (speed : s.speedSafe → ({ s with axes := as } : State).speedSafe) : Piece l s { s with axes := as }
  | line (s : State) (q : Lif) (scope : l.frames) (fits : s.lif.Fits q) : Piece l s { s with lif := q }
  | clock (s : State) (time : Nat) (d : DriveOnPhase) (scope : l.frames) (phase : d = .idle ↔ s.driveOn = .idle) :
      Piece l s { s with time := time, driveOn := d }
  | blocked (s : State) (k : Cause) (scope : l.frames) :
      Piece l s { s with stop := { s.stop with resumeBlocked := true, blocking := some k, seq := s.stop.seq + 1 } }
  | accept (s : State) (scope : l.frames) (resumes : l.resumes) (stopped : s.stop.state = .stopped) :
      Piece l s { s with
        stop := { s.stop with
          state := .resuming, category := none, localMarks := [], remoteMarks := [], first := none, origin := none,
          resumeBlocked := false, blocking := none }
        driveOn := .awaited }
  | held (s : State) (h : ResetSources) (scope : l.loads) : Piece l s { s with hold := h }
  | loads (s : State) (c : Cfl) (scope : l.loads)
      (load : c.load = s.cfl.load ∨ (s.cfl.load ≠ .runReady ∧ c.load ≠ .runReady)) : Piece l s { s with cfl := c }
  | operation (s : State) (img : List Byte) (scope : l.loads) (load : s.cfl.load ≠ .runReady) :
      Piece l s (beginOperation img s)
  | start (s : State) (scope : l.starts) : Piece l s (beginStart s)

/-- A run of small changes. -/
abbrev Run (l : Scope) : State → State → Prop := Relation.ReflTransGen (Piece l)

theorem Piece.run {l : Scope} {s t : State} (h : Piece l s t) : Run l s t := .single h

/-- A fold runs where each of its steps does. -/
theorem foldl_run {l : Scope} {α : Type} {f : State → α → State} (h : ∀ t a, Run l t (f t a)) (xs : List α) (s : State) :
    Run l s (xs.foldl f s) := by
  induction xs generalizing s with
  | nil => exact .refl
  | cons a xs ih => exact (h s a).trans (ih (f s a))

/-! ## Steady changes of the parts -/

theorem Lif.Steady.refl (l : Lif) : l.Steady l := ⟨⟨id, id⟩, rfl, rfl, rfl, id⟩

theorem Lif.Steady.trans {a b c : Lif} (h : a.Steady b) (h' : b.Steady c) : a.Steady c :=
  ⟨⟨h'.bounded ∘ h.bounded, h'.counters ∘ h.counters⟩, h'.mute.trans h.mute, h'.probeTimer.trans h.probeTimer,
    h'.statusAge.trans h.statusAge, h'.status ∘ h.status⟩

theorem AxisState.Steady.refl (a : AxisState) : a.Steady a := ⟨⟨id, id, id, id⟩, rfl, rfl, rfl, rfl⟩

theorem Lif.placeStatus_steady (m : StatusMsg) (l : Lif) : l.Steady (l.placeStatus m) where
  bounded h := h
  counters h := h
  mute := rfl
  probeTimer := rfl
  statusAge := rfl
  status h := by
    simp only [Lif.placeStatus]
    split
    · exact h
    · rfl

theorem Lif.placeStop_steady (c : Category) (k : Cause) (q : Byte) (l : Lif) : l.Steady (l.placeStop c k q) where
  bounded := by
    rintro ⟨hstop, hrest⟩
    refine ⟨fun x hx => ?_, hrest⟩
    by_cases hm : l.mute = .permanent
    · exact hstop x (by simpa [Lif.placeStop, hm] using hx)
    · obtain rfl : _ = x := by simpa [Lif.placeStop, hm] using hx
      exact ⟨Nat.le_add_left 1 2, rfl⟩
  counters h := h
  mute := rfl
  probeTimer := rfl
  statusAge := rfl
  status h := h

theorem Lif.placeCue_steady (c : CueMsg) (l : Lif) : l.Steady (l.placeCue c) where
  bounded := by
    rintro ⟨hstop, hlen, hatt, hfail⟩
    by_cases ht : l.takesCue = true
    · have hlt : l.cues.length < 4 := by
        simp only [Lif.takesCue, Bool.and_eq_true, decide_eq_true_eq] at ht
        exact ht.1
      refine ⟨hstop, by simp only [Lif.placeCue, ht, if_true, List.length_append, List.length_singleton]; omega, ?_, hfail⟩
      simp only [Lif.placeCue, ht, if_true, List.mem_append, List.mem_singleton]
      rintro x (hx | rfl)
      · exact hatt x hx
      · exact Nat.zero_le 2
    · exact ⟨hstop, by simpa [Lif.placeCue, ht] using hlen, by simpa [Lif.placeCue, ht] using hatt, hfail⟩
  counters h := h
  mute := rfl
  probeTimer := rfl
  statusAge := rfl
  status h := h

theorem Lif.countDropped_steady (n : Nat) (l : Lif) : l.Steady (l.countDropped n) where
  bounded h := h
  counters h := by
    simp only [Lif.counters, Lif.countDropped, List.forall_mem_cons] at h ⊢
    refine ⟨h.1, h.2.1, h.2.2.1, h.2.2.2.1, h.2.2.2.2.1, h.2.2.2.2.2.1, Nat.min_le_right _ _, h.2.2.2.2.2.2.2⟩
  mute := rfl
  probeTimer := rfl
  statusAge := rfl
  status h := h

theorem Lif.placeDemand_steady (i : Fin 4) (m : DemandMsg) (l : Lif) : l.Steady (l.placeDemand i m) :=
  ⟨⟨id, id⟩, rfl, rfl, rfl, id⟩

theorem Lif.placeAxis_steady (i : Fin 4) (m : AxisMsg) (l : Lif) : l.Steady (l.placeAxis i m) :=
  ⟨⟨id, id⟩, rfl, rfl, rfl, id⟩

/-- A fold over the slots is steady where each of its steps is. -/
theorem Lif.foldl_steady {α : Type} {f : Lif → α → Lif} (h : ∀ (l : Lif) (a : α), l.Steady (f l a)) (xs : List α) (l : Lif) :
    l.Steady (xs.foldl f l) := by
  induction xs generalizing l with
  | nil => exact .refl l
  | cons a xs ih => exact (h l a).trans (ih (f l a))

theorem AxisState.cut_steady (a : AxisState) : a.Steady a.cut :=
  ⟨⟨nofun, nofun, fun h => absurd rfl h, id⟩, rfl, rfl, rfl, rfl⟩

theorem AxisState.brake_steady (c : AxisCfg) (a : AxisState) : a.Steady (a.brake c) := by
  unfold AxisState.brake
  split
  · split
    · split
      · exact ⟨⟨nofun, nofun, id, id⟩, rfl, rfl, rfl, rfl⟩
      · exact ⟨⟨id, nofun, id, id⟩, rfl, rfl, rfl, rfl⟩
    · split
      · exact ⟨⟨nofun, id, id, id⟩, rfl, rfl, rfl, rfl⟩
      · exact .refl a
  · exact .refl a

theorem AxisState.sequence_steady (g : Option Category) (c : AxisCfg) (a : AxisState) : a.Steady (a.sequence g c) := by
  match g with
  | some .brake => exact a.brake_steady c
  | some .cut => exact a.cut_steady
  | some .hold => exact .refl a
  | none => exact .refl a

theorem AxisState.withLens_steady (l : Lens) (a : AxisState) : a.Steady (a.withLens l) :=
  ⟨⟨id, id, id, id⟩, rfl, rfl, rfl, rfl⟩

/-- A new record of an axis in its place is steady where it is so for that axis. -/
theorem set_steady {s : State} {i : AxisNo} {b : AxisState} (h : s.axes[i].Steady b) (j : AxisNo) :
    s.axes[j].Steady (s.axes.set i b)[j] := by
  rw [getElem_set_fin]
  split
  · next hij => exact hij ▸ h
  · exact .refl _

theorem set_secures {s : State} {i : AxisNo} {b : AxisState} (h : s.axes[i].Secures b) (j : AxisNo) :
    s.axes[j].Secures (s.axes.set i b)[j] := by
  rw [getElem_set_fin]
  split
  · next hij => exact hij ▸ h
  · exact ⟨id, id, id, id⟩

theorem ofFn_steady {s : State} {f : AxisNo → AxisState} (h : ∀ i : AxisNo, s.axes[i].Steady (f i)) (j : AxisNo) :
    s.axes[j].Steady (Vector.ofFn f)[j] := by
  rw [getElem_ofFn_fin]
  exact h j

/-! ## Runs of the shared operations -/

section
variable {l : Scope}

theorem run_lif {s : State} {q : Lif} (h : s.lif.Steady q) : Run l s { s with lif := q } := (Piece.queue s q h).run

theorem run_axes {s : State} {as : Vector AxisState 4} (h : ∀ i : AxisNo, s.axes[i].Steady as[i]) :
    Run l s { s with axes := as } := (Piece.axes s as h).run

theorem run_setAxis {s : State} {i : AxisNo} {b : AxisState} (h : s.axes[i].Steady b) :
    Run l s { s with axes := s.axes.set i b } := run_axes (set_steady h)

theorem run_modAxis {s : State} {i : AxisNo} {f : AxisState → AxisState} (h : s.axes[i].Steady (f s.axes[i])) :
    Run l s (s.modAxis i f) := run_setAxis h

theorem run_mapAxes {s : State} {f : AxisNo → AxisState → AxisState} (h : ∀ i : AxisNo, s.axes[i].Steady (f i s.axes[i])) :
    Run l s (s.mapAxes f) := run_axes (ofFn_steady h)

theorem run_raiseIf (s : State) (c : Bool) (n : Nat) : Run l s { s with svp := s.svp.raiseIf c n } :=
  (Piece.svp s (s.svp.raiseIf c n) id id).run

theorem run_raise (s : State) (n : Nat) : Run l s { s with svp := s.svp.raise n } := (Piece.svp s (s.svp.raise n) id id).run

theorem run_due (s : State) (d : PeriodWork) : Run l s { s with due := d } :=
  (Piece.board s s.zones s.word s.crewWarn s.outputs s.groups s.wheels d).run

theorem run_zones (s : State) (zs : Vector ZoneState 8) : Run l s { s with zones := zs } :=
  (Piece.board s zs s.word s.crewWarn s.outputs s.groups s.wheels s.due).run

theorem run_word (s : State) (w : Word16) : Run l s { s with word := w } :=
  (Piece.board s s.zones w s.crewWarn s.outputs s.groups s.wheels s.due).run

theorem run_outputs (s : State) (os : Vector Bool 8) : Run l s { s with outputs := os } :=
  (Piece.board s s.zones s.word s.crewWarn os s.groups s.wheels s.due).run

theorem run_groups (s : State) (gs : Vector Bool 4) : Run l s { s with groups := gs } :=
  (Piece.board s s.zones s.word s.crewWarn s.outputs gs s.wheels s.due).run

theorem run_wheels (s : State) (ws : Vector WheelState 4) : Run l s { s with wheels := ws } :=
  (Piece.board s s.zones s.word s.crewWarn s.outputs s.groups ws s.due).run

theorem run_calIgnored {s : State} {c : Nat} (h : c ≤ 65535) : Run l s { s with calIgnored := c } :=
  (Piece.counts s s.mismatched s.foreign c id id fun _ => h).run

/-- A peer entry replaced by one with the same gap counts. -/
theorem run_setPeer {s : State} {st : StationNo} {e : PeerEntry}
    (h : ∀ i : Fin 4, s.peers[st].gaps[i] ≤ 65535 → e.gaps[i] ≤ 65535) : Run l s { s with peers := s.peers.set st e } := by
  refine (Piece.peers s _ fun st' i hi => ?_).run
  rw [getElem_set_fin]
  split
  · next hst => exact h i (hst ▸ hi)
  · exact hi

theorem composeStatus_run (s : State) : Run l s (composeStatus s) :=
  (run_lif (s.lif.placeStatus_steady s.statusNow)).trans
    (run_setPeer (s := { s with lif := s.lif.placeStatus s.statusNow }) fun _ h => h)

theorem announce_run (s : State) : Run l s (announce s) := by
  unfold announce
  by_cases h : s.statusDiffers = true
  · rw [if_pos h, if_pos h]
    exact composeStatus_run s
  · rw [if_neg h, if_neg h]

theorem giveCauseIf_run (b : Bool) (k : Cause) (c : Category) (s : State) : Run l s (giveCauseIf b k c s) := by
  unfold giveCauseIf
  split
  · exact (Piece.cause s true s.cfg.own k c).run
  · exact .refl

theorem setZones_run (new : Vector ZoneState 8) (s : State) : Run l s (setZones new s) :=
  (run_zones s new).trans (foldl_run (fun t _ => giveCauseIf_run _ _ _ t) _ _)

theorem reformZones_run (f : ZoneNo → Bool) (s : State) : Run l s (reformZones f s) := setZones_run _ s

theorem testZones_run (i : AxisNo) (s : State) : Run l s (testZones i s) := setZones_run _ s

theorem reformGates_run (f : AxisNo → Bool) (s : State) : Run l s (reformGates f s) :=
  run_mapAxes fun i => by
    split
    · exact ⟨⟨id, id, id, id⟩, rfl, rfl, rfl, rfl⟩
    · exact .refl _

theorem peerReaders_run (b : Bool) (st : StationNo) (s : State) : Run l s (peerReaders b st s) :=
  (reformGates_run _ s).trans (reformZones_run _ _)

theorem linkZones_run (i : AxisNo) (s : State) : Run l s (linkZones i s) :=
  (reformZones_run _ s).trans (testZones_run i _)

theorem settleWord_run (s : State) : Run l s (settleWord s) :=
  (run_word s s.formWord).trans ((announce_run _).trans ((reformGates_run _ _).trans (reformZones_run _ _)))

theorem settle_run (n : Nat) (s : State) : Run l s (settle n s) := by
  induction n generalizing s with
  | zero => exact .refl
  | succ n ih =>
    rw [settle]
    split
    · exact .refl
    · exact (settleWord_run s).trans (ih _)

theorem formCrew_run (s : State) : Run l s (formCrew s) :=
  (Piece.board s s.zones s.word s.crewWarning s.outputs s.groups s.wheels s.due).run

theorem formOutputs_run (s : State) : Run l s (formOutputs s) := run_outputs s _

theorem formAttention_run (s : State) : Run l s (formAttention s) :=
  (Piece.svp s (formAttention s).svp id id).run

/-- An operating station has loaded its image. -/
theorem operating_loaded {s : State} (h : s.operating = true) : s.cfl.load = .runReady := by
  simp only [State.operating, Bool.and_eq_true, decide_eq_true_eq] at h
  exact h.2

theorem formOwners_run {s : State} (h : s.cfl.load = .runReady) : Run l s (formOwners s) := (Piece.owners s h).run

theorem cfl_of_quiet {s t : State} (h : t.quiet = s.quiet) : t.cfl = s.cfl :=
  congrArg (·.cfl) h

theorem settle_cfl (n : Nat) (s : State) : (settle n s).cfl = s.cfl := cfl_of_quiet (settle_quiet n s)

theorem endEvent_run (s : State) : Run l s (endEvent s) := by
  unfold endEvent
  refine Relation.ReflTransGen.trans ?_ (formAttention_run _)
  split
  · next h =>
    have hload := operating_loaded h
    have hset : (formCrew (settle 4 (formOwners s))).cfl.load = .runReady := by simpa [settle_cfl] using hload
    exact (formOwners_run hload).trans ((settle_run 4 _).trans ((formCrew_run _).trans
      ((formOwners_run hset).trans (formOutputs_run _))))
  · exact .refl

theorem eventIf_run {cond : State → Bool} {f : State → State} {s : State}
    (h : s.operating = true → cond s = true → Run l s (f s)) : Run l s (eventIf cond f s) := by
  unfold eventIf
  split
  · next hc =>
    rw [Bool.and_eq_true] at hc
    exact (h hc.1 hc.2).trans (endEvent_run _)
  · exact .refl

theorem event_run {f : State → State} {s : State} (h : s.operating = true → Run l s (f s)) : Run l s (event f s) := by
  unfold event
  split
  · next hop => exact (h hop).trans (endEvent_run _)
  · exact .refl

theorem judgeStopped_run (s : State) : Run l s (judgeStopped s) := by
  unfold judgeStopped
  by_cases h : s.stop.state = .stopping ∧ sequenceComplete s.stop.category s.cfg s.axes = true
  · rw [if_pos h]
    exact (Piece.judged s h.1).run.trans (announce_run _)
  · rw [if_neg h]
    exact announce_run s

theorem applySequence_run (s : State) : Run l s (applySequence s) :=
  run_axes (ofFn_steady fun i => s.axes[i].sequence_steady _ _)

/-! ## Takes and the store -/

theorem setTake_run {s : State} {q : Tkq} (h : s.Takes q s.tks) : Run l s (setTake q s) :=
  (Piece.take s q s.tks h).run.trans ((run_raiseIf _ _ _).trans (announce_run _))

theorem setStore_run {s : State} {t : Tks} (h : s.Takes s.tkq t) : Run l s (setStore t s) :=
  (Piece.take s s.tkq t h).run.trans (run_raiseIf _ _ _)

/-! ## Seeks -/

theorem endDirection_run (i : AxisNo) (s : State) : Run l s (endDirection i s) :=
  (run_setAxis (s.axes[i].withLens_steady _)).trans (run_raiseIf _ _ _)

theorem failSeek_run (i : AxisNo) (r : CalReason) (s : State) : Run l s (failSeek i r s) := by
  refine Relation.ReflTransGen.trans (run_setAxis ?_) (run_raiseIf _ _ _)
  split
  · exact s.axes[i].withLens_steady _
  · exact .refl _

theorem startSeek_run (i : AxisNo) (s : State) : Run l s (startSeek i s) := by
  have hmod : Run l s (s.modAxis i fun a =>
      { a with lens := a.lens.seekFrom a.link.measured, dsl := { a.dsl with held := none } }) :=
    run_modAxis ⟨⟨id, id, id, id⟩, rfl, rfl, rfl, rfl⟩
  unfold startSeek
  by_cases h : s.limitActive i false = true
  · simp only [h, if_true]
    exact hmod.trans (endDirection_run i _)
  · simp only [h]
    exact hmod

theorem startAutoSeeks_run (s : State) : Run l s (startAutoSeeks s) :=
  foldl_run (fun t i => by
    split
    · exact (run_modAxis ⟨⟨id, id, id, id⟩, rfl, rfl, rfl, rfl⟩).trans (startSeek_run i _)
    · exact .refl) _ _

end

end Sys2Proof.Machine
end

section
/-! PROOFS. The blocks of the Take Store (R147 to R151): chains, the free list, and what each request of the store does to
them. -/

namespace Sys2Proof.Machine

/-! ## The sixteen entries -/

theorem mem_allSixteen (i : Fin 16) : i ∈ allSixteen := by decide +revert

theorem nodup_allSixteen : allSixteen.Nodup := by decide

theorem mem_allAxes (i : AxisNo) : i ∈ allAxes := by decide +revert

/-- A part gathered over all entries, with one entry's part in front. -/
theorem flatMap_perm_front {α : Type} (f : Fin 16 → List α) (i : Fin 16) :
    (allSixteen.flatMap f).Perm (f i ++ (allSixteen.erase i).flatMap f) :=
  (List.perm_cons_erase (mem_allSixteen i)).flatMap_right f

/-- Two gatherings that agree but at one entry. -/
theorem flatMap_erase_congr {α : Type} {f g : Fin 16 → List α} {i : Fin 16} (h : ∀ j, j ≠ i → g j = f j) :
    (allSixteen.erase i).flatMap g = (allSixteen.erase i).flatMap f :=
  List.flatMap_congr fun _ hj => h _ ((nodup_allSixteen.mem_erase_iff.mp hj).1)

/-- Where one entry's part changes, and what stands before changes with it, the whole stays the same up to order. -/
theorem flatMap_update {α : Type} {f g : Fin 16 → List α} {i : Fin 16} {xs ys : List α} (h : ∀ j, j ≠ i → g j = f j)
    (hi : (ys ++ g i).Perm (xs ++ f i)) : (ys ++ allSixteen.flatMap g).Perm (xs ++ allSixteen.flatMap f) :=
  calc
    ys ++ allSixteen.flatMap g
    _ |>.Perm (ys ++ (g i ++ (allSixteen.erase i).flatMap g)) := (flatMap_perm_front g i).append_left ys
    _ |>.Perm ((ys ++ g i) ++ (allSixteen.erase i).flatMap f) := by
      rw [flatMap_erase_congr h, List.append_assoc]
    _ |>.Perm ((xs ++ f i) ++ (allSixteen.erase i).flatMap f) := hi.append_right _
    _ |>.Perm (xs ++ allSixteen.flatMap f) := by
      rw [List.append_assoc]
      exact ((flatMap_perm_front f i).symm).append_left xs

/-! ## Chains (R148) -/

theorem chainFrom_end {links : List (Nat × Nat)} {b : Nat} (n : Nat) (h : look links b = none) :
    chainFrom links (n + 1) b = [b] := by
  rw [chainFrom, h]

theorem chainFrom_next {links : List (Nat × Nat)} {b c : Nat} (n : Nat) (h : look links b = some c) :
    chainFrom links (n + 1) b = b :: chainFrom links n c := by
  rw [chainFrom, h]

/-- A chain follows the links of its own blocks alone. -/
theorem chainFrom_congr {links links' : List (Nat × Nat)} {n b : Nat}
    (h : ∀ x ∈ chainFrom links n b, look links' x = look links x) : chainFrom links' n b = chainFrom links n b := by
  induction n generalizing b with
  | zero => rfl
  | succ n ih =>
    cases hb : look links b with
    | none =>
      rw [chainFrom_end n hb] at h ⊢
      exact chainFrom_end n ((h b (List.mem_singleton_self b)).trans hb)
    | some c =>
      rw [chainFrom_next n hb] at h ⊢
      rw [chainFrom_next n ((h b List.mem_cons_self).trans hb), ih fun x hx => h x (List.mem_cons_of_mem b hx)]

/-- A full chain whose last block is linked to a further block goes on to that block. -/
theorem chainFrom_extend {links : List (Nat × Nat)} {n a l b : Nat} (hlen : (chainFrom links n a).length = n)
    (hnodup : (chainFrom links n a).Nodup) (hlast : (chainFrom links n a).getLast? = some l) (hl : look links l = none)
    (hb : b ∉ chainFrom links n a) (hend : look links b = none) :
    chainFrom (put links l b) (n + 1) a = chainFrom links n a ++ [b] := by
  induction n generalizing a with
  | zero => simp [chainFrom] at hlast
  | succ n ih =>
    have hnext : ∀ x, look (put links l b) x = if l = x then some b else look links x := look_put l b
    cases ha : look links a with
    | none =>
      rw [chainFrom_end n ha] at hlen hlast hb ⊢
      obtain rfl : n = 0 := by simpa using hlen.symm
      obtain rfl : a = l := by simpa using hlast
      have hab : a ≠ b := fun h => hb (List.mem_singleton.mpr h.symm)
      rw [chainFrom_next 1 ((hnext a).trans (if_pos rfl)), chainFrom_end 0 ((hnext b).trans ((if_neg hab).trans hend))]
      rfl
    | some c =>
      rw [chainFrom_next n ha] at hlen hnodup hlast hb ⊢
      have hla : l ≠ a := fun h => by simp [h, ha] at hl
      have hlen' : (chainFrom links n c).length = n := by simpa using hlen
      have hlast' : (chainFrom links n c).getLast? = some l := by
        rw [List.getLast?_cons] at hlast
        cases hc : (chainFrom links n c).getLast? with
        | none => exact absurd (by simpa [hc] using hlast.symm) hla
        | some x => simpa [hc] using hlast
      rw [chainFrom_next (n + 1) ((hnext a).trans ((if_neg hla).trans ha)), List.cons_append,
        ih hlen' (List.nodup_cons.mp hnodup).2 hlast' (fun h => hb (List.mem_cons_of_mem a h))]

/-- The first part of a chain is the chain of as many blocks, whatever its last block links to. -/
theorem chainFrom_take {links links' : List (Nat × Nat)} {n k a : Nat} (hk : k ≤ (chainFrom links n a).length)
    (h : ∀ x ∈ (chainFrom links n a).take (k - 1), look links' x = look links x) :
    chainFrom links' k a = (chainFrom links n a).take k := by
  induction k generalizing n a with
  | zero => rfl
  | succ k ih =>
    cases n with
    | zero => simp [chainFrom] at hk
    | succ n =>
      cases k with
      | zero =>
        rw [chainFrom]
        cases look links a <;> cases look links' a <;> simp [chainFrom]
      | succ k =>
        cases hc : look links a with
        | none => simp [chainFrom_end n hc] at hk
        | some c =>
          rw [chainFrom_next n hc] at hk h ⊢
          have ha : look links' a = look links a := h a (by simp)
          rw [chainFrom_next (k + 1) (ha.trans hc), List.take_succ_cons]
          congr 1
          exact ih (by simpa using hk) fun x hx => h x (by
            simp only [Nat.add_sub_cancel, List.take_succ_cons] at hx ⊢
            exact List.mem_cons_of_mem a hx)

/-- Blocks chained up in an order without repetition link each to the next one, and leave the other links. -/
theorem look_chainUp_of_notMem {links : List (Nat × Nat)} {bs : List Nat} {x : Nat} (h : x ∉ bs) :
    look (chainUp links bs) x = look links x := by
  induction bs generalizing links with
  | nil => rfl
  | cons a bs ih =>
    cases bs with
    | nil => rfl
    | cons b rest =>
      rw [chainUp, ih (fun hx => h (List.mem_cons_of_mem a hx)), look_put, if_neg]
      rintro rfl
      exact h List.mem_cons_self

theorem look_chainUp_head {links : List (Nat × Nat)} {a b : Nat} {rest : List Nat} (h : (a :: b :: rest).Nodup) :
    look (chainUp links (a :: b :: rest)) a = some b := by
  rw [chainUp, look_chainUp_of_notMem (List.nodup_cons.mp h).1, look_put, if_pos rfl]

theorem look_chainUp_getLast {links : List (Nat × Nat)} {bs : List Nat} {x : Nat} (h : bs.Nodup) (hx : bs.getLast? = some x) :
    look (chainUp links bs) x = look links x := by
  induction bs generalizing links with
  | nil => rfl
  | cons a bs ih =>
    cases bs with
    | nil => rfl
    | cons b rest =>
      have hlast : (b :: rest).getLast? = some x := by simpa using hx
      rw [chainUp, ih (List.nodup_cons.mp h).2 hlast, look_put, if_neg]
      rintro rfl
      exact (List.nodup_cons.mp h).1 (List.mem_of_getLast? hlast)

/-- Blocks chained up form a chain of that order, where the last one is linked to none. -/
theorem chainFrom_chainUp {links : List (Nat × Nat)} {a : Nat} {rest : List Nat} (h : (a :: rest).Nodup)
    (hend : ∀ x, (a :: rest).getLast? = some x → look links x = none) :
    chainFrom (chainUp links (a :: rest)) (rest.length + 1) a = a :: rest := by
  induction rest generalizing a links with
  | nil => exact chainFrom_end 0 (hend a rfl)
  | cons b rest ih =>
    obtain ⟨ha, hrest⟩ := List.nodup_cons.mp h
    rw [List.length_cons, chainFrom_next _ (look_chainUp_head h), chainUp]
    congr 1
    refine ih hrest fun x hx => ?_
    have hne : a ≠ x := fun he => ha (he ▸ List.mem_of_getLast? hx)
    rw [look_put, if_neg hne]
    exact hend x (by simpa using hx)

/-- Blocks whose links are all set to END. -/
theorem look_dropAll (bs : List Nat) (links : List (Nat × Nat)) (x : Nat) :
    look (bs.foldl drop links) x = if x ∈ bs then none else look links x := by
  induction bs generalizing links with
  | nil => simp
  | cons b bs ih =>
    rw [List.foldl_cons, ih, look_drop]
    by_cases hx : x ∈ bs
    · simp [hx]
    · by_cases hb : b = x
      · simp [hb]
      · simp [hx, hb, Ne.symm hb]

end Sys2Proof.Machine
end

section
/-! PROOFS. Each request of the Take Store keeps the free list and the chains in order (R147 to R162). -/

namespace Sys2Proof.Machine

/-! ## What a sound store gives -/

theorem countFrom_eq_range' (k n : Nat) : countFrom k n = List.range' k n := by
  induction n generalizing k with
  | zero => rfl
  | succ n ih => rw [countFrom, List.range'_succ, ih]

theorem nodup_countFrom (k n : Nat) : (countFrom k n).Nodup := countFrom_eq_range' k n ▸ List.nodup_range'

section
variable {t : Tks}

/-- No block is listed twice. -/
theorem Tks.blocksSound.nodup (h : t.blocksSound) (i : EntryNo) :
    (t.free ++ (t.chain t.dir[i] ++ (allSixteen.erase i).flatMap fun j => t.chain t.dir[j])).Nodup := by
  have hall := h.1.nodup_iff.mpr (nodup_countFrom 0 2048)
  exact (((flatMap_perm_front (fun j => t.chain t.dir[j]) i).append_left t.free).nodup_iff).mp hall

theorem Tks.blocksSound.free_nodup (h : t.blocksSound) : t.free.Nodup :=
  (List.nodup_append.mp (h.nodup 0)).1

theorem Tks.blocksSound.chain_nodup (h : t.blocksSound) (i : EntryNo) : (t.chain t.dir[i]).Nodup :=
  (List.nodup_append.mp (List.nodup_append.mp (h.nodup i)).2.1).1

theorem Tks.blocksSound.notMem_chain (h : t.blocksSound) {b : Nat} (hb : b ∈ t.free) (i : EntryNo) :
    b ∉ t.chain t.dir[i] := fun hc =>
  (List.nodup_append.mp (h.nodup i)).2.2 b hb b (List.mem_append_left _ hc) rfl

theorem Tks.blocksSound.notMem_other (h : t.blocksSound) {b : Nat} {i j : EntryNo} (hij : j ≠ i)
    (hb : b ∈ t.chain t.dir[j]) : b ∉ t.chain t.dir[i] := fun hc =>
  (List.nodup_append.mp (List.nodup_append.mp (h.nodup i)).2.1).2.2 b hc b
    (List.mem_flatMap.mpr ⟨j, nodup_allSixteen.mem_erase_iff.mpr ⟨hij, mem_allSixteen j⟩, hb⟩) rfl

theorem Tks.entrySound_empty : t.entrySound {} := ⟨fun _ => rfl, fun h => absurd rfl h⟩

/-- The numbers of blocks that one sample more or fewer samples need (R149, R151). -/
theorem blocksFor_pos {n k : Nat} (hn : 1 ≤ n ∧ n ≤ 4) (hk : 1 ≤ k) : 1 ≤ blocksFor k n := by
  obtain ⟨h1, h4⟩ := hn
  interval_cases n <;> simp only [blocksFor, samplesPerBlock] <;> omega

theorem blocksFor_succ_full {n k : Nat} (hn : 1 ≤ n ∧ n ≤ 4) (h : k % samplesPerBlock n = 0) :
    blocksFor (k + 1) n = blocksFor k n + 1 := by
  obtain ⟨h1, h4⟩ := hn
  interval_cases n <;> simp only [blocksFor, samplesPerBlock] at h ⊢ <;> omega

theorem blocksFor_succ_part {n k : Nat} (hn : 1 ≤ n ∧ n ≤ 4) (h : k % samplesPerBlock n ≠ 0) :
    blocksFor (k + 1) n = blocksFor k n := by
  obtain ⟨h1, h4⟩ := hn
  interval_cases n <;> simp only [blocksFor, samplesPerBlock] at h ⊢ <;> omega

theorem blocksFor_mono {n j k : Nat} (h : j ≤ k) : blocksFor j n ≤ blocksFor k n :=
  Nat.div_le_div_right (Nat.sub_le_sub_right (Nat.add_le_add_right h _) 1)

/-- An entry is sound where its chain is the list of blocks said. -/
theorem Tks.entrySound_of_chain {e : DirEntry} {bs : List Nat} (he : e.state ≠ .empty)
    (haxes : 1 ≤ e.axes.length ∧ e.axes.length ≤ 4) (hlength : 1 ≤ e.length)
    (hblocks : e.blocks = blocksFor e.length e.axes.length) (hchain : t.chain e = bs) (hcount : bs.length = e.blocks)
    (hlast : bs.getLast? = e.last) (hend : ∀ l, e.last = some l → look t.links l = none) : t.entrySound e :=
  ⟨fun h => absurd h he, fun _ => ⟨haxes.1, haxes.2, hlength, hblocks, hchain ▸ hcount, hchain ▸ hlast, hend⟩⟩

/-- A store with entry i replaced is sound where the free list and that entry's chain hold the same blocks as before, the
links of all other blocks stay, and the entry and the free list are in order. -/
theorem Tks.blocksSound.update {t' : Tks} (h : t.blocksSound) (i : EntryNo) {e : DirEntry} {bs : List Nat}
    (hdir : t'.dir = t.dir.set i e)
    (hlinks : ∀ b, b ∉ t.free → b ∉ t.chain t.dir[i] → look t'.links b = look t.links b) (hchain : t'.chain e = bs)
    (hperm : (t'.free ++ bs).Perm (t.free ++ t.chain t.dir[i]))
    (hfree : ∀ b ∈ t'.free, look t'.links b = none) (hentry : t'.entrySound e) : t'.blocksSound := by
  have hi : t'.dir[i] = e := by rw [hdir, getElem_set_fin, if_pos rfl]
  have hother : ∀ j, j ≠ i → t'.dir[j] = t.dir[j] := fun j hj => by rw [hdir, getElem_set_fin, if_neg (Ne.symm hj)]
  have hlook : ∀ j, j ≠ i → ∀ b ∈ t.chain t.dir[j], look t'.links b = look t.links b := fun j hj b hb =>
    hlinks b (fun hf => h.notMem_chain hf j hb) (h.notMem_other hj hb)
  have hkept : ∀ j, j ≠ i → t'.chain t.dir[j] = t.chain t.dir[j] := by
    intro j hj
    have hb := hlook j hj
    simp only [Tks.chain] at hb ⊢
    cases hf : t.dir[j].first with
    | none => rfl
    | some a => exact chainFrom_congr fun x hx => hb x (by simpa only [hf] using hx)
  have hwhole := flatMap_update (f := fun j => t.chain t.dir[j]) (g := fun j => t'.chain t'.dir[j]) (i := i)
    (xs := t.free) (ys := t'.free) (fun j hj => by rw [hother j hj, hkept j hj]) (by rw [hi, hchain]; exact hperm)
  refine ⟨hwhole.trans h.1, hfree, fun j => ?_⟩
  by_cases hj : j = i
  · rw [hj, hi]
    exact hentry
  · rw [hother j hj]
    refine ⟨(h.2.2 j).1, fun hne => ?_⟩
    obtain ⟨h1, h4, hlen, hblocks, hcount, hlast, hend⟩ := (h.2.2 j).2 hne
    refine ⟨h1, h4, hlen, hblocks, (hkept j hj).symm ▸ hcount, (hkept j hj).symm ▸ hlast, fun l hl => ?_⟩
    rw [hlook j hj l (List.mem_of_getLast? (hlast.trans hl))]
    exact hend l hl

/-- A change of an entry that leaves its chain, its length and its axes as they are. -/
theorem Tks.blocksSound.setEntry (h : t.blocksSound) {i : EntryNo} {e : DirEntry} (hne : t.dir[i].state ≠ .empty)
    (he : e.state ≠ .empty) (haxes : e.axes = t.dir[i].axes) (hlength : e.length = t.dir[i].length)
    (hfirst : e.first = t.dir[i].first) (hlast : e.last = t.dir[i].last) (hblocks : e.blocks = t.dir[i].blocks) :
    (t.setEntry i e).blocksSound := by
  have hchain : (t.setEntry i e).chain e = t.chain t.dir[i] := by simp only [Tks.chain, hfirst, hblocks]; rfl
  obtain ⟨h1, h4, hlen, hb, hcount, hl, hend⟩ := (h.2.2 i).2 hne
  exact h.update i rfl (fun _ _ _ => rfl) hchain (.refl _) h.2.1
    (Tks.entrySound_of_chain he (haxes ▸ ⟨h1, h4⟩) (hlength ▸ hlen) (by rw [hblocks, hlength, haxes]; exact hb) hchain
      (hblocks ▸ hcount) (hlast ▸ hl) (hlast ▸ hend))

/-- Soundness does not depend on the bytes, the open upload and the count of refused erases. -/
theorem Tks.blocksSound.of_same {t' : Tks} (h : t.blocksSound) (hfree : t'.free = t.free) (hlinks : t'.links = t.links)
    (hdir : t'.dir = t.dir) : t'.blocksSound := by
  obtain ⟨mem, links, free, dir, upload, ignored⟩ := t
  obtain ⟨mem', links', free', dir', upload', ignored'⟩ := t'
  obtain rfl : free' = free := hfree
  obtain rfl : links' = links := hlinks
  obtain rfl : dir' = dir := hdir
  exact h

/-! ## The requests -/

theorem Tks.find_state {number : Byte} {i : EntryNo} (h : t.find number = some i) : t.dir[i].state ≠ .empty := by
  have := List.find?_some h
  simp only [Bool.and_eq_true, decide_eq_true_eq] at this
  exact this.1

theorem Tks.lowestEmpty_state {i : EntryNo} (h : t.lowestEmpty = some i) : t.dir[i].state = .empty := by
  simpa using List.find?_some h

theorem Tks.endRecording_sound (h : t.blocksSound) (number : Byte) (complete : Bool) :
    (t.endRecording number complete).blocksSound := by
  unfold Tks.endRecording
  split
  · exact h
  · next i hi =>
    split
    · exact h.setEntry (Tks.find_state hi) (by cases complete <;> exact nofun) rfl rfl rfl rfl rfl
    · exact h

theorem Tks.writeBlock_sound (h : t.blocksSound) (i : EntryNo) (number : Byte) (written j : Nat) (words : List Word32) :
    (t.writeBlock i number written j words).blocksSound := h.of_same rfl rfl rfl

theorem Tks.closeUpload_sound (h : t.blocksSound) {i : EntryNo} (hi : t.dir[i].state ≠ .empty) :
    (t.closeUpload i).blocksSound :=
  Tks.blocksSound.of_same
    (t := t.setEntry i { t.dir[i] with state := .complete, stats := t.statsOver t.dir[i] t.dir[i].length })
    (h.setEntry hi nofun rfl rfl rfl rfl rfl) rfl rfl rfl

/-- The blocks of an entry freed, the entry EMPTY (R157). -/
theorem Tks.release_sound (h : t.blocksSound) (i : EntryNo) :
    ((t.release (t.chain t.dir[i])).setEntry i {}).blocksSound := by
  have hlook : ∀ b, look (t.release (t.chain t.dir[i])).links b = if b ∈ t.chain t.dir[i] then none else look t.links b :=
    look_dropAll _ _
  refine h.update i (e := {}) (bs := []) rfl (fun b _ hb => (hlook b).trans (if_neg hb)) rfl ?_ (fun b hb => ?_)
    Tks.entrySound_empty
  · rw [List.append_nil]
    rfl
  · refine (hlook b).trans ?_
    split
    · rfl
    · next hc => exact h.2.1 b ((List.mem_append.mp hb).resolve_right hc)

theorem Tks.eraseEntry_sound (h : t.blocksSound) (i : EntryNo) : (t.eraseEntry i).blocksSound :=
  (Tks.release_sound h i).of_same rfl rfl rfl

/-- An EMPTY entry has no chain. -/
theorem Tks.blocksSound.chain_of_empty (h : t.blocksSound) {i : EntryNo} (hi : t.dir[i].state = .empty) :
    t.chain t.dir[i] = [] := by
  rw [(h.2.2 i).1 hi]
  rfl

/-- A chain in the model's terms, once its first block is known. -/
theorem Tks.chain_of_first {e : DirEntry} {a : Nat} (h : e.first = some a) : t.chain e = chainFrom t.links e.blocks a := by
  simp only [Tks.chain, h]

/-- An append that needs no block writes into the last one (R153). -/
theorem Tks.append_part {i : EntryNo} (values : List Int) (hrec : t.dir[i].state = .recording)
    (hpart : t.dir[i].length % samplesPerBlock t.dir[i].axes.length ≠ 0) :
    (t.append i values).1 = { t with
      mem := writeWords t.mem (t.dir[i].last.getD 0)
        (t.dir[i].length % samplesPerBlock t.dir[i].axes.length * t.dir[i].axes.length) (values.map (BitVec.ofInt 32))
      dir := t.dir.set i { t.dir[i] with
        length := t.dir[i].length + 1, stats := statsAfter t.dir[i].length values t.dir[i].stats } } := by
  simp only [Tks.append, hrec, ne_eq, not_true_eq_false, if_false, if_neg hpart]

/-- An append that needs a block takes the head of the free list and links the last block to it (R153). -/
theorem Tks.append_full {i : EntryNo} {b : Nat} {rest : List Nat} (values : List Int) (hrec : t.dir[i].state = .recording)
    (hfull : t.dir[i].length % samplesPerBlock t.dir[i].axes.length = 0) (hfree : t.free = b :: rest) :
    (t.append i values).1 = { t with
      mem := writeWords (zeroBlock t.mem b) b 0 (values.map (BitVec.ofInt 32))
      free := rest
      links := match t.dir[i].last with
        | none => t.links
        | some l => put t.links l b
      dir := t.dir.set i { t.dir[i] with
        length := t.dir[i].length + 1, stats := statsAfter t.dir[i].length values t.dir[i].stats
        first := if t.dir[i].length = 0 then some b else t.dir[i].first
        last := some b, blocks := t.dir[i].blocks + 1 } } := by
  simp only [Tks.append, hrec, ne_eq, not_true_eq_false, if_false, hfree, hfull, Nat.zero_mul, if_true] <;> rfl

/-- An append that needs a block where none is free (R154). -/
theorem Tks.append_storeFull {i : EntryNo} (values : List Int) (hrec : t.dir[i].state = .recording)
    (hfull : t.dir[i].length % samplesPerBlock t.dir[i].axes.length = 0) (hfree : t.free = []) :
    t.append i values = (t.setEntry i { t.dir[i] with state := .truncated }, true) := by
  simp only [Tks.append, hrec, ne_eq, not_true_eq_false, if_false, if_pos hfull, hfree]

theorem Tks.append_notRecording {i : EntryNo} (values : List Int) (hrec : t.dir[i].state ≠ .recording) :
    t.append i values = (t, false) := by
  simp only [Tks.append, ne_eq, hrec, not_false_eq_true, if_true]

/-- A recording has a first and a last block. -/
theorem Tks.blocksSound.ends (h : t.blocksSound) {i : EntryNo} (hne : t.dir[i].state ≠ .empty) :
    ∃ a l, t.dir[i].first = some a ∧ t.dir[i].last = some l := by
  obtain ⟨h1, h4, hlen, hblocks, hcount, hlast, -⟩ := (h.2.2 i).2 hne
  have hpos : 1 ≤ (t.chain t.dir[i]).length := hcount ▸ hblocks ▸ blocksFor_pos ⟨h1, h4⟩ hlen
  cases hf : t.dir[i].first with
  | none =>
    rw [Tks.chain, hf] at hpos
    exact absurd hpos (Nat.not_succ_le_zero 0)
  | some a =>
    cases hl : t.dir[i].last with
    | none =>
      rw [hl, List.getLast?_eq_none_iff] at hlast
      rw [hlast] at hpos
      exact absurd hpos (Nat.not_succ_le_zero 0)
    | some l => exact ⟨a, l, rfl, rfl⟩

theorem Tks.append_full_sound (h : t.blocksSound) {i : EntryNo} {b : Nat} {rest : List Nat} (values : List Int)
    (hrec : t.dir[i].state = .recording) (hfull : t.dir[i].length % samplesPerBlock t.dir[i].axes.length = 0)
    (hfree : t.free = b :: rest) : (t.append i values).1.blocksSound := by
  have hne : t.dir[i].state ≠ .empty := by rw [hrec]; exact nofun
  obtain ⟨a, l, hf, hl⟩ := h.ends hne
  obtain ⟨h1, h4, hlen, hblocks, hcount, hlast, hend⟩ := (h.2.2 i).2 hne
  have hb : b ∈ t.free := hfree ▸ List.mem_cons_self
  have hbl : look t.links b = none := h.2.1 b hb
  have hnot := h.notMem_chain hb i
  have hlmem : l ∈ t.chain t.dir[i] := List.mem_of_getLast? (hlast.trans hl)
  have hlook : ∀ x, look (put t.links l b) x = if l = x then some b else look t.links x := look_put l b
  have hout : ∀ x, x ∉ t.chain t.dir[i] → look (put t.links l b) x = look t.links x := fun x hx =>
    (hlook x).trans (if_neg (ne_of_mem_of_not_mem hlmem hx))
  have hext : chainFrom (put t.links l b) (t.dir[i].blocks + 1) a = t.chain t.dir[i] ++ [b] := by
    have hnodup := h.chain_nodup i
    rw [Tks.chain_of_first hf] at hcount hlast hnodup hnot ⊢
    exact chainFrom_extend hcount hnodup (hlast.trans hl) (hend l hl) hnot hbl
  have hfirst : (if t.dir[i].length = 0 then some b else t.dir[i].first) = some a :=
    (if_neg (Nat.ne_of_gt hlen)).trans hf
  rw [Tks.append_full values hrec hfull hfree, hl]
  refine h.update i (bs := t.chain t.dir[i] ++ [b]) rfl (fun x _ hx => hout x hx) ?_ ?_ (fun x hx => ?_) ?_
  · exact (Tks.chain_of_first hfirst).trans hext
  · rw [hfree, ← List.append_assoc]
    exact List.perm_append_comm (l₁ := rest ++ t.chain t.dir[i]) (l₂ := [b])
  · have hxf : x ∈ t.free := hfree ▸ List.mem_cons_of_mem b hx
    exact (hout x (h.notMem_chain hxf i)).trans (h.2.1 x hxf)
  · refine Tks.entrySound_of_chain (bs := t.chain t.dir[i] ++ [b]) hne ⟨h1, h4⟩ (Nat.le_add_left 1 _) ?_ ?_ ?_ ?_ ?_
    · rw [blocksFor_succ_full ⟨h1, h4⟩ hfull]
      exact congrArg (· + 1) hblocks
    · exact (Tks.chain_of_first hfirst).trans hext
    · rw [List.length_append, hcount]
      rfl
    · exact List.getLast?_concat ..
    · intro x hx
      obtain rfl := Option.some.inj hx
      exact (hout b hnot).trans hbl

theorem Tks.append_part_sound (h : t.blocksSound) {i : EntryNo} (values : List Int) (hrec : t.dir[i].state = .recording)
    (hpart : t.dir[i].length % samplesPerBlock t.dir[i].axes.length ≠ 0) : (t.append i values).1.blocksSound := by
  have hne : t.dir[i].state ≠ .empty := by rw [hrec]; exact nofun
  obtain ⟨h1, h4, hlen, hblocks, hcount, hlast, hend⟩ := (h.2.2 i).2 hne
  rw [Tks.append_part values hrec hpart]
  refine h.update i (bs := t.chain t.dir[i]) rfl (fun _ _ _ => rfl) rfl (.refl _) h.2.1
    (Tks.entrySound_of_chain hne ⟨h1, h4⟩ (Nat.le_add_left 1 _) ?_ rfl hcount hlast hend)
  rw [blocksFor_succ_part ⟨h1, h4⟩ hpart]
  exact hblocks

/-- An append to an entry (R151, R153, R154). -/
theorem Tks.append_sound (h : t.blocksSound) (i : EntryNo) (values : List Int) : (t.append i values).1.blocksSound := by
  by_cases hrec : t.dir[i].state = .recording
  · by_cases hfull : t.dir[i].length % samplesPerBlock t.dir[i].axes.length = 0
    · cases hfree : t.free with
      | nil =>
        rw [Tks.append_storeFull values hrec hfull hfree]
        exact h.setEntry (by rw [hrec]; exact nofun) nofun rfl rfl rfl rfl rfl
      | cons b rest => exact Tks.append_full_sound h values hrec hfull hfree
    · exact Tks.append_part_sound h values hrec hfull
  · rw [Tks.append_notRecording values hrec]
    exact h

/-- A recording opens in the lowest EMPTY entry, with sample 0 in the head of the free list (R153). -/
theorem Tks.openTake_opens {b : Nat} {rest : List Nat} {i : EntryNo} (number : Byte) (period : Nat) (axes : List AxisNo)
    (values : List Int) (hfree : t.free = b :: rest) (hi : t.lowestEmpty = some i) :
    (t.openTake number period axes values).1 = { t with
      mem := writeWords (zeroBlock t.mem b) b 0 (values.map (BitVec.ofInt 32))
      free := rest
      dir := t.dir.set i
        { number := number, state := .recording, uploaded := false, period := period, axes := axes, length := 1,
          first := some b, last := some b, blocks := 1, stats := statsAfter 0 values none } } := by
  have hset : (t.setEntry i { number := number, state := .recording, uploaded := false, period := period, axes := axes }).dir[i]
      = { number := number, state := .recording, uploaded := false, period := period, axes := axes } := by
    rw [Tks.setEntry, getElem_set_fin, if_pos rfl]
  unfold Tks.openTake
  rw [hfree, hi]
  refine (Tks.append_full (t := t.setEntry i _) values (by rw [hset]) (by rw [hset]; exact Nat.zero_mod _) hfree).trans ?_
  rw [hset]
  simp only [Tks.setEntry, Vector.set_set, Nat.zero_add, if_true]

/-- A recording opened on one to four axes (R153). -/
theorem Tks.openTake_sound (h : t.blocksSound) (number : Byte) (period : Nat) {axes : List AxisNo} (values : List Int)
    (haxes : 1 ≤ axes.length ∧ axes.length ≤ 4) : (t.openTake number period axes values).1.blocksSound := by
  cases hfree : t.free with
  | nil => simpa only [Tks.openTake, hfree] using h
  | cons b rest =>
    cases hi : t.lowestEmpty with
    | none => simpa only [Tks.openTake, hfree, hi] using h
    | some i =>
      have hb : look t.links b = none := h.2.1 b (hfree ▸ List.mem_cons_self)
      rw [Tks.openTake_opens number period axes values hfree hi]
      refine h.update i (bs := [b]) rfl (fun _ _ _ => rfl) (chainFrom_end 0 hb) ?_
        (fun x hx => h.2.1 x (hfree ▸ List.mem_cons_of_mem b hx))
        (Tks.entrySound_of_chain nofun haxes (Nat.le_refl 1) ?_ (chainFrom_end 0 hb) rfl rfl ?_)
      · rw [h.chain_of_empty (Tks.lowestEmpty_state hi), List.append_nil, hfree]
        exact List.perm_append_comm (l₁ := rest) (l₂ := [b])
      · obtain ⟨h1, h4⟩ := haxes
        show 1 = blocksFor 1 axes.length
        generalize axes.length = n at h1 h4
        interval_cases n <;> rfl
      · intro x hx
        obtain rfl := Option.some.inj hx
        exact hb

theorem Tks.appendTo_sound (h : t.blocksSound) (number : Byte) (values : List Int) :
    (t.appendTo number values).1.blocksSound := by
  unfold Tks.appendTo
  split
  · exact h
  · exact Tks.append_sound h _ values

/-- An upload created in an EMPTY entry, with blocks enough free (R158). -/
theorem Tks.create_sound (h : t.blocksSound) {i : EntryNo} (hi : t.dir[i].state = .empty) (number : Byte)
    {axes : List AxisNo} (period : Nat) {length : Nat} (haxes : 1 ≤ axes.length ∧ axes.length ≤ 4) (hlength : 1 ≤ length)
    (hfree : blocksFor length axes.length ≤ t.free.length) : (t.create i number axes period length).blocksSound := by
  obtain ⟨n, hn⟩ : ∃ n, n = blocksFor length axes.length := ⟨_, rfl⟩
  obtain ⟨bs, hbs⟩ : ∃ bs, bs = t.free.take n := ⟨_, rfl⟩
  have hcount : bs.length = n := by rw [hbs, List.length_take, hn, Nat.min_eq_left hfree]
  have hsplit : bs ++ t.free.drop n = t.free := hbs ▸ List.take_append_drop n t.free
  have hnodup : bs.Nodup := hbs ▸ h.free_nodup.sublist (List.take_sublist _ _)
  have hapart : (bs ++ t.free.drop n).Nodup := by
    rw [hsplit]
    exact h.free_nodup
  have hend : ∀ x, bs.getLast? = some x → look t.links x = none := fun x hx =>
    h.2.1 x (hsplit ▸ List.mem_append_left _ (List.mem_of_getLast? hx))
  have hout : ∀ x, x ∉ bs → look (chainUp t.links bs) x = look t.links x := fun x => look_chainUp_of_notMem
  have hcreate : t.create i number axes period length = { t with
      mem := bs.foldl zeroBlock t.mem, links := chainUp t.links bs, free := t.free.drop n
      dir := t.dir.set i
        { number := number, state := .recording, uploaded := true, period := period, axes := axes, length := length,
          first := bs.head?, last := bs.getLast?, blocks := n, stats := none }
      upload := some (number, 0) } := by
    simp only [Tks.create, hbs, hn]
  have hchain : (t.create i number axes period length).chain
      { number := number, state := .recording, uploaded := true, period := period, axes := axes, length := length,
        first := bs.head?, last := bs.getLast?, blocks := n, stats := none } = bs := by
    rw [hcreate]
    cases bs with
    | nil => rfl
    | cons a rest =>
      subst hcount
      exact chainFrom_chainUp hnodup hend
  rw [hcreate] at hchain ⊢
  refine h.update i rfl (fun x hx _ => ?_) hchain ?_ (fun x hx => ?_)
    (Tks.entrySound_of_chain nofun haxes hlength hn hchain hcount rfl fun l hl =>
      (look_chainUp_getLast hnodup hl).trans (hend l hl))
  · exact hout x fun hm => hx (hsplit ▸ List.mem_append_left _ hm)
  · rw [h.chain_of_empty hi, List.append_nil]
    exact List.perm_append_comm.trans (.of_eq hsplit)
  · refine (hout x fun hm => ?_).trans (h.2.1 x (List.mem_of_mem_drop hx))
    exact (List.nodup_append.mp hapart).2.2 x hm x hx rfl

/-! ## A reset-pin start (R162) -/

/-- An entry cut to a part of its length: the blocks that part needs stay, the others are freed (R162). -/
theorem Tks.cut_sound (h : t.blocksSound) {i : EntryNo} (hne : t.dir[i].state ≠ .empty) {length keep : Nat}
    (hlength : 1 ≤ length) (hle : length ≤ t.dir[i].length) (hkeep : keep = blocksFor length t.dir[i].axes.length)
    (stats : Option (List AxisStat)) :
    ({ t.release ((t.chain t.dir[i]).drop keep) with
        links := drop (t.release ((t.chain t.dir[i]).drop keep)).links ((t.chain t.dir[i]).getD (keep - 1) 0)
        dir := t.dir.set i { t.dir[i] with
          state := .truncated, length := length, blocks := keep
          last := some ((t.chain t.dir[i]).getD (keep - 1) 0), stats := stats } } : Tks).blocksSound := by
  obtain ⟨a, -, ha, -⟩ := h.ends hne
  obtain ⟨h1, h4, hlen, hblocks, hcount, hlast, hend⟩ := (h.2.2 i).2 hne
  have hpos : 1 ≤ keep := hkeep ▸ blocksFor_pos ⟨h1, h4⟩ hlength
  have hkc : keep ≤ (t.chain t.dir[i]).length := by
    rw [hcount, hblocks, hkeep]
    exact blocksFor_mono hle
  obtain ⟨chain, hc⟩ : ∃ chain, chain = t.chain t.dir[i] := ⟨_, rfl⟩
  obtain ⟨last, hl⟩ : ∃ last, last = chain.getD (keep - 1) 0 := ⟨_, rfl⟩
  have hnodup : chain.Nodup := hc ▸ h.chain_nodup i
  rw [← hc] at hkc ⊢
  have hlastEq : chain[keep - 1]'(by omega) = last := by
    rw [hl, List.getD_eq_getElem?_getD, List.getElem?_eq_getElem (by omega)]
    rfl
  have hlastKept : (chain.take keep).getLast? = some last := by
    rw [List.getLast?_eq_getElem?, List.length_take, Nat.min_eq_left hkc, List.getElem?_take, if_pos (by omega),
      List.getElem?_eq_getElem (by omega), hlastEq]
  have hlastMem : last ∈ chain.take keep := List.mem_of_getLast? hlastKept
  have hapart : ∀ {n b : Nat}, b ∈ chain.take n → b ∉ chain.drop n := fun {n b} hb hd =>
    (List.nodup_append.mp ((List.take_append_drop n chain).symm ▸ hnodup)).2.2 b hb b hd rfl
  have hlook : ∀ b, look (drop (t.release (chain.drop keep)).links last) b
      = if last = b then none else if b ∈ chain.drop keep then none else look t.links b := fun b => by
    rw [look_drop]
    exact congrArg _ (look_dropAll _ _ b)
  have hkept : ∀ b ∈ chain.take (keep - 1), look (drop (t.release (chain.drop keep)).links last) b = look t.links b := by
    intro b hb
    have hbl : last ≠ b := fun he => hapart hb (he ▸ hlastEq ▸ List.mem_drop_iff_getElem.mpr ⟨0, by omega, by simp⟩)
    have hbk : b ∉ chain.drop keep := hapart ((List.take_prefix_take_left (by omega)).subset hb)
    rw [hlook, if_neg hbl, if_neg hbk]
  have hchain : chainFrom (drop (t.release (chain.drop keep)).links last) keep a = chain.take keep := by
    rw [hc, Tks.chain_of_first ha] at hkc hkept ⊢
    exact chainFrom_take hkc hkept
  rw [← hl]
  refine h.update i (bs := chain.take keep) rfl (fun b _ hb => ?_) ?_ ?_ (fun b hb => ?_)
    (Tks.entrySound_of_chain (bs := chain.take keep) nofun ⟨h1, h4⟩ hlength hkeep ?_ ?_ hlastKept ?_)
  · rw [← hc] at hb
    refine (hlook b).trans ?_
    rw [if_neg (ne_of_mem_of_not_mem (List.mem_of_mem_take hlastMem) hb), if_neg fun hd => hb (List.mem_of_mem_drop hd)]
  · refine Eq.trans (Tks.chain_of_first ?_) hchain
    exact ha
  · rw [← hc]
    show (t.free ++ chain.drop keep ++ chain.take keep).Perm (t.free ++ chain)
    rw [List.append_assoc]
    exact (List.perm_append_comm.trans (.of_eq (List.take_append_drop keep chain))).append_left t.free
  · refine (hlook b).trans ?_
    split
    · rfl
    · split
      · rfl
      · next hd => exact h.2.1 b ((List.mem_append.mp hb).resolve_right hd)
  · refine Eq.trans (Tks.chain_of_first ?_) hchain
    exact ha
  · rw [List.length_take, Nat.min_eq_left hkc]
  · intro l hx
    obtain rfl := Option.some.inj hx
    exact (hlook last).trans (if_pos rfl)

theorem Tks.truncateEntry_sound (h : t.blocksSound) (i : EntryNo) : (t.truncateEntry i).blocksSound := by
  by_cases hrec : t.dir[i].state = .recording
  · have hne : t.dir[i].state ≠ .empty := by rw [hrec]; exact nofun
    unfold Tks.truncateEntry
    rw [if_neg (not_not.mpr hrec)]
    by_cases hup : t.dir[i].uploaded = false
    · rw [if_pos hup]
      exact h.setEntry hne nofun rfl rfl rfl rfl rfl
    · rw [if_neg hup]
      by_cases hlen : min t.dir[i].length ((t.upload.map Prod.snd).getD 0 * samplesPerBlock t.dir[i].axes.length) = 0
      · simp only [if_pos hlen]
        exact Tks.release_sound h i
      · simp only [if_neg hlen]
        exact Tks.cut_sound h hne (Nat.one_le_iff_ne_zero.mpr hlen) (Nat.min_le_left _ _) rfl _
  · unfold Tks.truncateEntry
    rw [if_pos hrec]
    exact h

theorem Tks.truncateAll_sound (h : t.blocksSound) (l : List EntryNo) : (l.foldl Tks.truncateEntry t).blocksSound := by
  induction l generalizing t with
  | nil => exact h
  | cons i l ih => exact ih (Tks.truncateEntry_sound h i)

theorem Tks.pinStart_sound (h : t.blocksSound) : t.pinStart.blocksSound := by
  have hall := Tks.truncateAll_sound h allSixteen
  unfold Tks.pinStart
  generalize allSixteen.foldl Tks.truncateEntry t = u at hall ⊢
  exact hall.of_same rfl rfl rfl

end

end Sys2Proof.Machine
end

section
/-! PROOFS. The work of a period, of the takes and of the release sequence as runs of small changes. -/

namespace Sys2Proof.Machine

/-! ## Changes of the take record and the store -/

/-- A take state in which a take neither is armed nor under way nor has ended by itself. -/
def TakeState.rests (x : TakeState) : Prop := x = .idle ∨ x = .aborted ∨ x = .refused

theorem State.takeAgrees_iff (s : State) : s.takeAgrees ↔ s.tkq.state.rests ∨ s.stop.state = .run := by
  simp only [State.takeAgrees, TakeState.rests, or_assoc]

theorem State.takeAgrees.running {s : State} (h : s.takeAgrees) (hrest : ¬ s.tkq.state.rests) : s.stop.state = .run :=
  (s.takeAgrees_iff.mp h).resolve_left hrest

section
variable {s : State} {q : Tkq}

/-- A record that changes neither its state nor what it claims. -/
theorem takes_sameState (hstate : q.state = s.tkq.state) (hmode : q.mode = s.tkq.mode) (haxes : q.axes = s.tkq.axes)
    (harm : s.tkq.armIgnored ≤ 65535 → q.armIgnored ≤ 65535) (hgo : s.tkq.goDeclined ≤ 65535 → q.goDeclined ≤ 65535) :
    s.Takes q s.tks where
  mem := id
  blocks h := ⟨h.1, by
    simp only [hmode, hstate, haxes]
    exact h.2⟩
  agrees h := by
    rw [State.takeAgrees_iff] at h ⊢
    simpa only [hstate] using h
  eraseIgnored := id
  armIgnored := harm
  goDeclined := hgo

/-- A record that comes to rest. -/
theorem takes_rests (hstate : q.state.rests) (harm : q.armIgnored = s.tkq.armIgnored)
    (hgo : q.goDeclined = s.tkq.goDeclined) : s.Takes q s.tks where
  mem := id
  blocks h := ⟨h.1, fun _ hq => by
    have hq' : q.state = .armed := hq
    simp [TakeState.rests, hq'] at hstate⟩
  agrees _ := (State.takeAgrees_iff _).mpr (.inl hstate)
  eraseIgnored := id
  armIgnored h := harm ▸ h
  goDeclined h := hgo ▸ h

/-- A record of a take that has been armed or is under way, into a state other than ARMED. -/
theorem takes_moves (hfrom : ¬ s.tkq.state.rests) (hto : q.state ≠ .armed) (harm : q.armIgnored = s.tkq.armIgnored)
    (hgo : q.goDeclined = s.tkq.goDeclined) : s.Takes q s.tks where
  mem := id
  blocks h := ⟨h.1, fun _ hq => absurd hq hto⟩
  agrees h := (State.takeAgrees_iff _).mpr (.inr (h.running hfrom))
  eraseIgnored := id
  armIgnored h := harm ▸ h
  goDeclined h := hgo ▸ h

/-- A store that keeps its form, with the record as it is. -/
theorem takes_store {t : Tks} (hmem : Memory.wf s.tks.mem → Memory.wf t.mem)
    (hblocks : s.tks.blocksSound → t.blocksSound) (herase : s.tks.eraseIgnored ≤ 65535 → t.eraseIgnored ≤ 65535) :
    s.Takes s.tkq t where
  mem := hmem
  blocks h := ⟨hblocks h.1, h.2⟩
  agrees h := h
  eraseIgnored := herase
  armIgnored := id
  goDeclined := id

end

theorem Tks.endRecording_eraseIgnored (n : Byte) (c : Bool) (t : Tks) :
    (t.endRecording n c).eraseIgnored = t.eraseIgnored := by
  unfold Tks.endRecording
  split
  · rfl
  · split <;> rfl

theorem Tks.append_eraseIgnored (i : EntryNo) (vs : List Int) (t : Tks) : (t.append i vs).1.eraseIgnored = t.eraseIgnored := by
  by_cases hrec : t.dir[i].state = .recording
  · by_cases hfull : t.dir[i].length % samplesPerBlock t.dir[i].axes.length = 0
    · cases hfree : t.free with
      | nil => rw [Tks.append_storeFull vs hrec hfull hfree]; rfl
      | cons b rest => rw [Tks.append_full vs hrec hfull hfree]
    · rw [Tks.append_part vs hrec hfull]
  · rw [Tks.append_notRecording vs hrec]

theorem Tks.appendTo_eraseIgnored (n : Byte) (vs : List Int) (t : Tks) :
    (t.appendTo n vs).1.eraseIgnored = t.eraseIgnored := by
  unfold Tks.appendTo
  split
  · rfl
  · exact Tks.append_eraseIgnored _ vs t

theorem Tks.openTake_eraseIgnored (n : Byte) (p : Nat) (axes : List AxisNo) (vs : List Int) (t : Tks) :
    (t.openTake n p axes vs).1.eraseIgnored = t.eraseIgnored := by
  unfold Tks.openTake
  split
  · rfl
  · rfl
  · exact Tks.append_eraseIgnored ..

section
variable {l : Scope}

theorem endRecordingNow_run (c : Bool) (s : State) : Run l s (endRecordingNow c s) := by
  refine setStore_run ?_
  split
  · exact takes_store (fun h => by rwa [Tks.endRecording_mem]) (fun h => Tks.endRecording_sound h _ c)
      fun h => by rwa [Tks.endRecording_eraseIgnored]
  · exact takes_store id id id

/-- A counter of the take record, or its own cue sequence, changed. -/
theorem run_tkq {s : State} {q : Tkq} (h : s.Takes q s.tks) : Run l s { s with tkq := q } := (Piece.take s q s.tks h).run

theorem satInc_le (n : Nat) : satInc n ≤ 65535 := Nat.min_le_right _ _

/-! ## Arming (R167 to R169) -/

theorem Tkq.refuse_rests (m : TakeMode) (c : CueMsg) (r : RefusalReason) (q : Tkq) : (q.refuse m c r).state.rests :=
  .inr (.inr rfl)

theorem setTake_refuse_run (m : TakeMode) (c : CueMsg) (r : RefusalReason) (s : State) :
    Run l s (setTake (s.tkq.refuse m c r) s) := setTake_run (takes_rests (Tkq.refuse_rests m c r s.tkq) rfl rfl)

/-- An arming passes the common checks in RUN alone (R167). -/
theorem armCommon_run {s : State} {c : CueMsg} (h : s.armCommon c = none) : s.stop.state = .run := by
  by_contra hne
  simp [State.armCommon, hne] at h

theorem takeableAxes_length {s : State} {c : CueMsg} (h : s.armRecordOnly c = none) :
    1 ≤ s.takeableAxes.length ∧ s.takeableAxes.length ≤ 4 := by
  constructor
  · cases hx : s.takeableAxes with
    | nil => simp [State.armRecordOnly, hx] at h
    | cons _ _ => exact Nat.le_add_left 1 _
  · exact List.length_filter_le _ _

theorem armIgnored_run (s : State) : Run l s { s with tkq := { s.tkq with armIgnored := satInc s.tkq.armIgnored } } :=
  run_tkq (takes_sameState rfl rfl rfl (fun _ => satInc_le _) id)

theorem armRecordTake_run (c : CueMsg) (s : State) : Run l s (armRecordTake c s) := by
  unfold armRecordTake
  split
  · exact armIgnored_run s
  · split
    · exact setTake_refuse_run _ _ _ s
    · next h =>
      obtain ⟨hcommon, honly⟩ := Option.or_eq_none_iff.mp h
      exact setTake_run
        { mem := id
          blocks := fun h => ⟨h.1, fun _ _ => takeableAxes_length honly⟩
          agrees := fun _ => .inr (.inr (.inr (armCommon_run hcommon)))
          eraseIgnored := id
          armIgnored := id
          goDeclined := id }

theorem AxisState.mapped_steady (u : Nat) (x : Int) (a : AxisState) : a.Steady (a.mapped u x) :=
  ⟨⟨id, id, id, id⟩, rfl, rfl, rfl, rfl⟩

theorem handTargets_run (s : State) : Run l s (handTargets s) := by
  refine Relation.ReflTransGen.trans (run_tkq (takes_sameState (q := (handTargets s).tkq) rfl rfl rfl id id))
    (run_axes (ofFn_steady fun i => ?_))
  split
  · split
    · exact AxisState.mapped_steady ..
    · exact .refl _
  · exact .refl _

theorem armPlayTake_run (c : CueMsg) (s : State) : Run l s (armPlayTake c s) := by
  unfold armPlayTake
  split
  · exact armIgnored_run s
  · split
    · next e h _ =>
      refine (setTake_run ?_).trans (handTargets_run _)
      exact
        { mem := id
          blocks := fun h => ⟨h.1, nofun⟩
          agrees := fun _ => .inr (.inr (.inr (armCommon_run (Option.or_eq_none_iff.mp h).1)))
          eraseIgnored := id
          armIgnored := id
          goDeclined := id }
    · exact setTake_refuse_run _ _ _ s

theorem judgePreroll_run (s : State) : Run l s (judgePreroll s) := by
  unfold judgePreroll
  split
  · next h =>
    refine setTake_run (takes_moves ?_ ?_ rfl rfl)
    · simp [TakeState.rests, h]
    · split <;> exact nofun
  · exact .refl

/-! ## GO, HALT, DISARM and aborts (R171 to R180) -/

theorem goRecord_run {s : State} (harmed : s.tkq.state = .armed) (hmode : s.tkq.mode = some .record) :
    Run l s (goRecord s) := by
  have hrest : ¬ s.tkq.state.rests := by simp [TakeState.rests, harmed]
  have htake : s.Takes s.tkq.start (s.tks.openTake s.tkq.number s.tkq.period s.tkq.axes s.samplesNow).1 :=
    { mem := fun h => Tks.openTake_wf h _ _ _ _
      blocks := fun h => ⟨Tks.openTake_sound h.1 _ _ _ (h.2 hmode harmed), nofun⟩
      agrees := fun h => (State.takeAgrees_iff _).mpr (.inr (h.running hrest))
      eraseIgnored := fun h => by rwa [Tks.openTake_eraseIgnored]
      armIgnored := id
      goDeclined := id }
  have hopen : Run l s (setStore (s.tks.openTake s.tkq.number s.tkq.period s.tkq.axes s.samplesNow).1
      (setTake s.tkq.start s)) :=
    (Piece.take s _ _ htake).run.trans ((run_raiseIf _ _ _).trans ((announce_run _).trans (run_raiseIf _ _ _)))
  refine hopen.trans (setTake_run ?_)
  split
  · exact takes_moves (by simp [TakeState.rests, Tkq.start]) nofun rfl rfl
  · exact takes_sameState rfl rfl rfl id id

theorem goPlay_run {s : State} (hready : s.tkq.state = .ready) : Run l s (goPlay s) := by
  unfold goPlay
  split
  · refine (setTake_run (q := s.tkq.start) ?_).trans (setTake_run ?_)
    · exact takes_moves (by simp [TakeState.rests, hready]) nofun rfl rfl
    · split
      · exact takes_moves (by simp [TakeState.rests, Tkq.start]) nofun rfl rfl
      · exact takes_sameState rfl rfl rfl id id
  · exact run_tkq (takes_sameState rfl rfl rfl id fun _ => satInc_le _)

theorem goTake_run (c : CueMsg) (s : State) : Run l s (goTake c s) := by
  unfold goTake
  split
  · exact .refl
  · split
    · next h h' => exact goRecord_run h h'
    · next h _ => exact goPlay_run h
    · exact .refl

theorem underWay_not_rests {x : TakeState} (h : x.underWay = true) : ¬ x.rests := by
  cases x <;> simp_all [TakeState.underWay, TakeState.rests]

theorem haltTake_run (c : CueMsg) (s : State) : Run l s (haltTake c s) := by
  unfold haltTake
  split
  · next h => exact (endRecordingNow_run true s).trans (setTake_run (takes_moves (underWay_not_rests h.2) nofun rfl rfl))
  · exact .refl

theorem idleTake_run (s : State) : Run l s (idleTake s) := setTake_run (takes_rests (.inl rfl) rfl rfl)

theorem disarmTake_run (c : CueMsg) (s : State) : Run l s (disarmTake c s) := by
  unfold disarmTake
  split
  · exact (endRecordingNow_run true s).trans (idleTake_run _)
  · exact .refl

theorem abortWithoutStop_run (s : State) : Run l s (abortWithoutStop s) :=
  (endRecordingNow_run false s).trans (setTake_run (takes_rests (.inr (.inl rfl)) rfl rfl))

theorem participantSeen_run (st : StationNo) (m : StatusMsg) (s : State) : Run l s (participantSeen st m s) := by
  have hidle : Run l s (if m.take = .refused ∨ m.take = .aborted then idleTake s else s) := by
    split
    · exact idleTake_run s
    · exact .refl
  have habort : Run l s (if m.take = .aborted then abortWithoutStop s else s) := by
    split
    · exact abortWithoutStop_run s
    · exact .refl
  unfold participantSeen
  split
  · split
    · exact hidle
    · exact hidle
    · exact hidle
    · exact habort
    · exact habort
    · exact .refl
  · exact .refl

/-! ## The step of a period (R173 to R176) -/

theorem judgeLag_run (s : State) : Run l s (judgeLag s) :=
  run_tkq (takes_sameState (q := (judgeLag s).tkq) rfl rfl rfl id id)

theorem playStep_run {s : State} (h : s.tkq.state.underWay = true) : Run l s (playStep s) := by
  have hrest := underWay_not_rests h
  have hhold : Run l s { s with tkq := { s.tkq with holdTimer := min (s.tkq.holdTimer + 1) 5001 } } :=
    run_tkq (takes_sameState rfl rfl rfl id id)
  unfold playStep
  split
  · refine hhold.trans ?_
    simp only []
    split
    · exact .refl
    · refine (setTake_run ?_).trans ((handTargets_run _).trans (judgeLag_run _))
      exact takes_moves hrest nofun rfl rfl
  · refine (setTake_run (q := { s.tkq with holdTimer := 0, state := .running }) ?_).trans
      ((run_tkq ?_).trans ((handTargets_run _).trans (judgeLag_run _)))
    · exact takes_moves hrest nofun rfl rfl
    · exact takes_sameState rfl rfl rfl id id

theorem takeStep_run (s : State) : Run l s (takeStep s) := by
  unfold takeStep
  split
  · next h =>
    split
    · exact playStep_run h
    · exact run_tkq (takes_sameState (q := (recordStep s).tkq) rfl rfl rfl id id)
    · exact .refl
  · exact .refl

theorem endReachedWork_run {s : State} (h : s.endDue = true) : Run l s (endReachedWork s) := by
  simp only [State.endDue, Bool.and_eq_true, decide_eq_true_eq] at h
  refine setTake_run (takes_moves ?_ nofun rfl rfl)
  simp [TakeState.rests, h.1.2]

theorem Tkq.recording_state {q : Tkq} (h : q.recording = true) : q.state = .running := by
  simp only [Tkq.recording, Bool.and_eq_true, decide_eq_true_eq] at h
  exact h.2

theorem appendWork_run {s : State} (h : s.tkq.recording = true) : Run l s (appendWork s) := by
  have hrest : ¬ s.tkq.state.rests := by simp [TakeState.rests, Tkq.recording_state h]
  unfold appendWork
  refine (run_tkq (q := { s.tkq with appendDue := false }) (takes_sameState rfl rfl rfl id id)).trans
    ((setStore_run (takes_store (fun h => ?_) (fun h => ?_) fun h => ?_)).trans (setTake_run ?_))
  · exact Tks.appendTo_wf h _ _
  · exact Tks.appendTo_sound h _ _
  · rwa [Tks.appendTo_eraseIgnored]
  · split
    · exact takes_moves hrest nofun rfl rfl
    · exact takes_sameState rfl rfl rfl id id

/-! ## Erase and calibrate cues (R105, R157) -/

theorem eraseEntry_run (i : EntryNo) (s : State) : Run l s (setStore (s.tks.eraseEntry i) s) :=
  setStore_run (takes_store id (fun h => Tks.eraseEntry_sound h i) id)

theorem eraseCue_run (c : CueMsg) (s : State) : Run l s (eraseCue c s) := by
  unfold eraseCue
  split
  · exact .refl
  · split
    · refine (Piece.take s s.tkq { s.tks with eraseIgnored := satInc s.tks.eraseIgnored } ?_).run
      exact takes_store id (fun h => h.of_same rfl rfl rfl) fun _ => satInc_le _
    · exact eraseEntry_run _ s

theorem calibrateCue_run (c : CueMsg) (s : State) : Run l s (calibrateCue c s) :=
  foldl_run (fun t i => by
    split
    · unfold calibrateAxis
      split
      · exact startSeek_run i t
      · exact run_calIgnored (satInc_le _)
    · exact .refl) _ _

/-! ## Input lines -/

theorem followEstop_run (hf : l.frames) (k : LineNo) (raw : Bool) (s : State) : Run l s (followEstop k raw s) :=
  (Piece.lines s _ hf).run.trans (giveCauseIf_run _ _ _ _)

theorem sampleLines_run (hf : l.frames) (levels : Word16) (s : State) : Run l s (sampleLines levels s) :=
  (Piece.lines s _ hf).run.trans (foldl_run (fun t k => by
    split
    · exact followEstop_run hf k _ t
    · exact .refl) _ _)

theorem placeOwnCue_run (kind : CueKind) (n m p : Byte) (s : State) : Run l s (placeOwnCue kind n m p s) := by
  refine Relation.ReflTransGen.trans (run_lif (Lif.placeCue_steady _ _)) (run_tkq ?_)
  split
  · exact takes_sameState rfl rfl rfl id id
  · exact takes_sameState rfl rfl rfl id id

theorem buttonCue_run (kind : CueKind) (n m : Byte) (s : State) : Run l s (buttonCue kind n m s) := by
  unfold buttonCue
  split
  · exact placeOwnCue_run ..
  · exact run_lif (Lif.countDropped_steady 1 _)

theorem armedButton_run (kind : CueKind) (s : State) : Run l s (armedButton kind s) := by
  unfold armedButton
  split
  · exact .refl
  · exact buttonCue_run ..

theorem judgeGroup_run (g : GroupNo) (s : State) : Run l s (judgeGroup g s) :=
  (run_groups s _).trans (giveCauseIf_run _ _ _ _)

theorem run_if {s t : State} {c : Prop} [Decidable c] (h : Run l s t) : Run l s (if c then t else s) := by
  split
  · exact h
  · exact .refl

theorem limitEdge_run (i : AxisNo) (e : Bool) (s : State) : Run l s (limitEdge i e s) := by
  unfold limitEdge
  split
  · exact endDirection_run i s
  · exact (Piece.cause s true s.cfg.own _ _).run

theorem lineActs_run (f : LineFunction) (g : GroupNo) (first active : Bool) (s : State) :
    Run l s (lineActs f g first active s) := by
  cases f with
  | crewTrip => exact judgeGroup_run g s
  | limit i e => exact run_if (limitEdge_run i e s)
  | driveFault i => exact giveCauseIf_run _ _ _ s
  | stopButton => exact giveCauseIf_run _ _ _ s
  | goButton => exact run_if (armedButton_run _ s)
  | haltButton => exact run_if (armedButton_run _ s)
  | resumeButton => exact run_if (buttonCue_run _ _ _ s)
  | _ => exact .refl

theorem qualifiedEdgeWork_run {k : LineNo} {s : State} (h : s.edgeDue k = true) : Run l s (qualifiedEdgeWork k s) :=
  (Piece.edge s k h).run.trans (lineActs_run _ _ _ _ _)

/-! ## Links, handwheels and the periodic work -/

theorem setLink_run {i : AxisNo} {k : Link} {s : State}
    (h : s.axes[i].link.frameErrors ≤ 65535 → k.frameErrors ≤ 65535) : Run l s (setLink i k s) :=
  (run_setAxis (b := { s.axes[i] with link := k }) ⟨⟨id, id, id, h⟩, rfl, rfl, rfl, rfl⟩).trans (run_raiseIf _ _ _)

theorem Link.judgeDwell_frameErrors (c : AxisCfg) (k : Link) : (k.judgeDwell c).frameErrors = k.frameErrors := by
  unfold Link.judgeDwell
  split
  · rfl
  · split <;> rfl

theorem Link.read_frameErrors (c : AxisCfg) (r : ReadResult) {k : Link} (h : k.frameErrors ≤ 65535) :
    (k.read c r).frameErrors ≤ 65535 := by
  unfold Link.read
  split
  · exact h
  · exact h
  · simp only []
    split
    · exact Nat.zero_le _
    · simp only [Link.readLocked]
      split
      · exact satInc_le _
      · exact h
  · exact h

theorem dwellWork_run (i : AxisNo) (s : State) : Run l s (dwellWork i s) :=
  (setLink_run fun h => by rwa [Link.judgeDwell_frameErrors]).trans (linkZones_run i _)

theorem windowWork_run (i : AxisNo) (s : State) : Run l s (windowWork i s) :=
  run_modAxis ⟨⟨id, id, id, id⟩, rfl, rfl, rfl, rfl⟩

theorem testTravel_run (i : AxisNo) (s : State) : Run l s (testTravel i s) := run_if (failSeek_run i _ s)

theorem encoderWork_run (i : AxisNo) (samples : List Bool) (s : State) : Run l s (encoderWork i samples s) := by
  unfold encoderWork
  refine Relation.ReflTransGen.trans (b := { s with
      due := { s.due with reads := s.due.reads.set i false }
      svp := s.svp.raiseIf (s.axes[i].link.readAlerts s.cfg.axes[i] (readSamples s.cfg.axes[i].positionBits samples))
        flagCounterAlert }) ((run_due s { s.due with reads := s.due.reads.set i false }).trans (run_raiseIf _ _ _)) ?_
  refine (setLink_run fun h => ?_).trans ((giveCauseIf_run _ _ _ _).trans ((testTravel_run i _).trans (linkZones_run i _)))
  exact Link.read_frameErrors _ _ h

theorem axisWork_run (s : State) : Run l s (axisWork s) := by
  have hlif : s.lif.Steady (axisWork s).lif := Lif.foldl_steady (fun q i => by
    split
    · exact Lif.placeAxis_steady ..
    · exact .refl q) _ _
  have haxes : ∀ i : AxisNo, s.axes[i].Steady (axisWork s).axes[i] :=
    ofFn_steady fun i => ⟨⟨id, id, id, id⟩, rfl, rfl, rfl, rfl⟩
  exact (Piece.queue s _ hlif).run.trans ((Piece.axes { s with lif := (axisWork s).lif } _ haxes).run.trans
    ((run_due { s with lif := (axisWork s).lif, axes := (axisWork s).axes } _).trans (run_setPeer fun _ h => h)))

theorem demandWork_run (s : State) : Run l s (demandWork s) := by
  have hlif : s.lif.Steady (demandWork s).lif := Lif.foldl_steady (fun q i => by
    split
    · exact Lif.placeDemand_steady ..
    · exact .refl q) _ _
  exact (Piece.queue s _ hlif).run.trans ((run_wheels _ _).trans (run_due _ _))

theorem statusWork_run (s : State) : Run l s (statusWork s) := (run_due s _).trans (composeStatus_run _)

theorem escalateWork_run (s : State) : Run l s (escalateWork s) :=
  run_lif ⟨⟨id, id⟩, rfl, rfl, rfl, id⟩

theorem windowEndWork_run (s : State) : Run l s (windowEndWork s) := by
  refine Relation.ReflTransGen.trans (run_lif (q := (windowEndWork s).lif) ⟨⟨id, fun h => ?_⟩, rfl, rfl, rfl, id⟩) (run_due _ _)
  simp only [Lif.counters, List.forall_mem_cons] at h ⊢
  obtain ⟨h1, h2, h3, h4, h5, h6, h7, -, h9⟩ := h
  exact ⟨h1, h2, h3, h4, h5, h6, h7, Nat.zero_le _, h9⟩

/-! ## Brakes and the release sequence (R138, R140, R144) -/

theorem AxisState.off_steady (a : AxisState) : a.Steady { a with drive := a.drive.off, brakeTimer := none } :=
  ⟨⟨nofun, id, id, id⟩, rfl, rfl, rfl, rfl⟩

theorem brakeWork_run (i : AxisNo) (s : State) : Run l s (brakeWork i s) := by
  refine (run_modAxis ?_).trans (judgeStopped_run _)
  exact s.axes[i].off_steady

/-- With every drive on and every brake released, no release timer runs. -/
theorem State.stopAgrees.timer_of_allReleased {s : State} (h : s.stopAgrees) (hall : s.allReleased = true) (i : AxisNo) :
    s.axes[i].releaseTimer = none := by
  by_contra hne
  obtain ⟨-, -, hused, hrel⟩ := h.2.2 i hne
  have := List.all_eq_true.mp hall i (mem_allAxes i)
  rw [hused, hrel, Bool.and_false] at this
  exact absurd this Bool.false_ne_true

/-- A step of the release sequence, after which the resume is judged. -/
theorem judgeReleased_run {s : State} {as : Vector AxisState 4} {d : DriveOnPhase} (loaded : s.cfl.load = .runReady)
    (steady : ∀ i : AxisNo, as[i].mpr = s.axes[i].mpr ∧ as[i].cap = s.axes[i].cap ∧ as[i].dsl = s.axes[i].dsl
      ∧ as[i].link = s.axes[i].link)
    (safe : s.drivesSafe → s.stopAgrees → ({ s with axes := as, driveOn := d } : State).drivesSafe
      ∧ ({ s with axes := as, driveOn := d } : State).stopAgrees ∧ d = .idle) :
    Run l s (judgeReleased { s with axes := as, driveOn := d }) := by
  unfold judgeReleased
  split
  · next h =>
    obtain ⟨hres, hall⟩ := h
    have hreleases : s.Releases as .run d :=
      { loaded := loaded
        stop := .inr ⟨hres, rfl⟩
        steady := steady
        safe := fun hd hs => by
          obtain ⟨hdrives, hagrees, hidle⟩ := safe hd hs
          have hnone := hagrees.1.mpr (.inr hres)
          exact ⟨hdrives, ⟨fun _ => .inl rfl, fun _ => hnone⟩, fun h => absurd hidle h,
            fun i hi => absurd (State.stopAgrees.timer_of_allReleased hagrees hall i) hi⟩ }
    exact (Piece.release s as .run d hreleases).run.trans ((run_raise _ _).trans
      ((startAutoSeeks_run _).trans (announce_run _)))
  · exact (Piece.release s as s.stop.state d
      { loaded := loaded, stop := .inl rfl, steady := steady, safe := fun hd hs => ⟨(safe hd hs).1, (safe hd hs).2.1⟩ }).run

/-- Under a drive-on boundary that is awaited or passed, no category is held and no release timer runs. -/
theorem State.stopAgrees.awaiting {s : State} (h : s.stopAgrees) (hd : s.driveOn ≠ .idle) :
    s.stop.state = .resuming ∧ s.stop.category = none ∧ ∀ i : AxisNo, s.axes[i].releaseTimer = none :=
  ⟨h.2.1 hd, h.1.mpr (.inr (h.2.1 hd)), fun i => by_contra fun hne => hd (h.2.2 i hne).2.1⟩

theorem foldl_giveCauseIf_resuming {b : AxisNo → Bool} {k : Cause} {c : Category} {xs : List AxisNo} {s : State}
    (h : (xs.foldl (fun t i => giveCauseIf (b i) k c t) s).stop.state = .resuming) :
    xs.foldl (fun t i => giveCauseIf (b i) k c t) s = s := by
  have hgrows : ∀ (xs : List AxisNo) (s : State), s.halted →
      (xs.foldl (fun t i => giveCauseIf (b i) k c t) s).halted := by
    intro xs
    induction xs with
    | nil => exact fun _ hs => hs
    | cons i xs ih => exact fun s hs => ih _ (giveCauseIf_grows (b i) k c hs).halted
  induction xs generalizing s with
  | nil => rfl
  | cons i xs ih =>
    rw [List.foldl_cons] at h ⊢
    by_cases hb : b i = true
    · have hstop : (giveCauseIf (b i) k c s).halted := by
        rw [hb]
        exact (takeCause_stops true s.cfg.own k c s).1
      exact absurd h (hgrows xs _ hstop).2
    · have hsame : giveCauseIf (b i) k c s = s := if_neg hb
      rw [hsame] at h ⊢
      exact ih h

theorem giveEncLost_run (s : State) : Run l s (giveEncLost s) := foldl_run (fun _ _ => giveCauseIf_run _ _ _ _) _ _

/-- The part of an axis that switching drives and releasing brakes leaves. -/
theorem switchDrivesOn_steady (s : State) (i : AxisNo) :
    (switchDrivesOn s).axes[i].mpr = s.axes[i].mpr ∧ (switchDrivesOn s).axes[i].cap = s.axes[i].cap
      ∧ (switchDrivesOn s).axes[i].dsl = s.axes[i].dsl ∧ (switchDrivesOn s).axes[i].link = s.axes[i].link
      ∧ (switchDrivesOn s).axes[i].releaseTimer = s.axes[i].releaseTimer := by
  simp only [switchDrivesOn, State.mapAxes, getElem_ofFn_fin]
  split <;> exact ⟨rfl, rfl, rfl, rfl, rfl⟩

theorem startReleases_steady (s : State) (i : AxisNo) :
    (startReleases s).axes[i].mpr = s.axes[i].mpr ∧ (startReleases s).axes[i].cap = s.axes[i].cap
      ∧ (startReleases s).axes[i].dsl = s.axes[i].dsl ∧ (startReleases s).axes[i].link = s.axes[i].link := by
  simp only [startReleases, State.mapAxes, getElem_ofFn_fin]
  split
  · split <;> exact ⟨rfl, rfl, rfl, rfl⟩
  · exact ⟨rfl, rfl, rfl, rfl⟩

/-- A release timer that starts is that of a used axis whose brake is engaged (R144). -/
theorem startReleases_timer {s : State} {i : AxisNo} (hnone : s.axes[i].releaseTimer = none)
    (h : (startReleases s).axes[i].releaseTimer ≠ none) :
    s.used i = true ∧ (startReleases s).axes[i].drive.released = false := by
  simp only [startReleases, State.mapAxes, getElem_ofFn_fin] at h ⊢
  by_cases hc : (s.used i && !s.axes[i].drive.released) = true
  · rw [if_pos hc] at h ⊢
    by_cases hd : s.cfg.axes[i].brakeDelay = 0
    · rw [if_pos hd] at h
      exact absurd hnone h
    · rw [if_neg hd]
      simpa using hc
  · rw [if_neg hc] at h
    exact absurd hnone h

/-- The drive-on boundary where every link is LOCKED, and where one is not (R91, R144). -/
theorem driveOnWork_resuming {s : State}
    (h : (giveEncLost (switchDrivesOn { s with driveOn := .idle })).stop.state = .resuming) :
    driveOnWork s = judgeReleased (startReleases (switchDrivesOn { s with driveOn := .idle })) :=
  (if_pos h).trans (congrArg (fun t => judgeReleased (startReleases t)) (foldl_giveCauseIf_resuming h))

theorem driveOnWork_stopping {s : State}
    (h : (giveEncLost (switchDrivesOn { s with driveOn := .idle })).stop.state ≠ .resuming) :
    driveOnWork s = giveEncLost (switchDrivesOn { s with driveOn := .idle }) := if_neg h

theorem State.stopAgrees.not_cut {s : State} (h : s.stopAgrees) (hd : s.driveOn ≠ .idle) : s.stop.category ≠ some .cut :=
  fun hc => absurd ((h.awaiting hd).2.1.symm.trans hc) nofun

theorem driveOnWork_run {s : State} (loaded : s.cfl.load = .runReady) (hdue : s.driveOn ≠ .idle) :
    Run l s (driveOnWork s) := by
  have hsteady := switchDrivesOn_steady { s with driveOn := .idle }
  by_cases h : (giveEncLost (switchDrivesOn { s with driveOn := .idle })).stop.state = .resuming
  · rw [driveOnWork_resuming h]
    have htimer := @startReleases_timer (switchDrivesOn { s with driveOn := .idle })
    have hsteady' := startReleases_steady (switchDrivesOn { s with driveOn := .idle })
    obtain ⟨as, has⟩ : ∃ as, as = (startReleases (switchDrivesOn { s with driveOn := .idle })).axes := ⟨_, rfl⟩
    have hstate : startReleases (switchDrivesOn { s with driveOn := .idle }) = { s with axes := as, driveOn := .idle } :=
      has ▸ rfl
    rw [hstate]
    simp only [← has] at htimer hsteady'
    refine judgeReleased_run loaded (fun i => ?_) fun hd hs => ?_
    · obtain ⟨hmpr, hcap, hdsl, hlink, -⟩ := hsteady i
      obtain ⟨hmpr', hcap', hdsl', hlink'⟩ := hsteady' i
      exact ⟨hmpr'.trans hmpr, hcap'.trans hcap, hdsl'.trans hdsl, hlink'.trans hlink⟩
    · obtain ⟨hres, -, hnone⟩ := hs.awaiting hdue
      refine ⟨⟨fun h => absurd loaded h, fun h => absurd h (hs.not_cut hdue)⟩,
        ⟨hs.1, fun h => absurd rfl h, fun i hi => ?_⟩, rfl⟩
      obtain ⟨hused, hrel⟩ := htimer ((hsteady i).2.2.2.2.trans (hnone i)) hi
      exact ⟨hres, rfl, hused, hrel⟩
  · rw [driveOnWork_stopping h]
    have hreleases : s.Releases (switchDrivesOn { s with driveOn := .idle }).axes s.stop.state .idle :=
      { loaded := loaded
        stop := .inl rfl
        steady := fun i => by
          obtain ⟨hmpr, hcap, hdsl, hlink, -⟩ := hsteady i
          exact ⟨hmpr, hcap, hdsl, hlink⟩
        safe := fun hd hs => ⟨⟨fun h => absurd loaded h, fun h => absurd h (hs.not_cut hdue)⟩, hs.1,
          fun h => absurd rfl h, fun i hi => absurd ((hsteady i).2.2.2.2.trans ((hs.awaiting hdue).2.2 i)) hi⟩ }
    exact (Piece.release s _ _ _ hreleases).run.trans (giveEncLost_run _)

theorem releaseWork_run {s : State} {i : AxisNo} (loaded : s.cfl.load = .runReady) (hdue : s.releaseDue i = true) :
    Run l s (releaseWork i s) := by
  have htimer : s.axes[i].releaseTimer ≠ none := by
    simp only [State.releaseDue, decide_eq_true_eq] at hdue
    rw [hdue]
    exact nofun
  refine judgeReleased_run (d := s.driveOn) loaded (fun j => ?_) fun hd hs => ?_
  · rw [getElem_set_fin]
    split
    · next hij => exact hij ▸ ⟨rfl, rfl, rfl, rfl⟩
    · exact ⟨rfl, rfl, rfl, rfl⟩
  · obtain ⟨hres, hidle, -, -⟩ := hs.2.2 i htimer
    have hnone := hs.1.mpr (.inr hres)
    refine ⟨⟨fun h => absurd loaded h, fun h => absurd (hnone.symm.trans h) nofun⟩, ⟨hs.1, hs.2.1, fun j hj => ?_⟩, hidle⟩
    have hji : i ≠ j := by
      rintro rfl
      exact hj (by rw [getElem_set_fin, if_pos rfl])
    have hset := getElem_set_fin s.axes i j
      { s.axes[i] with drive := { s.axes[i].drive with released := true }, releaseTimer := none }
    rw [if_neg hji] at hset
    refine ⟨hres, hidle, ?_⟩
    have hj' : s.axes[j].releaseTimer ≠ none := fun h => hj (by rw [hset]; exact h)
    exact ⟨(hs.2.2 j hj').2.2.1, (congrArg (·.drive.released) hset).trans (hs.2.2 j hj').2.2.2⟩

end

end Sys2Proof.Machine
end

section
/-! PROOFS. Frames, attempts, the clock, the service port and resets as runs of small changes, and with them every command. -/

namespace Sys2Proof.Machine

/-! ## The Line Interface -/

theorem Lif.counters_le {l : Lif} : (∀ n ∈ l.counters, n ≤ 65535) ↔
    l.checkFailures ≤ 65535 ∧ l.formatErrors ≤ 65535 ∧ l.unknownClass ≤ 65535 ∧ l.arbitrationLosses ≤ 65535
      ∧ l.bitErrors ≤ 65535 ∧ l.unacknowledged ≤ 65535 ∧ l.droppedCues ≤ 65535 ∧ l.windowCount ≤ 65535 := by
  simp [Lif.counters]

/-- A counter that is raised where something holds stays in range. -/
theorem satIncIf_le {c : Prop} [Decidable c] {n : Nat} (h : n ≤ 65535) : (if c then satInc n else n) ≤ 65535 := by
  split
  · exact satInc_le n
  · exact h

theorem Lif.Fits.trans {a b c : Lif} (h : a.Fits b) (h' : b.Fits c) : a.Fits c :=
  ⟨h'.bounded ∘ h.bounded, h'.counters ∘ h.counters⟩

theorem Lif.buffer_fits (f : Frame) (b : Bool) (l : Lif) : l.Fits (l.buffer f b) := ⟨id, id⟩

theorem Lif.countVerdict_fits (v : Verdict) (l : Lif) : l.Fits (l.countVerdict v) where
  bounded := id
  counters := by
    simp only [Lif.counters_le, Lif.countVerdict]
    rintro ⟨h1, h2, h3, hrest⟩
    exact ⟨satIncIf_le h1, satIncIf_le h2, satIncIf_le h3, hrest⟩

theorem Lif.countWindow_fits (n : Nat) (b : Bool) (l : Lif) : l.Fits (l.countWindow n b) where
  bounded := id
  counters := by
    simp only [Lif.counters_le, Lif.countWindow]
    rintro ⟨h1, h2, h3, h4, h5, h6, h7, h8⟩
    exact ⟨h1, h2, h3, h4, h5, h6, h7, satIncIf_le h8⟩

theorem Lif.clearCounters_fits (l : Lif) : l.Fits l.clearCounters where
  bounded := id
  counters := by
    simp only [Lif.counters_le, Lif.clearCounters]
    rintro ⟨-, -, -, -, -, -, -, h8⟩
    exact ⟨Nat.zero_le _, Nat.zero_le _, Nat.zero_le _, Nat.zero_le _, Nat.zero_le _, Nat.zero_le _, Nat.zero_le _, h8⟩

theorem Lif.enterLineMute_fits (l : Lif) : l.Fits l.enterLineMute where
  bounded h := ⟨h.1, Nat.zero_le 4, nofun, h.2.2.2⟩
  counters := by
    simp only [Lif.counters_le, Lif.enterLineMute]
    rintro ⟨h1, h2, h3, h4, h5, h6, -, h8⟩
    exact ⟨h1, h2, h3, h4, h5, h6, Nat.min_le_right _ _, h8⟩

theorem Lif.enterPermanentMute_fits (l : Lif) : l.Fits l.enterPermanentMute where
  bounded h := ⟨nofun, Nat.zero_le 4, nofun, h.2.2.2⟩
  counters := by
    simp only [Lif.counters_le, Lif.enterPermanentMute]
    rintro ⟨h1, h2, h3, h4, h5, h6, -, h8⟩
    exact ⟨h1, h2, h3, h4, h5, h6, Nat.min_le_right _ _, h8⟩

theorem Lif.startFrame_fits (own : StationNo) (idle : Nat) (l : Lif) : l.Fits (l.startFrame own idle) := by
  unfold Lif.startFrame
  split <;> exact ⟨id, id⟩

/-- A STOP burst after an attempt has one copy less and the next index (R16). -/
theorem StopSlot.afterAttempt_bounded {x y : StopSlot} (h : x.afterAttempt = some y)
    (hx : 1 ≤ x.copies ∧ x.copies + x.nextIndex = 3) : 1 ≤ y.copies ∧ y.copies + y.nextIndex = 3 := by
  unfold StopSlot.afterAttempt at h
  split at h
  · exact absurd h nofun
  · obtain rfl := Option.some.inj h
    dsimp only
    omega

/-- The CUE FIFO after an attempt is no longer, and no cue has used its last attempt (R17). -/
theorem cuesAfter_bounded (r : AttemptResult) {cues : List CueSlot} (hlen : cues.length ≤ 4)
    (hatt : ∀ c ∈ cues, c.attempts ≤ 2) : (cuesAfter r cues).length ≤ 4 ∧ ∀ c ∈ cuesAfter r cues, c.attempts ≤ 2 := by
  cases cues with
  | nil => exact ⟨hlen, hatt⟩
  | cons c rest =>
    have hrest : rest.length ≤ 4 ∧ ∀ x ∈ rest, x.attempts ≤ 2 :=
      ⟨Nat.le_of_succ_le hlen, fun x hx => hatt x (List.mem_cons_of_mem c hx)⟩
    unfold cuesAfter
    dsimp only
    split
    · exact hrest
    · split
      · split
        · exact hrest
        · next h3 =>
          refine ⟨hlen, fun x hx => ?_⟩
          rcases List.mem_cons.mp hx with rfl | hx
          · dsimp only
            omega
          · exact hrest.2 x hx
      · exact ⟨hlen, hatt⟩

theorem Lif.attemptRule_fits (f : TxFrame) (r : AttemptResult) (l : Lif) : l.Fits (l.attemptRule f r) where
  bounded := by
    rintro ⟨hstop, hlen, hatt, hfail⟩
    refine ⟨fun x hx => ?_, ?_⟩
    · simp only [Lif.attemptRule] at hx
      split at hx
      · obtain ⟨y, hy, hxy⟩ := Option.bind_eq_some_iff.mp hx
        exact StopSlot.afterAttempt_bounded hxy (hstop y hy)
      · exact hstop x hx
    · simp only [Lif.attemptRule]
      split
      · obtain ⟨hlen', hatt'⟩ := cuesAfter_bounded r hlen hatt
        exact ⟨hlen', hatt', hfail⟩
      · exact ⟨hlen, hatt, hfail⟩
  counters := by
    simp only [Lif.counters_le, Lif.attemptRule]
    rintro ⟨h1, h2, h3, h4, h5, h6, h7, h8⟩
    exact ⟨h1, h2, h3, h4, h5, h6, satIncIf_le h7, h8⟩

theorem Lif.countAttempt_fits (f : TxFrame) (r : AttemptResult) (l : Lif) : l.Fits (l.countAttempt f r) where
  bounded := by
    rintro ⟨hstop, hlen, hatt, hfail⟩
    refine ⟨hstop, hlen, hatt, ?_⟩
    simp only [Lif.countAttempt]
    split
    · exact Nat.zero_le _
    · split
      · exact Nat.min_le_right _ _
      · exact hfail
  counters := by
    simp only [Lif.counters_le, Lif.countAttempt]
    rintro ⟨h1, h2, h3, h4, h5, h6, h7, h8⟩
    exact ⟨h1, h2, h3, satIncIf_le h4, satIncIf_le h5, satIncIf_le h6, h7, h8⟩

theorem Lif.tick_fits (l : Lif) : l.Fits l.tick := ⟨id, id⟩

/-! ## The evaluation of a RESUME reads no more than what a frame leaves -/

theorem persisting_lif {s : State} {q : Lif} (h : q.mute = s.lif.mute) :
    ({ s with lif := q } : State).persisting = s.persisting := by
  have hmute : ({ s with lif := q } : State).lif.mute = s.lif.mute := h
  unfold State.persisting
  rw [hmute]
  rfl

theorem rosterPeerMissing_peers {s : State} {ps : Vector PeerEntry 8}
    (h : ∀ st : StationNo, ps[st].presence = s.peers[st].presence) :
    ({ s with peers := ps } : State).rosterPeerMissing = s.rosterPeerMissing := by
  simp only [State.rosterPeerMissing, State.present, h]

theorem persisting_peers {s : State} {ps : Vector PeerEntry 8} {la : Option ArmContext}
    (h : ∀ st : StationNo, ps[st].presence = s.peers[st].presence) :
    ({ s with peers := ps, lastArm := la } : State).persisting = s.persisting := by
  have hroster : ({ s with peers := ps, lastArm := la } : State).rosterPeerMissing = s.rosterPeerMissing :=
    rosterPeerMissing_peers (s := { s with lastArm := la }) h
  unfold State.persisting
  rw [hroster]
  rfl

/-- A peer entry replaced by one of the same presence. -/
theorem presence_set {s : State} {st : StationNo} {e : PeerEntry} (h : e.presence = s.peers[st].presence) (j : StationNo) :
    (s.peers.set st e)[j].presence = s.peers[j].presence := by
  rw [getElem_set_fin]
  split
  · next hij => rw [h, hij]
  · rfl

/-! ## Runs -/

section
variable {l : Scope}

theorem run_line (hf : l.frames) {s : State} {q : Lif} (h : s.lif.Fits q) : Run l s { s with lif := q } :=
  (Piece.line s q hf h).run

theorem requestBurst_run (k : Cause) (s : State) : Run l s (requestBurst k s) := by
  refine run_lif ?_
  split
  · exact Lif.placeStop_steady ..
  · exact .refl _

theorem evaluateResume_run (hf : l.frames) {s : State}
    (h : s.stop.state = .stopped → s.persisting = none → l.resumes) : Run l s (evaluateResume s) := by
  unfold evaluateResume
  split
  · next hstop =>
    split
    · next k _ => exact (Piece.blocked s k hf).run.trans ((run_raise _ _).trans (requestBurst_run k _))
    · next hnone => exact (Piece.accept s hf (h hstop hnone) hstop).run.trans (announce_run _)
  · exact .refl

theorem dispatchCue_run (hf : l.frames) (c : CueMsg) {s : State}
    (h : c.kind = .resume → s.stop.state = .stopped → s.persisting = none → l.resumes) : Run l s (dispatchCue c s) := by
  unfold dispatchCue
  split
  · exact armRecordTake_run c s
  · exact armPlayTake_run c s
  · exact goTake_run c s
  · exact haltTake_run c s
  · exact disarmTake_run c s
  · next hk => exact evaluateResume_run hf (h hk)
  · exact eraseCue_run c s
  · exact calibrateCue_run c s

theorem takeCue_run (hf : l.frames) (st : StationNo) (c : CueMsg) {s : State}
    (h : c.kind = .resume → s.stop.state = .stopped → s.persisting = none → l.resumes) : Run l s (takeCue st c s) := by
  have hheard : Run l s { s with
      peers := s.peers.set st { s.peers[st] with cueSeq := some c.seq }, lastArm := armContextAfter st c s.lastArm } :=
    (run_setPeer (e := { s.peers[st] with cueSeq := some c.seq }) fun _ h => h).trans (Piece.notes _ _ _ hf).run
  unfold takeCue
  dsimp only
  split
  · refine hheard.trans (dispatchCue_run hf c fun hk hstop hnone => h hk hstop ?_)
    exact (persisting_peers (presence_set (e := { s.peers[st] with cueSeq := some c.seq }) rfl)).symm.trans hnone
  · exact hheard

theorem receiveStop_run (hf : l.frames) (m : StopMsg) (s : State) : Run l s (receiveStop m s) := by
  unfold receiveStop
  split
  · exact .refl
  · exact (Piece.notes s s.lastArm _ hf).run.trans (Piece.cause _ _ _ _ _).run

theorem PeerEntry.heard_gaps (m : StatusMsg) (late : Bool) (e : PeerEntry) : (e.heard m late).gaps = e.gaps := by
  unfold PeerEntry.heard
  split
  · rfl
  · split
    · rfl
    · rfl
    · split
      · rfl
      · split <;> rfl
    · rfl

theorem setPeerEntry_run {st : StationNo} {e : PeerEntry} {s : State} (b : Bool) (h : e.gaps = s.peers[st].gaps) :
    Run l s (setPeer st e b s) :=
  (run_setPeer (st := st) (e := e) fun i hi => by rw [h]; exact hi).trans (run_raiseIf _ _ _)

theorem receiveStatus_run (st : StationNo) (m : StatusMsg) (s : State) : Run l s (receiveStatus st m s) := by
  unfold receiveStatus
  refine (setPeerEntry_run _ ?_).trans ((giveCauseIf_run _ _ _ _).trans ((peerReaders_run _ _ _).trans
    (participantSeen_run _ _ _)))
  exact PeerEntry.heard_gaps m _ _

theorem livenessWork_run (st : StationNo) (s : State) : Run l s (livenessWork st s) := by
  refine (setPeerEntry_run true ?_).trans ((giveCauseIf_run _ _ _ _).trans (peerReaders_run _ _ _))
  rfl

theorem receiveAxis_run (st : StationNo) (i : AxisNo) (m : AxisMsg) (s : State) : Run l s (receiveAxis st i m s) := by
  refine (run_setPeer ?_).trans (reformZones_run _ _)
  exact fun _ h => h

theorem PeerEntry.hearDemand_gaps {i : Fin 4} {seq : BitVec 4} {e : PeerEntry} {j : Fin 4} (h : e.gaps[j] ≤ 65535) :
    (e.hearDemand i seq).gaps[j] ≤ 65535 := by
  unfold PeerEntry.hearDemand
  dsimp only
  split
  · exact h
  · split
    · exact h
    · rw [getElem_set_fin]
      split
      · exact satInc_le _
      · exact h

theorem run_motion (hf : l.frames) {s : State} {as : Vector AxisState 4} (hsec : ∀ i : AxisNo, s.axes[i].Secures as[i])
    (hspeed : ∀ i : AxisNo, as[i].mpr.v = s.axes[i].mpr.v ∧ as[i].cap = s.axes[i].cap) :
    Run l s { s with axes := as } :=
  (Piece.motion s as hf hsec fun h i => by
    obtain ⟨hv, hc⟩ := hspeed i
    have hi := h i
    dsimp only
    rw [hv, hc]
    exact hi).run

theorem receiveDemand_run (hf : l.frames) (st : StationNo) (m : DemandMsg) (s : State) : Run l s (receiveDemand st m s) := by
  unfold receiveDemand
  split
  · exact .refl
  · split
    · exact (Piece.counts s (satInc s.mismatched) s.foreign s.calIgnored (fun _ => satInc_le _) id id).run
    · split
      · exact (Piece.counts s s.mismatched (satInc s.foreign) s.calIgnored id (fun _ => satInc_le _) id).run
      · refine run_motion hf (set_secures ⟨id, id, id, id⟩) fun i => ?_
        rw [getElem_set_fin]
        split
        · next hi => exact hi ▸ ⟨rfl, rfl⟩
        · exact ⟨rfl, rfl⟩

theorem hearDemand_run (hf : l.frames) (st : StationNo) (i : Fin 4) (m : DemandMsg) (s : State) :
    Run l s (hearDemand st i m s) :=
  (run_setPeer fun _ h => PeerEntry.hearDemand_gaps h).trans (receiveDemand_run hf st m _)

/-- A cue that a payload spells is a RESUME where its kind byte says so. -/
theorem parseCue_resume {p : List Byte} {c : CueMsg} (h : parseCue p = some c) (hk : c.kind = .resume) :
    cueKindOf (payloadByte p 0) = some .resume := by
  obtain ⟨k, hkind, hrest⟩ := Option.bind_eq_some_iff.mp h
  split at hrest
  · exact absurd hrest nofun
  · obtain rfl := Option.some.inj hrest
    exact hkind.trans (congrArg some hk)

theorem handFrame_run (hf : l.frames) {f : Frame} {s : State}
    (h : f.isResume → s.stop.state = .stopped → s.persisting = none → l.resumes) : Run l s (handFrame f s) := by
  unfold handFrame
  split
  · split
    · exact receiveStop_run hf _ s
    · exact .refl
  · split
    · split
      · exact .refl
      · exact receiveStatus_run _ _ s
    · exact .refl
  · split
    · split
      · exact .refl
      · exact receiveStatus_run _ _ s
    · exact .refl
  · next hcls =>
    split
    · next c hc => exact takeCue_run hf _ c fun hk => h ⟨hcls, parseCue_resume hc hk⟩
    · exact .refl
  · exact hearDemand_run hf _ _ _ s
  · split
    · exact .refl
    · exact receiveAxis_run _ _ _ s
  · exact .refl

theorem findDuplicate_run (hf : l.frames) (s : State) : Run l s (findDuplicate s) := by
  unfold findDuplicate
  split
  · exact .refl
  · exact (run_line hf s.lif.enterPermanentMute_fits).trans ((run_raiseIf _ _ _).trans (Piece.cause _ _ _ _ _).run)

theorem carryOut_run (hf : l.frames) {f : Frame} {v : Verdict} {s : State}
    (h : v = .received → f.isResume → s.stop.state = .stopped → s.persisting = none → l.resumes) :
    Run l s (carryOut f v s) := by
  have hcount : Run l s { s with
      lif := (s.lif.countVerdict v).countWindow s.cfg.checkThreshold (decide (v = .checkFailure))
      svp := s.svp.raiseIf (decide (v = .checkFailure) && s.lif.checkAlerts s.cfg.checkThreshold) flagCounterAlert } :=
    (run_line hf ((s.lif.countVerdict_fits v).trans (Lif.countWindow_fits _ _ _))).trans (run_raiseIf _ _ _)
  unfold carryOut
  dsimp only
  split
  · refine hcount.trans (handFrame_run hf fun hr hstop hnone => h rfl hr hstop ?_)
    exact (persisting_lif rfl).symm.trans hnone
  · exact hcount.trans (findDuplicate_run hf _)
  · exact hcount

theorem receiveFrame_run (hf : l.frames) {f : Frame} {s : State}
    (h : s.operating = true → f.isResume → s.stop.state = .stopped → s.persisting = none → l.resumes) :
    Run l s (receiveFrame f s) := by
  unfold receiveFrame
  split
  · next hop =>
    refine (run_line hf (s.lif.buffer_fits f true)).trans (carryOut_run hf fun _ hr hstop hnone => h hop hr hstop ?_)
    exact (persisting_lif rfl).symm.trans hnone
  · split
    · exact run_line hf ((s.lif.buffer_fits f false).trans (Lif.countVerdict_fits _ _))
    · exact .refl

theorem frameStep_run (hf : l.frames) {f : Frame} {s : State}
    (h : s.operating = true → f.isResume → s.stop.state = .stopped → s.persisting = none → l.resumes) :
    Run l s (frameStep f s) := by
  unfold frameStep
  split
  · exact (receiveFrame_run hf h).trans (endEvent_run _)
  · exact receiveFrame_run hf h

end

end Sys2Proof.Machine
end

section
/-! PROOFS. Every command as a run of small changes. -/

namespace Sys2Proof.Machine

/-! ## The velocity of a computation (R69 to R73) -/

/-- A value clamped between bounds on either side of 0 grows no larger. -/
theorem clampOpt_natAbs {x : Int} {lo hi : Option Int} (hlo : ∀ y, lo = some y → y ≤ 0) (hhi : ∀ y, hi = some y → 0 ≤ y) :
    (clampOpt x lo hi).natAbs ≤ x.natAbs := by
  cases lo with
  | none =>
    cases hi with
    | none => exact Nat.le_refl _
    | some h =>
      have := hhi h rfl
      simp only [clampOpt, minOpt, maxOpt, Option.getD_some]
      omega
  | some g =>
    have hg := hlo g rfl
    cases hi with
    | none =>
      simp only [clampOpt, minOpt, maxOpt, Option.getD_some]
      omega
    | some h =>
      have := hhi h rfl
      simp only [clampOpt, minOpt, maxOpt, Option.getD_some]
      omega

theorem stoppingBound_nonneg (x : Int) (s : Nat) : 0 ≤ stoppingBound x s := by
  unfold stoppingBound
  split
  · exact Int.le_refl 0
  · exact Int.natCast_nonneg _

theorem ProfilerInput.edgeClamp_natAbs (n : ProfilerInput) (p v : Int) : (n.edgeClamp p v).natAbs ≤ v.natAbs := by
  refine clampOpt_natAbs (fun y hy => ?_) (fun y hy => ?_)
  · obtain ⟨x, -, rfl⟩ := Option.map_eq_some_iff.mp hy
    omega
  · obtain ⟨x, -, rfl⟩ := Option.map_eq_some_iff.mp hy
    omega

theorem ProfilerInput.limited_natAbs (n : ProfilerInput) (p g : Int) : (n.limited p g).natAbs ≤ g.natAbs := by
  refine clampOpt_natAbs (fun y hy => ?_) (fun y hy => ?_)
  · obtain ⟨x, -, rfl⟩ := Option.map_eq_some_iff.mp hy
    have := stoppingBound_nonneg x n.cfg.ad
    omega
  · obtain ⟨x, -, rfl⟩ := Option.map_eq_some_iff.mp hy
    exact stoppingBound_nonneg x n.cfg.ad

theorem ProfilerInput.approach_natAbs (n : ProfilerInput) (d : Int) : (n.approach d).natAbs ≤ n.cap := by
  have hb := stoppingBound_nonneg d.natAbs n.cfg.a
  unfold ProfilerInput.approach
  rcases lt_trichotomy d 0 with h | h | h
  · rw [Int.sign_eq_neg_one_of_neg h]
    omega
  · simp [h]
  · rw [Int.sign_eq_one_of_pos h]
    omega

theorem ProfilerInput.demandGoal_natAbs (n : ProfilerInput) (p : Int) : (n.demandGoal p).natAbs ≤ n.cap := by
  unfold ProfilerInput.demandGoal
  split
  · exact Nat.zero_le _
  · simp only [clampInt]
    omega
  · exact n.approach_natAbs _

/-- A slew ends between the speed and the goal. -/
theorem slew_natAbs (v g : Int) (step : Nat) : (slew v g step).natAbs ≤ max v.natAbs g.natAbs := by
  simp only [slew, clampInt]
  omega

theorem ProfilerInput.newVelocity_natAbs (n : ProfilerInput) (p v : Int) :
    (n.newVelocity p v).natAbs ≤ max v.natAbs n.cap := by
  have hslew := slew_natAbs v (n.limited p (n.demandGoal p)) (n.step v (n.demandGoal p) (n.limited p (n.demandGoal p)))
  have hedge := n.edgeClamp_natAbs p (slew v (n.limited p (n.demandGoal p))
    (n.step v (n.demandGoal p) (n.limited p (n.demandGoal p))))
  have hlimit := n.limited_natAbs p (n.demandGoal p)
  have hgoal := n.demandGoal_natAbs p
  simp only [ProfilerInput.newVelocity]
  omega

/-- The speed after a computation is no larger than the greater of the speed before it and the cap. -/
theorem ProfilerInput.compute_natAbs (n : ProfilerInput) (m : Mpr) : (n.compute m).v.natAbs ≤ max m.v.natAbs n.cap := by
  unfold ProfilerInput.compute
  split
  · exact Nat.zero_le _
  · unfold ProfilerInput.follow
    dsimp only
    split
    · split
      · exact Nat.zero_le _
      · exact n.newVelocity_natAbs m.p m.v
    · exact n.newVelocity_natAbs m.p m.v

theorem Mpr.seeded_natAbs (x : Option Int) (m : Mpr) : (m.seeded x).v.natAbs ≤ m.v.natAbs := by
  unfold Mpr.seeded
  split
  · exact Nat.zero_le _
  · exact Nat.le_refl _

theorem computed_natAbs (s : State) (i : AxisNo) : (s.computed i).v.natAbs ≤ max s.axes[i].mpr.v.natAbs s.axes[i].cap :=
  (ProfilerInput.compute_natAbs _ _).trans (max_le_max_right _ (Mpr.seeded_natAbs _ _))

/-! ## The computations of a period -/

theorem axisComputed_unused {s : State} {i : AxisNo} (h : s.cfg.axes[i].kind = .unused) :
    s.axisComputed i = { s.axes[i] with
      drive := { s.axes[i].drive with word := setpointWord false 0, lastCount := 0 } } := by
  simp only [State.axisComputed, h, if_true]

theorem axisComputed_used {s : State} {i : AxisNo} (h : s.cfg.axes[i].kind ≠ .unused) :
    s.axisComputed i = { s.axes[i] with
      mpr := s.computed i
      dsl := { s.axes[i].dsl with held := heldAfter s.cfg.axes[i] (s.goalOf i) s.axes[i].dsl.held }
      lens := { s.axes[i].lens with lastUnit := lastUnitAfter s.cfg.axes[i] s.axes[i] }
      link := s.axes[i].link.follow (s.computed i).count
      drive := s.axes[i].drive.send (s.computed i).count } := by
  simp only [State.axisComputed, h, if_false]

/-- The axis after its computation, but for the timers of a seek. -/
theorem computeAxes_axis (s : State) (i : AxisNo) : ∃ x : Lens, (computeAxes s).axes[i] = { s.axisComputed i with lens := x } := by
  simp only [computeAxes, State.mapAxes, getElem_ofFn_fin]
  split
  · exact ⟨_, rfl⟩
  · exact ⟨_, rfl⟩

theorem computeAxes_secures (s : State) (i : AxisNo) : s.axes[i].Secures (computeAxes s).axes[i] := by
  obtain ⟨x, hx⟩ := computeAxes_axis s i
  rw [hx]
  by_cases h : s.cfg.axes[i].kind = .unused
  · rw [axisComputed_unused h]
    exact ⟨id, id, id, id⟩
  · rw [axisComputed_used h]
    exact ⟨id, id, id, id⟩

theorem computeAxes_cap (s : State) (i : AxisNo) : (computeAxes s).axes[i].cap = s.axes[i].cap := by
  obtain ⟨x, hx⟩ := computeAxes_axis s i
  rw [hx]
  by_cases h : s.cfg.axes[i].kind = .unused
  · rw [axisComputed_unused h]
  · rw [axisComputed_used h]

theorem computeAxes_speed {s : State} (i : AxisNo) :
    (computeAxes s).axes[i].mpr.v.natAbs ≤ max s.axes[i].mpr.v.natAbs s.axes[i].cap := by
  obtain ⟨x, hx⟩ := computeAxes_axis s i
  rw [hx]
  by_cases h : s.cfg.axes[i].kind = .unused
  · rw [axisComputed_unused h]
    exact le_max_left _ _
  · rw [axisComputed_used h]
    exact computed_natAbs s i

section
variable {l : Scope}

theorem computeAxes_run (hf : l.frames) {s : State} (loaded : s.cfl.load = .runReady) : Run l s (computeAxes s) := by
  refine (Piece.motion s (computeAxes s).axes hf (computeAxes_secures s) fun h i => ⟨⟨?_, ?_⟩, fun hl => absurd loaded hl⟩).run
  · exact (computeAxes_speed i).trans (max_le (h i).1.1 (h i).1.2)
  · exact (computeAxes_cap s i).symm ▸ (h i).1.2

theorem giveFollow_run (s : State) : Run l s (giveFollow s) := foldl_run (fun _ _ => giveCauseIf_run _ _ _ _) _ _

theorem periodCompute_run (hf : l.frames) {s : State} (loaded : s.cfl.load = .runReady) : Run l s (periodCompute s) :=
  (computeAxes_run hf loaded).trans ((giveFollow_run _).trans ((judgePreroll_run _).trans ((applySequence_run _).trans
    ((judgeStopped_run _).trans (endEvent_run _)))))

theorem advanceTime_run (hf : l.frames) (s : State) : Run l s (advanceTime s) := by
  have haxes : Run l s { s with axes := (advanceTime s).axes } := run_motion hf
    (fun i => by
      simp only [advanceTime, getElem_ofFn_fin]
      exact ⟨id, id, fun h hn => h (by
        simp only [AxisState.tick, AxisState.tickTimers]
        rw [hn]
        rfl), id⟩)
    fun i => by
      simp only [advanceTime, getElem_ofFn_fin]
      exact ⟨rfl, rfl⟩
  refine haxes.trans ((run_line (q := s.lif.tick) (s := { s with axes := (advanceTime s).axes }) hf s.lif.tick_fits).trans
    ((run_due { s with axes := (advanceTime s).axes, lif := s.lif.tick } (advanceTime s).due).trans
      (Piece.clock { s with axes := (advanceTime s).axes, lif := s.lif.tick, due := (advanceTime s).due }
        (advanceTime s).time (advanceTime s).driveOn hf ?_).run))
  simp only [advanceTime]
  split
  · next h => simp [h]
  · exact Iff.rfl

theorem periodStart_run (hf : l.frames) (levels : Word16) (s : State) : Run l s (periodStart levels s) :=
  (advanceTime_run hf s).trans ((sampleLines_run hf levels _).trans ((takeStep_run _).trans (endEvent_run _)))

/-! ## What falls due within a period -/

theorem qualifiedEdgeStep_run (k : LineNo) (s : State) : Run l s (qualifiedEdgeStep k s) :=
  eventIf_run fun _ h => qualifiedEdgeWork_run h

theorem driveOnStep_run (s : State) : Run l s (driveOnStep s) :=
  eventIf_run fun hop h => driveOnWork_run (operating_loaded hop) fun hidle => by
    rw [decide_eq_true_eq, hidle] at h
    exact absurd h nofun

theorem releaseStep_run (i : AxisNo) (s : State) : Run l s (releaseStep i s) :=
  eventIf_run fun hop h => releaseWork_run (operating_loaded hop) h

theorem brakeStep_run (i : AxisNo) (s : State) : Run l s (brakeStep i s) := eventIf_run fun _ _ => brakeWork_run i s

theorem livenessStep_run (st : StationNo) (s : State) : Run l s (livenessStep st s) :=
  eventIf_run fun _ _ => livenessWork_run st s

theorem reportStaleStep_run (st : StationNo) (i : AxisNo) (s : State) : Run l s (reportStaleStep st i s) :=
  eventIf_run fun _ _ => reformZones_run _ s

theorem demandTimeoutStep_run (i : AxisNo) (s : State) : Run l s (demandTimeoutStep i s) :=
  eventIf_run fun _ _ => (reformGates_run _ s).trans (run_modAxis ⟨⟨id, id, id, id⟩, rfl, rfl, rfl, rfl⟩)

theorem probeStep_run (s : State) : Run l s (probeStep s) := eventIf_run fun _ h => (Piece.probe s h).run

theorem escalationStep_run (s : State) : Run l s (escalationStep s) := eventIf_run fun _ _ => escalateWork_run s

theorem checkWindowStep_run (s : State) : Run l s (checkWindowStep s) := eventIf_run fun _ _ => windowEndWork_run s

theorem holdLimitStep_run (s : State) : Run l s (holdLimitStep s) := eventIf_run fun _ _ => abortWithoutStop_run s

theorem endReachedStep_run (s : State) : Run l s (endReachedStep s) := eventIf_run fun _ h => endReachedWork_run h

theorem sampleAppendStep_run (s : State) : Run l s (sampleAppendStep s) :=
  eventIf_run fun _ h => appendWork_run (Bool.and_eq_true_iff.mp h).2

theorem seekStallStep_run (i : AxisNo) (s : State) : Run l s (seekStallStep i s) :=
  eventIf_run fun _ _ => endDirection_run i s

theorem blockedStep_run (i : AxisNo) (s : State) : Run l s (blockedStep i s) := eventIf_run fun _ _ => failSeek_run i _ s

theorem dwellStep_run (i : AxisNo) (s : State) : Run l s (dwellStep i s) := eventIf_run fun _ _ => dwellWork_run i s

theorem windowStep_run (i : AxisNo) (s : State) : Run l s (windowStep i s) := eventIf_run fun _ _ => windowWork_run i s

theorem demandStep_run (s : State) : Run l s (demandStep s) := eventIf_run fun _ _ => demandWork_run s

theorem axisStep_run (s : State) : Run l s (axisStep s) := eventIf_run fun _ _ => axisWork_run s

theorem statusStep_run (s : State) : Run l s (statusStep s) := eventIf_run fun _ _ => statusWork_run s

theorem encoderStep_run (i : AxisNo) (samples : List Bool) (s : State) : Run l s (encoderStep i samples s) :=
  (dwellStep_run i s).trans ((windowStep_run i _).trans (eventIf_run fun _ _ => encoderWork_run i samples _))

end

end Sys2Proof.Machine
end

section
/-! PROOFS. Attempts, the service port and resets as runs of small changes, and with them every command. -/

namespace Sys2Proof.Machine

/-! ## What a run leaves alone -/

/-- A run without a load or a start keeps the reset sources, the loader and the settings. -/
theorem Run.kept {l : Scope} {s t : State} (h : Run l s t) (hl : ¬ l.loads) (hs : ¬ l.starts) :
    t.hold = s.hold ∧ t.cfl = s.cfl ∧ t.cfg = s.cfg := by
  induction h with
  | refl => exact ⟨rfl, rfl, rfl⟩
  | @tail u _ _ h ih =>
    obtain ⟨h1, h2, h3⟩ := ih
    cases h with
    | cause loc o k c =>
      have hq := takeCause_quiet loc o k c u
      exact ⟨(hold_of_quiet hq).trans h1, (cfl_of_quiet hq).trans h2, (congrArg (·.cfg) hq).trans h3⟩
    | held _ scope => exact absurd scope hl
    | loads _ scope => exact absurd scope hl
    | operation _ scope => exact absurd scope hl
    | start scope => exact absurd scope hs
    | _ => exact ⟨h1, h2, h3⟩

/-- Every run keeps the commands that wait. -/
theorem Run.pending {l : Scope} {s t : State} (h : Run l s t) : t.pending = s.pending := by
  induction h with
  | refl => rfl
  | tail _ h ih =>
    refine Eq.trans ?_ ih
    cases h with
    | cause loc o k c => exact congrArg (·.pending) (takeCause_quiet loc o k c _)
    | start _ => unfold beginStart; split <;> rfl
    | _ => rfl

/-- The scope of the clock. -/
def Scope.clock : Scope := { frames := True, resumes := False, loads := False, starts := False }

section
variable {l : Scope}

/-- The work of a period that ends. -/
theorem closePeriod_run (s : State) : Run l s (closePeriod s) :=
  (foldl_run (fun t k => qualifiedEdgeStep_run k t) _ s).trans <|
  (driveOnStep_run _).trans <|
  (foldl_run (fun t i => releaseStep_run i t) _ _).trans <|
  (foldl_run (fun t i => brakeStep_run i t) _ _).trans <|
  (foldl_run (fun t st => livenessStep_run st t) _ _).trans <|
  (foldl_run (fun t st => foldl_run (fun u i => reportStaleStep_run st i u) _ t) _ _).trans <|
  (foldl_run (fun t i => demandTimeoutStep_run i t) _ _).trans <|
  (probeStep_run _).trans <|
  (escalationStep_run _).trans <|
  (checkWindowStep_run _).trans <|
  (holdLimitStep_run _).trans <|
  (endReachedStep_run _).trans <|
  (sampleAppendStep_run _).trans <|
  (foldl_run (fun t i => seekStallStep_run i t) _ _).trans <|
  (foldl_run (fun t i => blockedStep_run i t) _ _).trans <|
  (foldl_run (fun t i => encoderStep_run i [] t) _ _).trans <|
  (foldl_run (fun t i => dwellStep_run i t) _ _).trans <|
  (foldl_run (fun t i => windowStep_run i t) _ _).trans <|
  (demandStep_run _).trans <|
  (axisStep_run _).trans (statusStep_run _)

theorem idlePeriod_run (s : State) : Run l s (idlePeriod s) :=
  run_mapAxes fun _ => ⟨⟨id, id, id, id⟩, rfl, rfl, rfl, rfl⟩

/-- The settings, the loader and the reset sources after the first part of a boundary. -/
theorem periodStart_kept (levels : Word16) (s : State) :
    (periodStart levels (closePeriod s)).hold = s.hold ∧ (periodStart levels (closePeriod s)).cfl = s.cfl
      ∧ (periodStart levels (closePeriod s)).cfg = s.cfg :=
  Run.kept (l := .clock) ((closePeriod_run s).trans (periodStart_run trivial levels _)) id id

theorem boundary_run (hf : l.frames) (levels : Word16) (s : State) : Run l s (boundary levels s) := by
  unfold boundary
  split
  · next hop =>
    refine (closePeriod_run s).trans ((periodStart_run hf levels _).trans (periodCompute_run hf ?_))
    rw [(periodStart_kept levels s).2.1]
    exact operating_loaded hop
  · split
    · exact .refl
    · exact idlePeriod_run s

/-! ## Attempts (R5 to R8, R21) -/

theorem judgeMute_run (hf : l.frames) (s : State) : Run l s (judgeMute s) := by
  unfold judgeMute
  split
  · exact (run_line hf s.lif.enterLineMute_fits).trans ((run_raiseIf _ _ _).trans (Piece.cause _ _ _ _ _).run)
  · exact .refl

/-- The entry to LINE-MUTE leaves a condition that persists. -/
theorem judgeMute_persisting {s : State} (hr : ({ s with stop := s.stop } : State).lif.failures = 16 ∧ s.lif.mute = .off) :
    (judgeMute s).lif.mute = .lineMute := by
  rw [judgeMute, if_pos hr]
  exact congrArg (·.lif.mute) (giveCause_quiet .lineMute .brake _)

theorem persisting_ne_none_of_muted {s : State} (h : s.lif.mute = .lineMute) : s.persisting ≠ none := by
  unfold State.persisting
  simp only [h, reduceCtorEq, if_false, if_true]
  split_ifs <;> exact nofun

theorem receiveLate_run (hf : l.frames) {cells : List Bool} {s : State}
    (h : (frameOfCells cells).isResume → s.stop.state = .stopped → s.persisting = none → l.resumes) :
    Run l s (receiveLate cells s) := by
  have hbuffer := run_line (l := l) hf (s.lif.buffer_fits (frameOfCells cells) false)
  unfold receiveLate
  dsimp only
  split
  · exact hbuffer
  · refine hbuffer.trans (carryOut_run hf fun _ hr hstop hnone => h hr hstop ?_)
    exact (persisting_lif rfl).symm.trans hnone

/-- What has to hold for the end of an own frame to hand on a RESUME that is accepted. -/
def State.attemptResumes (s : State) (f : TxFrame) (r : AttemptResult) (cells : List Bool) : Prop :=
  (r = .acked ∧ (ownFrame s.cfg.own f).isResume
      ∨ r = .bitError ∧ (frameOfCells cells).isResume)
    ∧ s.stop.state = .stopped
    ∧ ({ s with lif := (s.lif.attemptRule f r).countAttempt f r } : State).persisting = none

theorem endAttempt_run (hf : l.frames) {f : TxFrame} {r : AttemptResult} {cells : List Bool} {s : State}
    (h : s.attemptResumes f r cells → l.resumes) : Run l s (endAttempt f r cells s) := by
  obtain ⟨u, hu⟩ : ∃ u : State, u = { s with
      lif := (s.lif.attemptRule f r).countAttempt f r, svp := s.svp.raiseIf (s.lif.dropsCue f r) flagCueFail } := ⟨_, rfl⟩
  have hcount : Run l s u := by
    rw [hu]
    exact (run_line hf ((s.lif.attemptRule_fits f r).trans (Lif.countAttempt_fits f r _))).trans (run_raiseIf _ _ _)
  have hmute := judgeMute_run hf u
  have hown : u.stop = s.stop ∧ u.cfg = s.cfg
      ∧ u.persisting = ({ s with lif := (s.lif.attemptRule f r).countAttempt f r } : State).persisting := by
    subst hu
    exact ⟨rfl, rfl, rfl⟩
  obtain ⟨hstopEq, hcfg, hpers⟩ := hown
  have hjudged : (judgeMute u).persisting = none → judgeMute u = u := by
    intro hnone
    by_contra hne
    by_cases hc : u.lif.failures = 16 ∧ u.lif.mute = .off
    · exact persisting_ne_none_of_muted (judgeMute_persisting hc) hnone
    · exact hne (if_neg hc)
  unfold endAttempt
  rw [← hu]
  dsimp only
  split
  · refine hcount.trans (hmute.trans (handFrame_run hf fun hr hstop hnone => ?_))
    rw [hjudged hnone] at hstop hnone
    exact h ⟨.inl ⟨rfl, hr⟩, hstopEq ▸ hstop, hpers ▸ hnone⟩
  · refine hcount.trans (hmute.trans (receiveLate_run hf fun hr hstop hnone => ?_))
    rw [hjudged hnone] at hstop hnone
    exact h ⟨.inr ⟨rfl, hr⟩, hstopEq ▸ hstop, hpers ▸ hnone⟩
  · exact hcount.trans hmute

theorem attemptWork_run (hf : l.frames) {cells : List Bool} {s : State}
    (h : ∀ f r, s.lif.onLine = some f → readBack 0 (frameCells s.cfg.own f) cells = some r →
      s.attemptResumes f r cells → l.resumes) : Run l s (attemptWork cells s) := by
  unfold attemptWork
  split
  · exact .refl
  · next f hf' =>
    split
    · exact .refl
    · next r hr => exact endAttempt_run hf (h f r hf' hr)

/-! ## The service port -/

theorem respond_run (r : Response) (s : State) : Run l s (respond r s) :=
  (Piece.svp s { s.svp with response := some r, responseCut := false } id id).run

theorem portCommand_run {always : Bool} {f : State → State} {s : State} (h : Run l s (f s)) :
    Run l s (portCommand always f s) := by
  unfold portCommand
  split
  · exact .refl
  · split
    · exact h
    · exact respond_run _ s

theorem readPeerWork_run (st : Byte) (s : State) : Run l s (readPeerWork st s) := by
  unfold readPeerWork
  split <;> exact respond_run _ s

theorem readAxisWork_run (axis : Byte) (s : State) : Run l s (readAxisWork axis s) := by
  unfold readAxisWork
  split <;> exact respond_run _ s

theorem readInputsWork_run (hf : l.frames) (s : State) : Run l s (readInputsWork s) :=
  (Piece.lines s _ hf).run.trans (respond_run _ _)

theorem readCountersWork_run (hf : l.frames) (s : State) : Run l s (readCountersWork s) := by
  have htake : s.Takes { s.tkq with armIgnored := 0, goDeclined := 0 } { s.tks with eraseIgnored := 0 } :=
    { mem := id
      blocks := fun h => ⟨h.1.of_same rfl rfl rfl, h.2⟩
      agrees := id
      eraseIgnored := fun _ => Nat.zero_le _
      armIgnored := fun _ => Nat.zero_le _
      goDeclined := fun _ => Nat.zero_le _ }
  have haxes : ∀ i : AxisNo, s.axes[i].Steady
      (Vector.ofFn fun i => { s.axes[i] with link := s.axes[i].link.clearCounters })[i] :=
    ofFn_steady fun i => ⟨⟨id, id, id, fun _ => Nat.zero_le _⟩, rfl, rfl, rfl, rfl⟩
  refine (Piece.take s _ _ htake).run.trans <|
    (Piece.line _ s.lif.clearCounters hf ?_).run.trans <|
    (Piece.counts _ 0 0 0 (fun _ => Nat.zero_le _) (fun _ => Nat.zero_le _) (fun _ => Nat.zero_le _)).run.trans <|
    (Piece.axes _ (Vector.ofFn fun i => { s.axes[i] with link := s.axes[i].link.clearCounters }) ?_).run.trans <|
    (Piece.svp _ { s.svp with shortTransfers := 0, badCommands := 0 } (fun _ => Nat.zero_le _)
      (fun _ => Nat.zero_le _)).run.trans (respond_run _ _)
  · exact Lif.clearCounters_fits _
  · exact haxes

theorem takeReadWork_run (n : Byte) (b : Word16) (s : State) : Run l s (takeReadWork n b s) := by
  unfold takeReadWork
  split <;> exact respond_run _ s

/-- TAKE-CREATE on OK allocates for one to four axes and at least one sample, with blocks enough free (R158). -/
theorem createResult_ok {s : State} {n m p : Byte} {len : Nat} (h : s.createResult n m p len = none) :
    (1 ≤ (maskAxes m).length ∧ (maskAxes m).length ≤ 4) ∧ 1 ≤ len
      ∧ blocksFor len (maskAxes m).length ≤ s.tks.free.length := by
  unfold State.createResult at h
  split_ifs at h with h1 h2 h3 h4 h5
  simp only [State.badCreate, Bool.or_eq_true, not_or, List.isEmpty_iff, decide_eq_true_eq] at h2
  obtain ⟨⟨⟨⟨⟨-, hne⟩, -⟩, -⟩, hlen⟩, -⟩ := h2
  exact ⟨⟨List.length_pos_iff.mpr hne, List.length_filter_le _ _⟩, Nat.one_le_iff_ne_zero.mpr hlen, Nat.le_of_not_lt h5⟩

theorem takeCreateWork_run (n m p : Byte) (len : BitVec 24) (s : State) : Run l s (takeCreateWork n m p len s) := by
  unfold takeCreateWork
  refine Relation.ReflTransGen.trans ?_ (formAttention_run _)
  unfold answer
  split
  · exact respond_run _ s
  · next h =>
    obtain ⟨haxes, hlen, hfree⟩ := createResult_ok h
    unfold createNow
    refine Relation.ReflTransGen.trans ?_ (respond_run _ _)
    split
    · exact .refl
    · next i hi =>
      exact setStore_run (takes_store (fun h => Tks.create_wf h i n _ _ _)
        (fun h => Tks.create_sound h (Tks.lowestEmpty_state hi) n _ haxes hlen hfree) id)

theorem takeWriteWork_run (n : Byte) (b : Word16) (ws : List Word32) (s : State) : Run l s (takeWriteWork n b ws s) := by
  unfold takeWriteWork
  split
  · exact respond_run _ s
  · split
    · exact (setStore_run (takes_store (fun h => Tks.writeBlock_wf h _ n _ _ ws)
        (fun h => Tks.writeBlock_sound h _ n _ _ ws) id)).trans (respond_run _ _)
    · exact respond_run _ s

/-- An upload is open for an entry that is not EMPTY. -/
theorem Tks.openUpload_find {t : Tks} {n : Byte} {i : EntryNo} {w : Nat} (h : t.openUpload n = some (i, w)) :
    t.find n = some i := by
  unfold Tks.openUpload at h
  split at h
  · next u j _ hj =>
    split at h
    · obtain ⟨rfl, -⟩ := Prod.mk.inj (Option.some.inj h)
      exact hj
    · exact absurd h nofun
  · exact absurd h nofun

theorem closeEntry_find {s : State} {n : Byte} {i : EntryNo} (h : s.closeEntry n = some i) : s.tks.find n = some i := by
  unfold State.closeEntry at h
  split at h
  · exact absurd h nofun
  · next j w hj =>
    dsimp only at h
    split at h
    · obtain rfl := Option.some.inj h
      exact Tks.openUpload_find hj
    · exact absurd h nofun

theorem takeCloseWork_run (n : Byte) (s : State) : Run l s (takeCloseWork n s) := by
  unfold takeCloseWork
  split
  · exact respond_run _ s
  · next i hi =>
    refine (setStore_run ?_).trans ((respond_run _ _).trans (formAttention_run _))
    exact takes_store id (fun h => Tks.closeUpload_sound h (Tks.find_state (closeEntry_find hi))) id

theorem takeEraseWork_run (n : Byte) (s : State) : Run l s (takeEraseWork n s) := by
  unfold takeEraseWork
  split
  · exact respond_run _ s
  · split
    · exact respond_run _ s
    · exact (eraseEntry_run _ s).trans ((respond_run _ _).trans (formAttention_run _))

theorem lensTableWriteWork_run (axis count : Byte) (pairs : List (Word16 × Word16)) (s : State) :
    Run l s (lensTableWriteWork axis count pairs s) := by
  unfold lensTableWriteWork
  split
  · exact respond_run _ s
  · split
    · exact respond_run _ s
    · split
      · exact (run_modAxis ⟨⟨id, id, id, id⟩, rfl, rfl, rfl, rfl⟩).trans (respond_run _ _)
      · exact respond_run _ s

theorem lensTableReadWork_run (axis : Byte) (s : State) : Run l s (lensTableReadWork axis s) := by
  unfold lensTableReadWork
  split <;> exact respond_run _ s

theorem sendCueWork_run (k n m p : Byte) (s : State) : Run l s (sendCueWork k n m p s) := by
  unfold sendCueWork
  split
  · exact respond_run _ s
  · split
    · exact respond_run _ s
    · split
      · exact (placeOwnCue_run _ _ _ _ s).trans (respond_run _ _)
      · exact respond_run _ s

theorem clearRequestsWork_run (bits : Word16) (s : State) : Run l s (clearRequestsWork bits s) :=
  (Piece.svp s { s.svp with flags := s.svp.flags &&& bits } id id).run.trans
    ((respond_run _ _).trans (formAttention_run _))

theorem writeEnablesWork_run (mask : Word16) (s : State) : Run l s (writeEnablesWork mask s) :=
  (Piece.svp s { s.svp with enables := mask &&& flagMask } id id).run.trans
    ((respond_run _ _).trans (formAttention_run _))

theorem readSnapshotWork_run (s : State) : Run l s (readSnapshotWork s) :=
  (Piece.svp s { s.svp with snap := none, snapArmed := true } id id).run.trans (respond_run _ _)

theorem badCommandWork_run (c : Byte) (s : State) : Run l s (badCommandWork c s) := by
  unfold badCommandWork
  split
  · exact .refl
  · exact (Piece.svp s { s.svp with badCommands := satInc s.svp.badCommands } id fun _ => satInc_le _).run.trans
      (respond_run _ _)

theorem shortTransferWork_run (b : Bool) (s : State) : Run l s (shortTransferWork b s) :=
  (Piece.svp s (shortTransferWork b s).svp (fun _ => satInc_le _) id).run

/-! ## Resets and the load -/

theorem holdPins_run (hf : l.frames) (s : State) : Run l s (holdPins s) := by
  have hline : s.lif.Fits { s.lif with onLine := none, ackDriven := false } := ⟨id, id⟩
  have haxes : ∀ i : AxisNo, s.axes[i].Steady (holdPins s).axes[i] :=
    ofFn_steady fun i => ⟨⟨id, nofun, id, id⟩, rfl, rfl, rfl, rfl⟩
  refine (run_line hf hline).trans <| (run_outputs _ (Vector.replicate 8 false)).trans <|
    (Piece.axes _ (holdPins s).axes ?_).run.trans (Piece.svp _ (holdPins s).svp ?_ ?_).run
  · exact haxes
  · exact id
  · exact id

theorem powerOnHold_run (hf : l.frames) (hl : l.loads) (s : State) : Run l s (powerOnHold s) :=
  (Piece.held s _ hl).run.trans (holdPins_run hf _)

theorem pinHold_run (hf : l.frames) (hl : l.loads) (n : Nat) (s : State) : Run l s (pinHold n s) := by
  unfold pinHold
  split
  · exact .refl
  · exact (Piece.held s _ hl).run.trans (holdPins_run hf _)

theorem releaseReset_run (hs : l.starts) (s : State) : Run l s (releaseReset s) := run_if (Piece.start s hs).run

theorem readStart_run (hl : l.loads) (s : State) : Run l s (readStart s) := 
  run_if (Piece.loads s { s.cfl with sent := readCommandBytes } hl (.inl rfl)).run

theorem loadingRead_loading {s : State} {b : Bool} (h : s.loadingRead b = true) : s.cfl.load ≠ .runReady := by
  simp only [State.loadingRead, Bool.and_eq_true, decide_eq_true_eq] at h
  rw [h.1.2]
  exact nofun

theorem readDone_run (hf : l.frames) (hl : l.loads) (image : List Byte) (levels : Word16) (s : State) :
    Run l s (readDone image levels s) := by
  unfold readDone
  split
  · next h =>
    have hload := loadingRead_loading h
    split
    · next r _ =>
      have hline : s.lif.Fits (loadFault (image.take 1024) r s).lif := ⟨id, id⟩
      refine (run_line hf hline).trans (Piece.loads _ (loadFault (image.take 1024) r s).cfl hl ?_).run
      exact .inr ⟨hload, nofun⟩
    · exact (Piece.operation s _ hl hload).run.trans ((reformGates_run _ _).trans ((reformZones_run _ _).trans
        ((sampleLines_run hf levels _).trans (endEvent_run _))))
  · exact .refl

end

/-! ## Every command -/

/-- The scope of a command: a RESUME is accepted, the part held or loaded, and a start begun by the commands that do so
alone. -/
def Scope.of (c : Instr) (s : State) : Scope where
  frames := True
  resumes := s.acceptsResume c
  loads := c = .powerOnReset ∨ (∃ n, c = .pinReset n) ∨ c = .configReadStart ∨ ∃ image levels, c = .configReadDone image levels
  starts := c = .resetRelease

theorem mem_allEight (z : ZoneNo) : z ∈ allEight := by decide +revert

theorem mem_allStations (st : StationNo) : st ∈ allStations := by decide +revert

/-- A line that is active or not yet qualified is the one that is not clear. -/
theorem not_clear_iff (s : State) (k : LineNo) : ¬ s.clear k ↔ s.lineActiveOrUnqualified k = true := by
  unfold State.clear State.lineActiveOrUnqualified State.lineActive
  cases s.lines[k].qualified with
  | none => simp
  | some q => cases q <;> cases s.cfg.lines[k].activeHigh <;> simp

theorem anyLine_of_not_clear {s : State} {f : LineFunction → Bool} {k : LineNo} (hf : f s.cfg.lines[k].function = true)
    (hc : ¬ s.clear k) : s.anyLine f = true :=
  List.any_eq_true.mpr ⟨k, mem_allSixteen k, Bool.and_eq_true_iff.mpr ⟨hf, (not_clear_iff s k).mp hc⟩⟩

/-- With no persisting condition found, none holds (R142). -/
theorem not_persistsBy_of_persisting {s : State} (h : s.persisting = none) (k : Cause) : ¬ s.persistsBy k := by
  unfold State.persisting at h
  split_ifs at h with hestop hgroup hlimit hfault henc hzone hpeer hdup hmute
  cases k with
  | estop => exact fun ⟨k, hk, hc⟩ => hestop (anyLine_of_not_clear (decide_eq_true hk) hc)
  | crewTrip =>
    refine fun hp => hgroup (Bool.or_eq_true_iff.mpr ?_)
    rcases hp with ⟨g, hg⟩ | ⟨k, hk, hq⟩
    · exact .inl (List.any_eq_true.mpr ⟨g, mem_allAxes g, hg⟩)
    · exact .inr (List.any_eq_true.mpr
        ⟨k, mem_allSixteen k, Bool.and_eq_true_iff.mpr ⟨decide_eq_true hk, decide_eq_true hq⟩⟩)
  | limit =>
    refine fun ⟨k, i, highEnd, hk, hcal, hc⟩ => hlimit (anyLine_of_not_clear (k := k) ?_ hc)
    rw [hk]
    simp only [State.limitPersists, State.isLens, Bool.not_eq_true', Bool.and_eq_false_iff, decide_eq_false_iff_not]
    exact not_and_or.mp hcal
  | driveFault =>
    refine fun ⟨k, i, hk, hc⟩ => hfault (anyLine_of_not_clear (k := k) ?_ hc)
    rw [hk]
    rfl
  | encLost =>
    refine fun ⟨i, hused, hlink⟩ => henc ?_
    rw [Bool.not_eq_true', State.encodersLocked, List.all_eq_false]
    have hfalse : (!s.used i || s.axes[i].link.valid) = false := by
      rw [State.used, decide_eq_true hused, Link.valid, decide_eq_false hlink]
      rfl
    exact ⟨i, mem_allAxes i, Bool.eq_false_iff.mp hfalse⟩
  | zoneBreach => exact fun ⟨z, hz⟩ => hzone (List.any_eq_true.mpr ⟨z, mem_allEight z, hz⟩)
  | peerLost =>
    refine fun ⟨st, hroster, hown, hpres⟩ => hpeer (List.any_eq_true.mpr ⟨st, mem_allStations st, ?_⟩)
    rw [hroster, decide_eq_true hown, State.present, decide_eq_false hpres]
    rfl
  | duplicate => exact hdup
  | lineMute => exact hmute
  | _ => exact id

/-- A line interface whose attempt does not end LINE-MUTE persists as before. -/
theorem persisting_attempt {s : State} {f : TxFrame} {r : AttemptResult} (h : ¬ (r = .acked ∧ f.slot = .probe)) :
    ({ s with lif := (s.lif.attemptRule f r).countAttempt f r } : State).persisting = s.persisting :=
  persisting_lif (if_neg fun hc => h ⟨hc.1, hc.2.1⟩)

/-- An own frame whose end hands on a RESUME that is accepted is one that the statement names (R10, R142). -/
theorem acceptsResume_of_attempt {s : State} {cells : List Bool} {f : TxFrame} {r : AttemptResult}
    (honline : s.lif.onLine = some f) (hread : readBack 0 (frameCells s.cfg.own f) cells = some r)
    (h : s.attemptResumes f r cells) : s.acceptsResume (.attemptEnd cells) := by
  obtain ⟨hkind, hstop, hnone⟩ := h
  refine .inr ⟨cells, f, rfl, honline, ?_⟩
  have hres : ¬ (r = .acked ∧ f.slot = .probe) → s.resumable := fun hp =>
    ⟨hstop, not_persistsBy_of_persisting (persisting_attempt hp ▸ hnone)⟩
  rcases hkind with ⟨rfl, hr⟩ | ⟨rfl, hr⟩
  · by_cases hp : f.slot = .probe
    · exact .inl ⟨hread, hr, .inl hp⟩
    · exact .inl ⟨hread, hr, .inr (hres fun hc => hp hc.2)⟩
  · exact .inr ⟨hread, hr, hres fun hc => absurd hc.1 nofun⟩

/-- A RESUME that is evaluated with nothing persisting is accepted. -/
theorem resumable_of_persisting {s : State} (hstop : s.stop.state = .stopped) (hnone : s.persisting = none) : s.resumable :=
  ⟨hstop, not_persistsBy_of_persisting hnone⟩

/-- A received frame is whole and of a known kind; a cue frame that is not handed on is counted alone. -/
theorem cueStep_run {l : Scope} (hf : l.frames) {kind : CueKind} {w : Wire} {s : State}
    (h : kind = .resume → s.stop.state = .stopped → s.persisting = none → l.resumes) : Run l s (cueStep kind w s) := by
  unfold cueStep
  split
  · exact .refl
  · next hother =>
    have hreceived : Frame.judge (some s.cfg.own) { cls := 2, wire := w } = .received →
        cueKindOf (payloadByte w.payload 0) = some kind := fun hj => by
      by_contra hk
      exact hother (by simp only [State.otherCue, hj, decide_true, Bool.true_and, decide_eq_true hk])
    unfold frameStep
    split
    · next hop =>
      refine Relation.ReflTransGen.trans ?_ (endEvent_run _)
      unfold receiveFrame
      rw [if_pos hop]
      refine (run_line hf (s.lif.buffer_fits _ true)).trans (carryOut_run hf fun hv hr hstop hnone => ?_)
      obtain rfl := Option.some.inj ((hreceived hv).symm.trans hr.2)
      exact h rfl hstop ((persisting_lif rfl).symm.trans hnone)
    · next hop => exact receiveFrame_run hf fun hop' => absurd hop' hop

/-- Every command runs through small changes within its scope. -/
theorem exec_run (c : Instr) (s : State) : ∃ t, exec c s = .next t ∧ Run (Scope.of c s) s t := by
  cases c with
  | powerOnReset => exact ⟨_, rfl, powerOnHold_run trivial (Or.inl rfl) s⟩
  | pinReset n => exact ⟨_, rfl, pinHold_run trivial (Or.inr (Or.inl ⟨n, rfl⟩)) n s⟩
  | resetRelease => exact ⟨_, rfl, releaseReset_run rfl s⟩
  | configReadStart => exact ⟨_, rfl, readStart_run (Or.inr (Or.inr (Or.inl rfl))) s⟩
  | configReadDone image levels => exact ⟨_, rfl, readDone_run trivial (Or.inr (Or.inr (Or.inr ⟨image, levels, rfl⟩))) image levels s⟩
  | controlPeriodBoundary levels => exact ⟨_, rfl, boundary_run trivial levels s⟩
  | qualifiedEdge k => exact ⟨_, rfl, qualifiedEdgeStep_run k s⟩
  | estopEdge k level => exact ⟨_, rfl, eventIf_run fun _ _ => followEstop_run trivial k level s⟩
  | handwheelCount k a b =>
    refine ⟨_, rfl, ?_⟩
    unfold observeWheel
    split
    · exact .refl
    · exact run_wheels s _
  | demandPeriodBoundary => exact ⟨_, rfl, demandStep_run s⟩
  | statusPeriod => exact ⟨_, rfl, statusStep_run s⟩
  | axisPeriod => exact ⟨_, rfl, axisStep_run s⟩
  | frameStart idle => exact ⟨_, rfl, run_if (run_line trivial (Lif.startFrame_fits _ idle _))⟩
  | attemptEnd cells =>
    exact ⟨_, rfl, event_run fun _ => attemptWork_run trivial fun _ _ hf hr h => acceptsResume_of_attempt hf hr h⟩
  | probeDue => exact ⟨_, rfl, probeStep_run s⟩
  | statusEscalation => exact ⟨_, rfl, escalationStep_run s⟩
  | checkWindowEnd => exact ⟨_, rfl, checkWindowStep_run s⟩
  | stopFrame w => exact ⟨_, rfl, frameStep_run trivial fun _ hr => absurd hr.1 (by exact nofun)⟩
  | statusFrame urgent w =>
    exact ⟨_, rfl, frameStep_run trivial fun _ hr => absurd hr.1 (by cases urgent <;> exact nofun)⟩
  | demandFrame w => exact ⟨_, rfl, frameStep_run trivial fun _ hr => absurd hr.1 (by exact nofun)⟩
  | axisFrame w => exact ⟨_, rfl, frameStep_run trivial fun _ hr => absurd hr.1 (by exact nofun)⟩
  | unknownClass seven w =>
    exact ⟨_, rfl, frameStep_run trivial fun _ hr => absurd hr.1 (by cases seven <;> exact nofun)⟩
  | armRecord w => exact ⟨_, rfl, cueStep_run trivial nofun⟩
  | armPlay w => exact ⟨_, rfl, cueStep_run trivial nofun⟩
  | go w => exact ⟨_, rfl, cueStep_run trivial nofun⟩
  | halt w => exact ⟨_, rfl, cueStep_run trivial nofun⟩
  | disarm w => exact ⟨_, rfl, cueStep_run trivial nofun⟩
  | resume w =>
    exact ⟨_, rfl, cueStep_run trivial fun _ hstop hnone => .inl ⟨w, rfl, resumable_of_persisting hstop hnone⟩⟩
  | erase w => exact ⟨_, rfl, cueStep_run trivial nofun⟩
  | calibrate w => exact ⟨_, rfl, cueStep_run trivial nofun⟩
  | livenessTimeout st => exact ⟨_, rfl, livenessStep_run st s⟩
  | demandTimeout i => exact ⟨_, rfl, demandTimeoutStep_run i s⟩
  | reportStale st i => exact ⟨_, rfl, reportStaleStep_run st i s⟩
  | encoderRead i samples => exact ⟨_, rfl, encoderStep_run i samples s⟩
  | dwellEnd i => exact ⟨_, rfl, dwellStep_run i s⟩
  | windowEnd i => exact ⟨_, rfl, windowStep_run i s⟩
  | seekStall i => exact ⟨_, rfl, seekStallStep_run i s⟩
  | blocked i => exact ⟨_, rfl, blockedStep_run i s⟩
  | brakeTimer i => exact ⟨_, rfl, brakeStep_run i s⟩
  | driveOnBoundary => exact ⟨_, rfl, driveOnStep_run s⟩
  | releaseTimer i => exact ⟨_, rfl, releaseStep_run i s⟩
  | holdLimit => exact ⟨_, rfl, holdLimitStep_run s⟩
  | endReached => exact ⟨_, rfl, endReachedStep_run s⟩
  | sampleAppend => exact ⟨_, rfl, sampleAppendStep_run s⟩
  | readStation => exact ⟨_, rfl, portCommand_run (respond_run _ s)⟩
  | readPeer st => exact ⟨_, rfl, portCommand_run (readPeerWork_run st s)⟩
  | readAxis axis => exact ⟨_, rfl, portCommand_run (readAxisWork_run axis s)⟩
  | readInputs => exact ⟨_, rfl, portCommand_run (readInputsWork_run trivial s)⟩
  | readCounters => exact ⟨_, rfl, portCommand_run (readCountersWork_run trivial s)⟩
  | readTakedir => exact ⟨_, rfl, portCommand_run (respond_run _ s)⟩
  | takeRead n b => exact ⟨_, rfl, portCommand_run (takeReadWork_run n b s)⟩
  | takeCreate n m p len => exact ⟨_, rfl, portCommand_run (takeCreateWork_run n m p len s)⟩
  | takeWrite n b ws => exact ⟨_, rfl, portCommand_run (takeWriteWork_run n b ws s)⟩
  | takeClose n => exact ⟨_, rfl, portCommand_run (takeCloseWork_run n s)⟩
  | takeErase n => exact ⟨_, rfl, portCommand_run (takeEraseWork_run n s)⟩
  | lensTableWrite axis count pairs => exact ⟨_, rfl, portCommand_run (lensTableWriteWork_run axis count pairs s)⟩
  | lensTableRead axis => exact ⟨_, rfl, portCommand_run (lensTableReadWork_run axis s)⟩
  | sendCue k n m p => exact ⟨_, rfl, portCommand_run (sendCueWork_run k n m p s)⟩
  | readRequests => exact ⟨_, rfl, portCommand_run (respond_run _ s)⟩
  | clearRequests bits => exact ⟨_, rfl, portCommand_run (clearRequestsWork_run bits s)⟩
  | writeEnables mask => exact ⟨_, rfl, portCommand_run (writeEnablesWork_run mask s)⟩
  | readSnapshot => exact ⟨_, rfl, portCommand_run (readSnapshotWork_run s)⟩
  | badCommand c => exact ⟨_, rfl, portCommand_run (badCommandWork_run c s)⟩
  | shortTransfer b => exact ⟨_, rfl, portCommand_run (shortTransferWork_run b s)⟩

end Sys2Proof.Machine
end

section
/-! PROOFS. What a cause does to each part of the station (R132, R133, R135, R145). -/

namespace Sys2Proof.Machine

/-! ## Parts of a state with the same quiet part -/

section
variable {s t : State}

theorem cfg_of_quiet (h : t.quiet = s.quiet) : t.cfg = s.cfg := congrArg (·.cfg) h

theorem peer_of_quiet (h : t.quiet = s.quiet) {st : StationNo} (hst : st ≠ s.cfg.own) : t.peers[st] = s.peers[st] := by
  have hp := congrArg (fun u : State => u.peers[st]) h
  simp only [State.quiet, getElem_set_fin, cfg_of_quiet h, if_neg hst.symm] at hp
  exact hp

theorem ownPeer_of_quiet (h : t.quiet = s.quiet) : t.peers[s.cfg.own].quiet = s.peers[s.cfg.own].quiet := by
  have hp := congrArg (fun u : State => u.peers[s.cfg.own]) h
  simp only [State.quiet, getElem_set_fin, cfg_of_quiet h, if_true] at hp
  exact hp

theorem peerQuiet_of_quiet (h : t.quiet = s.quiet) (st : StationNo) : t.peers[st].quiet = s.peers[st].quiet := by
  by_cases hst : st = s.cfg.own
  · rw [hst]
    exact ownPeer_of_quiet h
  · rw [peer_of_quiet h hst]

theorem gaps_of_quiet (h : t.quiet = s.quiet) (st : StationNo) : t.peers[st].gaps = s.peers[st].gaps :=
  congrArg (·.gaps) (peerQuiet_of_quiet h st)

theorem counts_of_quiet (h : t.quiet = s.quiet) :
    (t.mismatched = s.mismatched ∧ t.foreign = s.foreign ∧ t.calIgnored = s.calIgnored)
      ∧ (t.tkq.armIgnored = s.tkq.armIgnored ∧ t.tkq.goDeclined = s.tkq.goDeclined)
      ∧ t.svp.shortTransfers = s.svp.shortTransfers ∧ t.svp.badCommands = s.svp.badCommands :=
  ⟨⟨congrArg (·.mismatched) h, congrArg (·.foreign) h, congrArg (·.calIgnored) h⟩,
    ⟨congrArg (·.tkq.armIgnored) h, congrArg (·.tkq.goDeclined) h⟩, congrArg (·.svp.shortTransfers) h,
    congrArg (·.svp.badCommands) h⟩

theorem presence_of_quiet (h : t.quiet = s.quiet) (st : StationNo) : t.peers[st].presence = s.peers[st].presence :=
  congrArg (·.presence) (peerQuiet_of_quiet h st)

end

/-! ## A stop that begins -/

/-- An axis once a stop of category c has begun: its release timer stopped, its seek cancelled, and the sequence of the
category begun. -/
def AxisState.stopBegun (c : Category) (cfg : AxisCfg) (a : AxisState) : AxisState :=
  (({ a with releaseTimer := none } : AxisState).withLens a.lens.cancel).sequence (some c) cfg

section
variable (loc : Bool) (o : StationNo) (k : Cause) (c : Category) (s : State)

theorem beginStop_axis (i : AxisNo) : (beginStop loc o k c s).axes[i] = s.axes[i].stopBegun c s.cfg.axes[i] := by
  simp only [beginStop, judgeStopped_axes, applySequence, getElem_ofFn_fin, abortByStop_axes, announce_axes, cancelSeeks,
    requestBurstIf_axes, abortByStop_stop, announce_stop, requestBurstIf_stop, abortByStop_cfg, announce_cfg, requestBurstIf_cfg]
  rfl

theorem escalateStop_axis (i : AxisNo) : (escalateStop loc o k c s).axes[i] = s.axes[i].sequence (some c) s.cfg.axes[i] := by
  simp only [escalateStop, announce_axes, applySequence, getElem_ofFn_fin, requestBurstIf_axes, requestBurstIf_stop,
    requestBurstIf_cfg]
  rfl

theorem beginStop_tks :
    (beginStop loc o k c s).tks = if s.tkq.recording then s.tks.endRecording s.tkq.number false else s.tks := rfl

theorem beginStop_tkq : (beginStop loc o k c s).tkq
    = if s.tkq.state = .idle then s.tkq
      else { s.tkq with state := .aborted, abortKind := some .byStop, appendDue := false } := rfl

theorem beginStop_driveOn : (beginStop loc o k c s).driveOn = .idle := by
  simp [beginStop]

theorem announce_lif_steady {l : Lif} {s : State} (h : s.lif = l) : l.Steady (announce s).lif := by
  subst h
  unfold announce
  split
  · exact s.lif.placeStatus_steady _
  · exact .refl _

theorem requestBurstIf_lif_steady {l : Lif} {s : State} (h : s.lif = l) : l.Steady (requestBurstIf loc k s).lif := by
  subst h
  unfold requestBurstIf requestBurst
  split
  · split
    · exact s.lif.placeStop_steady _ _ _
    · exact .refl _
  · exact .refl _

theorem judgeStopped_lif_steady : s.lif.Steady (judgeStopped s).lif := by
  unfold judgeStopped
  exact announce_lif_steady rfl

theorem abortByStop_lif_steady : s.lif.Steady (abortByStop s).lif := by
  unfold abortByStop setTake
  exact announce_lif_steady rfl

theorem beginStop_lif_steady : s.lif.Steady (beginStop loc o k c s).lif := by
  unfold beginStop
  refine Lif.Steady.trans ?_ (judgeStopped_lif_steady _)
  rw [applySequence_lif]
  refine Lif.Steady.trans ?_ (abortByStop_lif_steady _)
  refine Lif.Steady.trans ?_ (announce_lif_steady rfl)
  rw [cancelSeeks_lif]
  exact requestBurstIf_lif_steady loc k rfl

theorem escalateStop_lif_steady : s.lif.Steady (escalateStop loc o k c s).lif := by
  unfold escalateStop
  refine Lif.Steady.trans ?_ (announce_lif_steady rfl)
  exact requestBurstIf_lif_steady loc k rfl

/-- A cause begins a stop in RUN and RESUMING; later it escalates the stop where its category is higher, and otherwise joins
the set of causes. -/
theorem takeCause_cases :
    (¬ s.halted ∧ takeCause loc o k c s = beginStop loc o k c s)
      ∨ (s.halted ∧ categoryRank s.stop.category < categoryRank (some c) ∧ takeCause loc o k c s = escalateStop loc o k c s)
      ∨ (s.halted ∧ categoryRank (some c) ≤ categoryRank s.stop.category
        ∧ takeCause loc o k c s = { s with stop := s.stop.join loc k }) := by
  unfold takeCause State.halted
  cases hs : s.stop.state with
  | run => exact .inl ⟨fun h => h.1 rfl, rfl⟩
  | resuming => exact .inl ⟨fun h => h.2 rfl, rfl⟩
  | stopping | stopped =>
    by_cases hr : categoryRank s.stop.category < categoryRank (some c)
    · exact .inr (.inl ⟨⟨nofun, nofun⟩, hr, if_pos hr⟩)
    · exact .inr (.inr ⟨⟨nofun, nofun⟩, Nat.le_of_not_lt hr, if_neg hr⟩)

end

/-! ## An axis through a cause -/

theorem AxisState.stopBegun_steady (c : Category) (cfg : AxisCfg) (a : AxisState) : a.Steady (a.stopBegun c cfg) := by
  obtain ⟨⟨h1, h2, h3, h4⟩, h5, h6, h7, h8⟩ :=
    (({ a with releaseTimer := none } : AxisState).withLens a.lens.cancel).sequence_steady (some c) cfg
  exact ⟨⟨h1, h2, fun h => absurd rfl (h3 h), h4⟩, h5, h6, h7, h8⟩

theorem AxisState.cut_secured (a : AxisState) : a.cut.secured = true := rfl

theorem AxisState.Secures.secured {a b : AxisState} (h : a.Secures b) (hs : a.secured = true) : b.secured = true := by
  simp only [AxisState.secured, Bool.and_eq_true, Bool.not_eq_true', decide_eq_true_eq] at hs ⊢
  obtain ⟨⟨he, hr⟩, ht⟩ := hs
  refine ⟨⟨?_, ?_⟩, ?_⟩
  · exact Bool.eq_false_iff.mpr fun hb => Bool.false_ne_true (he.symm.trans (h.enable hb))
  · exact Bool.eq_false_iff.mpr fun hb => Bool.false_ne_true (hr.symm.trans (h.released hb))
  · exact of_not_not fun hb => h.timer hb ht

/-- Changes that switch no drive on and release no brake keep a secured station secured. -/
theorem secured_of_secures {s t : State} (h : ∀ i : AxisNo, s.axes[i].Secures t.axes[i]) (hs : s.secured = true) :
    t.secured = true := by
  unfold State.secured at hs ⊢
  rw [List.all_eq_true] at hs ⊢
  exact fun i hi => (h i).secured (hs i hi)

section
variable (loc : Bool) (o : StationNo) (k : Cause) (c : Category) (s : State)

theorem takeCause_steady (i : AxisNo) : s.axes[i].Steady (takeCause loc o k c s).axes[i] := by
  rcases takeCause_cases loc o k c s with ⟨-, h⟩ | ⟨-, -, h⟩ | ⟨-, -, h⟩ <;> rw [h]
  · rw [beginStop_axis]
    exact s.axes[i].stopBegun_steady _ _
  · rw [escalateStop_axis]
    exact s.axes[i].sequence_steady _ _
  · exact .refl _

theorem takeCause_lif_steady : s.lif.Steady (takeCause loc o k c s).lif := by
  rcases takeCause_cases loc o k c s with ⟨-, h⟩ | ⟨-, -, h⟩ | ⟨-, -, h⟩ <;> rw [h]
  · exact beginStop_lif_steady ..
  · exact escalateStop_lif_steady ..
  · exact .refl _

/-- The store after a cause: as it was, or with the recording in progress truncated (R155, R180). -/
theorem takeCause_tks : (takeCause loc o k c s).tks = s.tks
    ∨ (takeCause loc o k c s).tks = s.tks.endRecording s.tkq.number false := by
  rcases takeCause_cases loc o k c s with ⟨-, h⟩ | ⟨-, -, h⟩ | ⟨-, -, h⟩ <;> rw [h]
  · rw [beginStop_tks]
    split
    · exact .inr rfl
    · exact .inl rfl
  · exact .inl (escalateStop_tks ..)
  · exact .inl rfl

/-- The take record after a cause: as it was, or aborted (R180). -/
theorem takeCause_tkq : (takeCause loc o k c s).tkq = s.tkq
    ∨ (takeCause loc o k c s).tkq = { s.tkq with state := .aborted, abortKind := some .byStop, appendDue := false } := by
  rcases takeCause_cases loc o k c s with ⟨-, h⟩ | ⟨-, -, h⟩ | ⟨-, -, h⟩ <;> rw [h]
  · rw [beginStop_tkq]
    split
    · exact .inl rfl
    · exact .inr rfl
  · exact .inl (escalateStop_tkq ..)
  · exact .inl rfl

theorem takeCause_takeAgrees (h : s.takeAgrees) : (takeCause loc o k c s).takeAgrees := by
  rw [State.takeAgrees_iff] at h ⊢
  refine .inl ?_
  rcases takeCause_cases loc o k c s with ⟨-, ht⟩ | ⟨hs, -, ht⟩ | ⟨hs, -, ht⟩ <;> rw [ht]
  · rw [beginStop_tkq]
    split
    · next hidle => exact .inl hidle
    · exact .inr (.inl rfl)
  · rw [escalateStop_tkq]
    exact h.resolve_right hs.1
  · exact h.resolve_right hs.1

theorem takeCause_axes_secured (h : s.secured = true) : (takeCause loc o k c s).secured = true :=
  secured_of_secures (fun i => (takeCause_steady loc o k c s i).toSecures) h

/-- Under CUT every axis is secured once the cause has been taken (R139). -/
theorem takeCause_cut (h : s.drivesSafe) (hc : (takeCause loc o k c s).stop.category = some .cut) :
    (takeCause loc o k c s).secured = true := by
  rcases takeCause_cases loc o k c s with ⟨-, ht⟩ | ⟨-, -, ht⟩ | ⟨-, -, ht⟩
  · rw [ht, (beginStop_stop loc o k c s).1] at hc
    rw [ht, State.secured, List.all_eq_true]
    intro i _
    rw [beginStop_axis, Option.some.inj hc]
    exact AxisState.cut_secured _
  · rw [ht, (escalateStop_stop loc o k c s).1] at hc
    rw [ht, State.secured, List.all_eq_true]
    intro i _
    rw [escalateStop_axis, Option.some.inj hc]
    exact AxisState.cut_secured _
  · refine takeCause_axes_secured loc o k c s (h.2 ?_)
    rw [ht] at hc
    exact hc

theorem takeCause_drivesSafe (h : s.drivesSafe) : (takeCause loc o k c s).drivesSafe := by
  refine ⟨fun hl => takeCause_axes_secured loc o k c s (h.1 ?_), takeCause_cut loc o k c s h⟩
  rwa [cfl_of_quiet (takeCause_quiet ..)] at hl

theorem takeCause_category_ne_none : (takeCause loc o k c s).stop.category ≠ none := by
  intro h
  have hr := (takeCause_stops loc o k c s).2.1
  rw [h] at hr
  cases c <;> exact absurd hr (by decide)

theorem takeCause_stopAgrees (h : s.stopAgrees) : (takeCause loc o k c s).stopAgrees := by
  have hhalt := (takeCause_stops loc o k c s).1
  obtain ⟨-, hdrive, htimer⟩ := h
  refine ⟨⟨fun hn => absurd hn (takeCause_category_ne_none loc o k c s), fun hr => ?_⟩, fun hd => ?_, fun i hi => ?_⟩
  · exact absurd hr (not_or.mpr hhalt)
  all_goals
    exfalso
    rcases takeCause_cases loc o k c s with ⟨-, ht⟩ | ⟨hs, -, ht⟩ | ⟨hs, -, ht⟩
  · exact hd (by rw [ht, beginStop_driveOn])
  · exact hs.2 (hdrive (by rwa [ht, escalateStop_driveOn] at hd))
  · exact hs.2 (hdrive (by rwa [ht] at hd))
  · rw [ht, beginStop_axis] at hi
    exact (AxisState.sequence_steady (some c) _ _).timer hi rfl
  · exact hs.2 (htimer i ((takeCause_steady loc o k c s i).timer hi)).1
  · exact hs.2 (htimer i ((takeCause_steady loc o k c s i).timer hi)).1

theorem takeCause_blocksSound (h : s.blocksSound) : (takeCause loc o k c s).blocksSound := by
  constructor
  · rcases takeCause_tks loc o k c s with ht | ht <;> rw [ht]
    · exact h.1
    · exact Tks.endRecording_sound h.1 _ _
  · intro hm ha
    rcases takeCause_tkq loc o k c s with ht | ht
    · rw [ht] at hm ha ⊢
      exact h.2 hm ha
    · rw [ht] at ha
      exact absurd ha nofun

theorem takeCause_mem : (takeCause loc o k c s).tks.mem = s.tks.mem := by
  rcases takeCause_tks loc o k c s with ht | ht <;> rw [ht]
  exact Tks.endRecording_mem _ _ _

theorem takeCause_eraseIgnored : (takeCause loc o k c s).tks.eraseIgnored = s.tks.eraseIgnored :=
  congrArg (·.tks.eraseIgnored) (takeCause_quiet loc o k c s)

end

end Sys2Proof.Machine
end

section
/-! PROOFS. What every command keeps (R11 to R21, R66, R95, R123, R128, R131 to R145, R147 to R151, R167, R180). -/

namespace Sys2Proof.Machine

/-- A step of a station with commands waiting runs the first of them. -/
theorem step_run {s t : State} (h : step s = .next t) :
    t = s ∨ ∃ c rest, s.pending = c :: rest ∧ Run (Scope.of c { s with pending := rest }) { s with pending := rest } t := by
  unfold step at h
  split at h
  · obtain rfl := Host.Outcome.next.inj h
    exact .inl rfl
  · next c rest hp =>
    obtain ⟨u, hu, hrun⟩ := exec_run c { s with pending := rest }
    obtain rfl := Host.Outcome.next.inj (hu.symm.trans h)
    exact .inr ⟨c, rest, hp, hrun⟩

/-- What every small change keeps, a run keeps. -/
theorem Run.keeps {P : State → Prop} {l : Scope} (hpiece : ∀ s t : State, Piece l s t → P s → P t) {s t : State}
    (h : Run l s t) (hs : P s) : P t := by
  induction h with
  | refl => exact hs
  | tail _ hp ih => exact hpiece _ _ hp ih

/-- What every small change keeps, every step keeps. -/
theorem step_keeps {P : State → Prop} (hpending : ∀ (s : State) (cs : List Instr), P s → P { s with pending := cs })
    (hpiece : ∀ (l : Scope) (s t : State), Piece l s t → P s → P t) {s t : State} (hs : P s) (h : step s = .next t) : P t := by
  rcases step_run h with rfl | ⟨c, rest, -, hrun⟩
  · exact hs
  · exact hrun.keeps (hpiece _) (hpending s rest hs)

/-! ## The store (R147 to R151) -/

theorem emptyStore_wf : Memory.wf ({} : Tks).mem := ⟨List.Pairwise.nil, nofun⟩

/-- The store after a power-on start: every block free (R147). -/
theorem emptyStore_blocksSound : ({} : Tks).blocksSound := by
  have hempty : ∀ i : EntryNo, Tks.chain {} ({} : Tks).dir[i] = [] := by decide +kernel
  have hentry : ∀ i : EntryNo, ({} : Tks).dir[i] = {} := fun i => by simp
  refine ⟨?_, fun _ _ => rfl, fun i => ⟨fun _ => hentry i, fun h => absurd (congrArg DirEntry.state (hentry i)) h⟩⟩
  rw [List.flatMap_eq_nil_iff.mpr fun i _ => hempty i, List.append_nil]

theorem Piece.storeSound {l : Scope} {s t : State} (h : Piece l s t) (hs : s.storeSound) : t.storeSound := by
  cases h with
  | take q t takes => exact takes.mem hs
  | cause loc o k c =>
    unfold State.storeSound
    rw [takeCause_mem]
    exact hs
  | start scope =>
    unfold beginStart
    split
    · exact emptyStore_wf
    · rw [State.storeSound, ← Tks.pinStart_mem] at hs
      exact hs
  | _ => exact hs

theorem Piece.blocksSound {l : Scope} {s t : State} (h : Piece l s t) (hs : s.blocksSound) : t.blocksSound := by
  cases h with
  | take q t takes => exact takes.blocks hs
  | cause loc o k c => exact takeCause_blocksSound loc o k c s hs
  | start scope =>
    unfold beginStart
    split
    · exact ⟨emptyStore_blocksSound, nofun⟩
    · exact ⟨Tks.pinStart_sound hs.1, nofun⟩
  | _ => exact hs

/-! ## Takes (R167, R180) -/

theorem Piece.takeAgrees {l : Scope} {s t : State} (h : Piece l s t) (hs : s.takeAgrees) : t.takeAgrees := by
  have hrests : s.stop.state ≠ .run → s.tkq.state.rests := fun hr => ((State.takeAgrees_iff s).mp hs).resolve_right hr
  cases h with
  | take q t takes => exact takes.agrees hs
  | cause loc o k c => exact takeCause_takeAgrees loc o k c s hs
  | judged stopping => exact (State.takeAgrees_iff _).mpr (.inl (hrests (by rw [stopping]; exact nofun)))
  | release as st d releases =>
    refine (State.takeAgrees_iff _).mpr (((State.takeAgrees_iff s).mp hs).imp_right fun hr => ?_)
    exact releases.stop.elim (fun h => h.trans hr) And.right
  | accept scope resumes stopped => exact (State.takeAgrees_iff _).mpr (.inl (hrests (by rw [stopped]; exact nofun)))
  | start scope =>
    refine .inl ?_
    unfold beginStart
    split <;> rfl
  | _ => exact hs

/-! ## Drives, brakes and the stop record (R95, R131 to R145) -/

/-- The part of the station that stops concern is safe and agrees with itself. -/
def State.stopsSafe (s : State) : Prop := s.drivesSafe ∧ s.stopAgrees

/-- Changes of the axes that switch no drive on, release no brake and start no release timer keep stops safe. -/
theorem State.stopsSafe.secures {s t : State} (h : s.stopsSafe) (ha : ∀ i : AxisNo, s.axes[i].Secures t.axes[i])
    (hload : t.cfl.load = s.cfl.load) (hcfg : t.cfg = s.cfg) (hcat : t.stop.category = s.stop.category)
    (hstate : t.stop.state = s.stop.state) (hdrive : t.driveOn = s.driveOn) : t.stopsSafe := by
  obtain ⟨⟨hl, hc⟩, hcategory, hphase, htimer⟩ := h
  refine ⟨⟨fun hn => secured_of_secures ha (hl (hload ▸ hn)), fun hn => secured_of_secures ha (hc (hcat ▸ hn))⟩, ?_, ?_, ?_⟩
  · rw [hcat, hstate]
    exact hcategory
  · rw [hdrive, hstate]
    exact hphase
  · intro i hi
    obtain ⟨h1, h2, h3, h4⟩ := htimer i ((ha i).timer hi)
    rw [hstate, hdrive, State.used, hcfg]
    exact ⟨h1, h2, h3, Bool.eq_false_iff.mpr fun hb => Bool.false_ne_true (h4.symm.trans ((ha i).released hb))⟩

theorem secures_refl (a : AxisState) : a.Secures a := ⟨id, id, id, id⟩

theorem ofFn_secures {s : State} {f : AxisNo → AxisState} (h : ∀ i : AxisNo, s.axes[i].Secures (f i)) (j : AxisNo) :
    s.axes[j].Secures (Vector.ofFn f)[j] := by
  rw [getElem_ofFn_fin]
  exact h j

theorem reset_axis (i : AxisNo) : State.reset.axes[i] = {} := by decide +revert

theorem beginStart_axis (s : State) (i : AxisNo) : (beginStart s).axes[i] = {} := by
  unfold beginStart
  split <;> exact reset_axis i

theorem beginStart_stop (s : State) : (beginStart s).stop.state = .stopped ∧ (beginStart s).stop.category = some .brake
    ∧ (beginStart s).driveOn = .idle := by
  unfold beginStart
  split <;> exact ⟨rfl, rfl, rfl⟩

theorem beginStart_stopsSafe (s : State) : (beginStart s).stopsSafe := by
  obtain ⟨hstate, hcat, hdrive⟩ := beginStart_stop s
  have hsec : (beginStart s).secured = true := List.all_eq_true.mpr fun i _ => by
    rw [beginStart_axis]
    rfl
  refine ⟨⟨fun _ => hsec, fun _ => hsec⟩, ?_, fun hd => absurd hdrive hd, fun i hi => ?_⟩
  · rw [hstate, hcat]
    exact ⟨nofun, fun h => h.elim nofun nofun⟩
  · rw [beginStart_axis] at hi
    exact absurd rfl hi

/-- In an unloaded station no release timer runs. -/
theorem State.drivesSafe.timer {s : State} (h : s.drivesSafe) (hl : s.cfl.load ≠ .runReady) (i : AxisNo) :
    s.axes[i].releaseTimer = none := by
  have hall := h.1 hl
  rw [State.secured, List.all_eq_true] at hall
  have hi := hall i (mem_allAxes i)
  simp only [AxisState.secured, Bool.and_eq_true, decide_eq_true_eq] at hi
  exact hi.2

theorem Piece.stopsSafe {l : Scope} {s t : State} (h : Piece l s t) (hs : s.stopsSafe) : t.stopsSafe := by
  have hsame : ∀ i : AxisNo, s.axes[i].Secures s.axes[i] := fun i => secures_refl _
  cases h with
  | axes as steady => exact hs.secures (fun i => (steady i).toSecures) rfl rfl rfl rfl rfl
  | motion as scope secures speed => exact hs.secures secures rfl rfl rfl rfl rfl
  | owners loaded => exact hs.secures (ofFn_secures fun i => ⟨id, id, id, id⟩) rfl rfl rfl rfl rfl
  | cause loc o k c => exact ⟨takeCause_drivesSafe loc o k c s hs.1, takeCause_stopAgrees loc o k c s hs.2⟩
  | judged stopping =>
    refine ⟨hs.1, ⟨fun hn => ?_, nofun⟩, fun hd => ?_, fun i hi => ?_⟩
    · exact absurd (hs.2.1.mp hn) (by rw [stopping]; exact nofun)
    · exact absurd (hs.2.2.1 hd) (by rw [stopping]; exact nofun)
    · exact absurd (hs.2.2.2 i hi).1 (by rw [stopping]; exact nofun)
  | release as st d releases => exact releases.safe hs.1 hs.2
  | clock time d scope phase =>
    refine ⟨hs.1, hs.2.1, fun hd => hs.2.2.1 (mt phase.mpr hd), fun i hi => ?_⟩
    obtain ⟨h1, h2, h3, h4⟩ := hs.2.2.2 i hi
    exact ⟨h1, phase.mpr h2, h3, h4⟩
  | accept scope resumes stopped =>
    refine ⟨⟨hs.1.1, nofun⟩, ⟨fun _ => .inr rfl, fun _ => rfl⟩, fun _ => rfl, fun i hi => ?_⟩
    exact absurd (hs.2.2.2 i hi).1 (by rw [stopped]; exact nofun)
  | loads c scope load =>
    refine ⟨⟨fun hn => hs.1.1 ?_, hs.1.2⟩, hs.2⟩
    exact load.elim (fun h => h ▸ hn) And.left
  | operation img scope load =>
    have hsec : ∀ i : AxisNo, s.axes[i].Secures (beginOperation img s).axes[i] := ofFn_secures fun i => ⟨id, id, id, id⟩
    have hsecured := secured_of_secures hsec (hs.1.1 load)
    refine ⟨⟨fun _ => hsecured, fun _ => hsecured⟩, hs.2.1, hs.2.2.1, fun i hi => ?_⟩
    exact absurd (hs.1.timer load i) ((hsec i).timer hi)
  | start scope => exact beginStart_stopsSafe s
  | _ => exact hs.secures hsame rfl rfl rfl rfl rfl

/-- No category is held exactly in RUN and RESUMING. -/
def State.categoryAgrees (s : State) : Prop := s.stop.category = none ↔ (s.stop.state = .run ∨ s.stop.state = .resuming)

theorem Piece.categoryAgrees {l : Scope} {s t : State} (h : Piece l s t) (hs : s.categoryAgrees) : t.categoryAgrees := by
  cases h with
  | cause loc o k c =>
    exact ⟨fun hn => absurd hn (takeCause_category_ne_none loc o k c s),
      fun hr => absurd hr (not_or.mpr (takeCause_stops loc o k c s).1)⟩
  | judged stopping =>
    exact ⟨fun hn => absurd (hs.mp hn) (by rw [stopping]; exact (Or.elim · nofun nofun)), fun hr => hr.elim nofun nofun⟩
  | release as st d releases =>
    rcases releases.stop with rfl | ⟨hres, rfl⟩
    · exact hs
    · exact ⟨fun _ => .inl rfl, fun _ => hs.mpr (.inr hres)⟩
  | accept scope resumes stopped => exact ⟨fun _ => .inr rfl, fun _ => rfl⟩
  | start scope => exact (beginStart_stopsSafe s).2.1
  | _ => exact hs

/-- A small change beside an accepted RESUME and a start leaves the held category or raises it (R133, R141). -/
theorem Piece.rank {l : Scope} {s t : State} (h : Piece l s t) (hr : ¬ l.resumes) (hs : ¬ l.starts)
    (hagrees : s.categoryAgrees) : categoryRank s.stop.category ≤ categoryRank t.stop.category := by
  cases h with
  | cause loc o k c =>
    by_cases hh : s.halted
    · exact (takeCause_grows loc o k c hh).rank
    · have hnone : s.stop.category = none := by
        refine hagrees.mpr ?_
        by_contra hn
        exact hh (not_or.mp hn)
      rw [hnone]
      exact Nat.zero_le _
  | accept scope resumes stopped => exact absurd resumes hr
  | start scope => exact absurd scope hs
  | _ => exact le_rfl

/-- A run that accepts no RESUME and begins no start leaves the held category or raises it. -/
theorem Run.rank {l : Scope} {s t : State} (h : Run l s t) (hr : ¬ l.resumes) (hs : ¬ l.starts) (hagrees : s.categoryAgrees) :
    categoryRank s.stop.category ≤ categoryRank t.stop.category := by
  induction h with
  | refl => exact le_rfl
  | tail hrun hp ih => exact ih.trans (hp.rank hr hs (Run.keeps (fun _ _ h => h.categoryAgrees) hrun hagrees))

/-! ## Velocities and caps (R66, R123, R128) -/

theorem capOf_le_vmax (s : State) (warn : Bool) (owner : Owner) (i : AxisNo) : s.capOf warn owner i ≤ s.cfg.axes[i].vmax := by
  unfold State.capOf
  dsimp only
  split_ifs <;> omega

theorem State.speedSafe.steady {s : State} (h : s.speedSafe) {as : Vector AxisState 4}
    (ha : ∀ i : AxisNo, as[i].mpr.v = s.axes[i].mpr.v ∧ as[i].cap = s.axes[i].cap) : ({ s with axes := as } : State).speedSafe := by
  intro i
  obtain ⟨hv, hc⟩ := ha i
  rw [hv, hc]
  exact h i

theorem Piece.speedSafe {l : Scope} {s t : State} (h : Piece l s t) (hs : s.speedSafe) : t.speedSafe := by
  cases h with
  | axes as steady => exact hs.steady fun i => ⟨(steady i).velocity, (steady i).cap⟩
  | motion as scope secures speed => exact speed hs
  | owners loaded =>
    intro i
    have haxis : (formOwners s).axes[i].mpr = s.axes[i].mpr
        ∧ (formOwners s).axes[i].cap = s.capOf s.crewWarn (s.ownerOf i) i := by
      unfold formOwners State.mapAxes
      rw [getElem_ofFn_fin]
      exact ⟨rfl, rfl⟩
    rw [haxis.1, haxis.2]
    exact ⟨⟨(hs i).1.1, capOf_le_vmax ..⟩, fun hl => absurd loaded hl⟩
  | cause loc o k c =>
    intro i
    have hsteady := takeCause_steady loc o k c s i
    rw [hsteady.velocity, hsteady.cap, cfl_of_quiet (takeCause_quiet ..), show (takeCause loc o k c s).cfg = s.cfg from
      congrArg (·.cfg) (takeCause_quiet ..)]
    exact hs i
  | release as st d releases =>
    exact hs.steady fun i => ⟨congrArg Mpr.v (releases.steady i).1, (releases.steady i).2.1⟩
  | loads c scope load =>
    exact fun i => ⟨(hs i).1, fun hn => (hs i).2 (load.elim (fun h => h ▸ hn) And.left)⟩
  | operation img scope load =>
    intro i
    have haxis : (beginOperation img s).axes[i] = s.axes[i].atLoad (imageSettings img).axes[i] := getElem_ofFn_fin _ i
    obtain ⟨hv, hc⟩ := (hs i).2 load
    rw [haxis]
    have hv' : (s.axes[i].atLoad (imageSettings img).axes[i]).mpr.v = 0 := hv
    have hc' : (s.axes[i].atLoad (imageSettings img).axes[i]).cap = 0 := hc
    rw [hv', hc']
    exact ⟨⟨Nat.zero_le _, Nat.zero_le _⟩, fun _ => ⟨rfl, rfl⟩⟩
  | start scope =>
    intro i
    rw [beginStart_axis]
    exact ⟨⟨Nat.zero_le _, Nat.zero_le _⟩, fun _ => ⟨rfl, rfl⟩⟩
  | _ => exact hs

/-! ## The transmit queue and the counters (R11 to R21) -/

theorem reset_bounded : State.reset.lif.bounded := ⟨nofun, Nat.zero_le _, nofun, Nat.zero_le _⟩

theorem beginStart_lif (s : State) : (beginStart s).lif = {} := by
  unfold beginStart
  split <;> rfl

theorem Piece.bounded {l : Scope} {s t : State} (h : Piece l s t) (hs : s.lif.bounded) : t.lif.bounded := by
  cases h with
  | queue q steady => exact steady.bounded hs
  | line q scope fits => exact fits.bounded hs
  | cause loc o k c => exact (takeCause_lif_steady loc o k c s).bounded hs
  | start scope => 
    rw [beginStart_lif]
    exact reset_bounded
  | _ => exact hs

/-- The counters, each group with what is asked of it. -/
theorem countersFit_iff (s : State) : s.countersFit ↔
    (∀ n ∈ s.lif.counters, n ≤ 65535) ∧ (∀ i : AxisNo, s.axes[i].link.frameErrors ≤ 65535)
      ∧ (s.mismatched ≤ 65535 ∧ s.foreign ≤ 65535 ∧ s.calIgnored ≤ 65535)
      ∧ s.tks.eraseIgnored ≤ 65535 ∧ (s.tkq.armIgnored ≤ 65535 ∧ s.tkq.goDeclined ≤ 65535)
      ∧ (s.svp.shortTransfers ≤ 65535 ∧ s.svp.badCommands ≤ 65535)
      ∧ ∀ (st : StationNo) (i : Fin 4), s.peers[st].gaps[i] ≤ 65535 := by
  have haxes : (∀ n ∈ (counterReport s).frameErrors, n ≤ 65535) ↔ ∀ i : AxisNo, s.axes[i].link.frameErrors ≤ 65535 := by
    simp only [counterReport, List.forall_mem_map]
    exact ⟨fun h i => h i (mem_allAxes i), fun h i _ => h i⟩
  unfold State.countersFit
  rw [haxes]
  simp only [counterReport, Lif.counters, List.forall_mem_cons, List.not_mem_nil, false_implies, implies_true, and_true]
  tauto

theorem beginStart_countersFit (s : State) : (beginStart s).countersFit := by
  rw [countersFit_iff]
  refine ⟨?_, fun i => ?_, ?_⟩
  · rw [beginStart_lif]
    decide
  · rw [beginStart_axis]
    exact Nat.zero_le _
  · unfold beginStart
    have hpeers : ∀ (st : StationNo) (i : Fin 4), State.reset.peers[st].gaps[i] ≤ 65535 := by decide
    split
    · exact ⟨⟨Nat.zero_le _, Nat.zero_le _, Nat.zero_le _⟩, Nat.zero_le _, ⟨Nat.zero_le _, Nat.zero_le _⟩,
        ⟨Nat.zero_le _, Nat.zero_le _⟩, hpeers⟩
    · exact ⟨⟨Nat.zero_le _, Nat.zero_le _, Nat.zero_le _⟩, Nat.zero_le _, ⟨Nat.zero_le _, Nat.zero_le _⟩,
        ⟨Nat.zero_le _, Nat.zero_le _⟩, hpeers⟩

theorem Piece.countersFit {l : Scope} {s t : State} (h : Piece l s t) (hs : s.countersFit) : t.countersFit := by
  rw [countersFit_iff] at hs ⊢
  obtain ⟨hline, hframe, hsel, herase, htake, hport, hgaps⟩ := hs
  cases h with
  | svp p short bad => exact ⟨hline, hframe, hsel, herase, htake, ⟨short hport.1, bad hport.2⟩, hgaps⟩
  | queue q steady => exact ⟨steady.counters hline, hframe, hsel, herase, htake, hport, hgaps⟩
  | line q scope fits => exact ⟨fits.counters hline, hframe, hsel, herase, htake, hport, hgaps⟩
  | peers ps gaps => exact ⟨hline, hframe, hsel, herase, htake, hport, fun st i => gaps st i (hgaps st i)⟩
  | axes as steady => exact ⟨hline, fun i => (steady i).frameErrors (hframe i), hsel, herase, htake, hport, hgaps⟩
  | motion as scope secures speed =>
    exact ⟨hline, fun i => (secures i).frameErrors (hframe i), hsel, herase, htake, hport, hgaps⟩
  | owners loaded =>
    refine ⟨hline, fun i => ?_, hsel, herase, htake, hport, hgaps⟩
    unfold formOwners State.mapAxes
    rw [getElem_ofFn_fin]
    exact hframe i
  | cause loc o k c =>
    have hq := takeCause_quiet loc o k c s
    obtain ⟨⟨hm, hf, hc⟩, ⟨ha, hg⟩, hshort, hbad⟩ := counts_of_quiet hq
    rw [hm, hf, hc, takeCause_eraseIgnored, ha, hg, hshort, hbad]
    refine ⟨(takeCause_lif_steady loc o k c s).counters hline, fun i => (takeCause_steady loc o k c s i).frameErrors (hframe i),
      hsel, herase, htake, hport, fun st i => ?_⟩
    rw [gaps_of_quiet hq]
    exact hgaps st i
  | counts m f c mismatched foreign calIgnored =>
    obtain ⟨hm, hf, hc⟩ := hsel
    exact ⟨hline, hframe, ⟨mismatched hm, foreign hf, calIgnored hc⟩, herase, htake, hport, hgaps⟩
  | take q t takes =>
    exact ⟨hline, hframe, hsel, takes.eraseIgnored herase, ⟨takes.armIgnored htake.1, takes.goDeclined htake.2⟩, hport, hgaps⟩
  | release as st d releases =>
    refine ⟨hline, fun i => ?_, hsel, herase, htake, hport, hgaps⟩
    rw [(releases.steady i).2.2.2]
    exact hframe i
  | operation img scope load =>
    refine ⟨hline, fun i => ?_, hsel, herase, htake, hport, fun st i => ?_⟩
    · have haxis : (beginOperation img s).axes[i] = s.axes[i].atLoad (imageSettings img).axes[i] := getElem_ofFn_fin _ i
      rw [haxis]
      exact hframe i
    · have hpeer : (beginOperation img s).peers[st].gaps = s.peers[st].gaps := by
        unfold beginOperation
        rw [getElem_set_fin]
        split
        · next h => exact h ▸ rfl
        · rfl
      rw [hpeer]
      exact hgaps st i
  | start scope => exact (countersFit_iff _).mp (beginStart_countersFit s)
  | _ => exact ⟨hline, hframe, hsel, herase, htake, hport, hgaps⟩

end Sys2Proof.Machine
end

section
/-! PROOFS. The statements that the walk over the small changes settles: O2, O4, O8 to O11, and the first and last states. -/

open Sys2Proof Sys2Proof.Machine

/-- Settles O2: every command runs, and no run touches the queue of waiting commands. -/
theorem everyCommandCompletes : Obligations.EveryCommandCompletes := fun c s => by
  obtain ⟨t, ht, hrun⟩ := exec_run c s
  exact ⟨t, ht, hrun.pending⟩

/-- Settles O4: every small change keeps the blocks and the bytes. -/
theorem storeFormIsKept : Obligations.StoreFormIsKept :=
  ⟨fun _ _ hs h => step_keeps (fun _ _ h => h) (fun _ _ _ hp => hp.storeSound) hs h,
    fun _ _ hs h => step_keeps (fun _ _ h => h) (fun _ _ _ hp => hp.blocksSound) hs h⟩

/-- Settles O8: every small change keeps drives and stop record safe, and none but an accepted RESUME and a start lowers
the held category. -/
theorem stopsStaySafe : Obligations.StopsStaySafe := by
  constructor
  · exact fun s t hd ha h => step_keeps (P := State.stopsSafe) (fun _ _ h => h) (fun _ _ _ hp => hp.stopsSafe) ⟨hd, ha⟩ h
  · intro c rest s t hpending hagrees hstart hresume h
    rcases step_run h with rfl | ⟨c', rest', hp, hrun⟩
    · exact le_rfl
    · obtain ⟨rfl, rfl⟩ := List.cons.inj (hpending.symm.trans hp)
      exact hrun.rank hresume hstart hagrees.1

/-- Settles O9: a stop that begins ends every take, and none is armed outside RUN. -/
theorem takesEndWithTheStopState : Obligations.TakesEndWithTheStopState := fun _ _ hs h =>
  step_keeps (fun _ _ h => h) (fun _ _ _ hp => hp.takeAgrees) hs h

/-- Settles O10: a computation goes no faster than the cap, and a cap is at most vmax. -/
theorem speedStaysWithinVmax : Obligations.SpeedStaysWithinVmax := fun _ _ hs h =>
  step_keeps (fun _ _ h => h) (fun _ _ _ hp => hp.speedSafe) hs h

/-- Settles O11: every small change keeps the transmit queue and the counters in their ranges. -/
theorem queueAndCountersStayInRange : Obligations.QueueAndCountersStayInRange :=
  ⟨fun _ _ hs h => step_keeps (P := fun s => s.lif.bounded) (fun _ _ h => h) (fun _ _ _ hp => hp.bounded) hs h,
    fun _ _ hs h => step_keeps (fun _ _ h => h) (fun _ _ _ hp => hp.countersFit) hs h⟩

end

section
/-! PROOFS. What the line word, the owners, the caps and the outputs are formed from; the end of an event forms them, and
what leaves their sources alone leaves them formed (R46, R47, R51, R122 to R124). -/

namespace Sys2Proof.Machine

/-! ## The sources -/

/-- What the line word, the owners, the caps, the crew warning and the outputs are formed from, beside the line word. -/
structure Feeds where
  hold : ResetSources
  load : LoadState
  cfg : Settings
  qualified : LineNo → Option Bool
  stop : StopState
  mode : Option TakeMode
  axes : List AxisNo
  take : TakeState
  abort : Option AbortKind
  atTarget : AxisNo → Bool
  seeking : AxisNo → Bool
  presence : StationNo → Presence
  heard : StationNo → Word16

/-- The sources of a state; of the line words that entries hold, those of the peers. -/
def State.feeds (s : State) : Feeds where
  hold := s.hold
  load := s.cfl.load
  cfg := s.cfg
  qualified k := s.lines[k].qualified
  stop := s.stop.state
  mode := s.tkq.mode
  axes := s.tkq.axes
  take := s.tkq.state
  abort := s.tkq.abortKind
  atTarget i := s.axes[i].mpr.atTarget
  seeking i := s.axes[i].seeking
  presence st := s.peers[st].presence
  heard st := if st = s.cfg.own then 0 else s.peers[st].lineWord

/-- What an event forms again at its end, beside the attention output. -/
structure Formed where
  word : Word16
  crewWarn : Bool
  owner : AxisNo → Owner
  cap : AxisNo → Nat
  outputs : Vector Bool 8

def State.formed (s : State) : Formed where
  word := s.word
  crewWarn := s.crewWarn
  owner i := s.axes[i].dsl.owner
  cap i := s.axes[i].cap
  outputs := s.outputs

section
variable {s t : State}

theorem Feeds.cfg_eq (h : t.feeds = s.feeds) : t.cfg = s.cfg := congrArg Feeds.cfg h

theorem Feeds.stop_eq (h : t.feeds = s.feeds) : t.stop.state = s.stop.state := congrArg Feeds.stop h

theorem Feeds.lineActive_eq (h : t.feeds = s.feeds) (k : LineNo) : t.lineActive k = s.lineActive k := by
  have hq : t.lines[k].qualified = s.lines[k].qualified := congrFun (congrArg Feeds.qualified h) k
  rw [State.lineActive, State.lineActive, hq, Feeds.cfg_eq h]

theorem Feeds.present_eq (h : t.feeds = s.feeds) (st : StationNo) : t.present st = s.present st := by
  have hp : t.peers[st].presence = s.peers[st].presence := congrFun (congrArg Feeds.presence h) st
  rw [State.present, State.present, hp]

theorem Feeds.operating_eq (h : t.feeds = s.feeds) : t.operating = s.operating := by
  have hh : t.hold = s.hold := congrArg Feeds.hold h
  have hl : t.cfl.load = s.cfl.load := congrArg Feeds.load h
  rw [State.operating, State.operating, State.inReset, State.inReset, hh, hl]

theorem Feeds.inReset_eq (h : t.feeds = s.feeds) : t.inReset = s.inReset := by
  have hh : t.hold = s.hold := congrArg Feeds.hold h
  rw [State.inReset, State.inReset, hh]

theorem Feeds.sourceValue_eq (h : t.feeds = s.feeds) (x : InternalSource) : t.sourceValue x = s.sourceValue x := by
  have ht : t.tkq.state = s.tkq.state := congrArg Feeds.take h
  have hat : ∀ i : AxisNo, t.axes[i].mpr.atTarget = s.axes[i].mpr.atTarget := congrFun (congrArg Feeds.atTarget h)
  cases x <;> simp only [State.sourceValue, State.used, Feeds.stop_eq h, ht, hat, Feeds.cfg_eq h]

theorem Feeds.formWord_eq (h : t.feeds = s.feeds) : t.formWord = s.formWord := by
  simp only [State.formWord, State.slotValue, Feeds.sourceValue_eq h, Feeds.cfg_eq h, Feeds.lineActive_eq h]

theorem Feeds.claims_eq (h : t.feeds = s.feeds) (i : AxisNo) : t.claims i = s.claims i := by
  have hm : t.tkq.mode = s.tkq.mode := congrArg Feeds.mode h
  have hx : t.tkq.axes = s.tkq.axes := congrArg Feeds.axes h
  have ht : t.tkq.state = s.tkq.state := congrArg Feeds.take h
  have hk : t.tkq.abortKind = s.tkq.abortKind := congrArg Feeds.abort h
  simp only [State.claims, hm, hx, ht, hk, Feeds.cfg_eq h]

theorem Feeds.ownerOf_eq (h : t.feeds = s.feeds) (i : AxisNo) : t.ownerOf i = s.ownerOf i := by
  have hs : t.axes[i].seeking = s.axes[i].seeking := congrFun (congrArg Feeds.seeking h) i
  unfold State.ownerOf State.used
  rw [Feeds.stop_eq h, Feeds.cfg_eq h, hs, Feeds.claims_eq h]

theorem Feeds.capOf_eq (h : t.feeds = s.feeds) (warn : Bool) (owner : Owner) (i : AxisNo) :
    t.capOf warn owner i = s.capOf warn owner i := by
  have ht : t.tkq.state = s.tkq.state := congrArg Feeds.take h
  simp only [State.capOf, Feeds.claims_eq h, ht, Feeds.cfg_eq h]

theorem Feeds.readSlot_eq (h : t.feeds = s.feeds) (hw : t.word = s.word) (b : Bool) (line : StationNo × SlotNo) :
    t.readSlot b line = s.readSlot b line := by
  have hheard : (if line.1 = t.cfg.own then 0 else t.peers[line.1].lineWord)
      = if line.1 = s.cfg.own then 0 else s.peers[line.1].lineWord := congrFun (congrArg Feeds.heard h) line.1
  rw [Feeds.cfg_eq h] at hheard
  simp only [State.readSlot, Feeds.cfg_eq h, hw, Feeds.present_eq h]
  split
  · rfl
  · next hne =>
    rw [if_neg hne, if_neg hne] at hheard
    rw [hheard]

theorem Feeds.crewWarning_eq (h : t.feeds = s.feeds) (hw : t.word = s.word) : t.crewWarning = s.crewWarning := by
  have hq : ∀ k : LineNo, t.lines[k].qualified = s.lines[k].qualified := congrFun (congrArg Feeds.qualified h)
  simp only [State.crewWarning, State.lineActiveOrUnqualified, Feeds.lineActive_eq h, hq, Feeds.cfg_eq h,
    Feeds.readSlot_eq h hw]

/-- The value of an output, where a HOLD fallback finds the same present value. -/
theorem Feeds.outputNow_eq (h : t.feeds = s.feeds) (hw : t.word = s.word) {k : OutNo}
    (hk : t.outputs[k] = s.outputs[k] ∨ t.outputs[k] = s.outputNow k) : t.outputNow k = s.outputNow k := by
  have hnow : s.outputNow k = s.outputNow k := rfl
  conv_rhs at hnow => unfold State.outputNow
  unfold State.outputNow
  rw [hnow] at hk
  simp only [Feeds.cfg_eq h, Feeds.sourceValue_eq h, Feeds.present_eq h, Feeds.readSlot_eq h hw]
  revert hk
  cases s.cfg.outs[k].mapping with
  | level b => exact fun _ => rfl
  | source x => exact fun _ => rfl
  | slot st slot =>
    dsimp only
    split
    · exact fun _ => rfl
    · cases s.cfg.outs[k].fallback with
      | low => exact fun _ => rfl
      | high => exact fun _ => rfl
      | hold => exact fun hk => hk.elim id id

/-! ## What leaves the sources alone -/

theorem settled_of_same (h : t.feeds = s.feeds) (hf : t.formed = s.formed) (hs : s.settled) : t.settled := fun hop =>
  (congrArg Formed.word hf).trans ((hs (Feeds.operating_eq h ▸ hop)).trans (Feeds.formWord_eq h).symm)

theorem owned_of_same (h : t.feeds = s.feeds) (hf : t.formed = s.formed) (hs : s.owned) : t.owned := fun hop i =>
  (congrFun (congrArg Formed.owner hf) i).trans ((hs (Feeds.operating_eq h ▸ hop) i).trans (Feeds.ownerOf_eq h i).symm)

theorem capped_of_same (h : t.feeds = s.feeds) (hf : t.formed = s.formed) (hs : s.capped) : t.capped := by
  intro hop
  obtain ⟨hwarn, hcap⟩ := hs (Feeds.operating_eq h ▸ hop)
  have hcrew : t.crewWarn = s.crewWarn := congrArg Formed.crewWarn hf
  refine ⟨hcrew.trans (hwarn.trans (Feeds.crewWarning_eq h (congrArg Formed.word hf)).symm), fun i => ?_⟩
  rw [hcrew, Feeds.ownerOf_eq h, Feeds.capOf_eq h]
  exact (congrFun (congrArg Formed.cap hf) i).trans (hcap i)

theorem shown_of_same (h : t.feeds = s.feeds) (hf : t.formed = s.formed) (hs : s.shown) : t.shown := by
  intro hop k
  have hout : t.outputs = s.outputs := congrArg Formed.outputs hf
  rw [hout, Feeds.outputNow_eq h (congrArg Formed.word hf) (.inl (by rw [hout]))]
  exact hs (Feeds.operating_eq h ▸ hop) k

/-- A change beside the sources, the formed values and the attention output leaves a calm station calm. -/
theorem calm_of_same (h : t.feeds = s.feeds) (hf : t.formed = s.formed) (hc : t.svp.calling = s.svp.calling)
    (ha : t.svp.attention = s.svp.attention) (hs : s.calm) : t.calm := by
  obtain ⟨hop, hset, hown, hcap, hshow, hatt⟩ := hs
  refine ⟨(Feeds.operating_eq h).trans hop, settled_of_same h hf hset, owned_of_same h hf hown, capped_of_same h hf hcap,
    shown_of_same h hf hshow, ?_⟩
  unfold State.attends at hatt ⊢
  rw [ha, hatt, hc, Feeds.inReset_eq h]

end

/-! ## The end of an event forms them -/

section
variable {s t : State}

theorem axisQuiet_of_quiet (h : t.quiet = s.quiet) (i : AxisNo) : t.axes[i].quiet = s.axes[i].quiet := by
  have ha := congrArg (fun u : State => u.axes[i]) h
  simp only [State.quiet, getElem_ofFn_fin] at ha
  exact ha

/-- Reactions change the line word's sources in the stop state and the take state alone. -/
theorem formWord_of_quiet (h : t.quiet = s.quiet) (hrun : t.stop.state = .run ↔ s.stop.state = .run)
    (htake : t.tkq.state = s.tkq.state) : t.formWord = s.formWord := by
  have hlines : t.lines = s.lines := congrArg (·.lines) h
  have hat : ∀ i : AxisNo, t.axes[i].mpr.atTarget = s.axes[i].mpr.atTarget := fun i =>
    congrArg (·.mpr.atTarget) (axisQuiet_of_quiet h i)
  have hsource : ∀ x, t.sourceValue x = s.sourceValue x := by
    intro x
    cases x <;> simp only [State.sourceValue, State.used, hrun, htake, hat, cfg_of_quiet h]
  simp only [State.formWord, State.slotValue, hsource, State.lineActive, hlines, cfg_of_quiet h]

/-- A cause taken by a stopped station leaves the take as it is (R180). -/
theorem takeCause_tkq_halted (loc : Bool) (o : StationNo) (k : Cause) (c : Category) (h : s.halted) :
    (takeCause loc o k c s).tkq = s.tkq := by
  rcases takeCause_cases loc o k c s with ⟨hn, -⟩ | ⟨-, -, ht⟩ | ⟨-, -, ht⟩
  · exact absurd h hn
  · rw [ht, escalateStop_tkq]
  · rw [ht]

theorem giveCauseIf_tkq_halted (b : Bool) (k : Cause) (c : Category) (h : s.halted) : (giveCauseIf b k c s).tkq = s.tkq := by
  unfold giveCauseIf
  split
  · exact takeCause_tkq_halted _ _ _ _ h
  · rfl

theorem foldl_giveCauseIf_tkq_halted {α : Type} (b : α → Bool) (k : Cause) (c : Category) (xs : List α) (h : s.halted) :
    (xs.foldl (fun t x => giveCauseIf (b x) k c t) s).tkq = s.tkq
      ∧ (xs.foldl (fun t x => giveCauseIf (b x) k c t) s).halted := by
  induction xs generalizing s with
  | nil => exact ⟨rfl, h⟩
  | cons x xs ih =>
    obtain ⟨htkq, hhalt⟩ := ih (giveCauseIf_grows (b x) k c h).halted
    exact ⟨htkq.trans (giveCauseIf_tkq_halted (b x) k c h), hhalt⟩

/-- Causes given where conditions hold leave the state as it is, or stopped. -/
theorem foldl_giveCauseIf_cases {α : Type} (b : α → Bool) (k : Cause) (c : Category) (xs : List α) (s : State) :
    xs.foldl (fun t x => giveCauseIf (b x) k c t) s = s ∨ (xs.foldl (fun t x => giveCauseIf (b x) k c t) s).halted := by
  induction xs generalizing s with
  | nil => exact .inl rfl
  | cons x xs ih =>
    cases hb : b x with
    | false =>
      have hsame : giveCauseIf (b x) k c s = s := if_neg (by rw [hb]; exact Bool.false_ne_true)
      rw [List.foldl_cons, hsame]
      exact ih s
    | true =>
      have hhalt : (giveCauseIf (b x) k c s).halted := by
        rw [hb]
        exact (takeCause_stops true s.cfg.own k c s).1
      exact .inr (foldl_giveCauseIf_tkq_halted b k c xs hhalt).2

theorem setZones_cases (new : Vector ZoneState 8) (s : State) :
    setZones new s = { s with zones := new } ∨ (setZones new s).halted :=
  foldl_giveCauseIf_cases (fun z : ZoneNo => new[z].breached && !s.zones[z].breached) .zoneBreach .brake allEight _

theorem setZones_halted (new : Vector ZoneState 8) (h : s.halted) :
    (setZones new s).tkq = s.tkq ∧ (setZones new s).halted :=
  foldl_giveCauseIf_tkq_halted (s := { s with zones := new })
    (fun z : ZoneNo => new[z].breached && !s.zones[z].breached) .zoneBreach .brake allEight h

/-- A cause leaves the line word, the outputs, the zones and the crew-warn state as they are. -/
theorem takeCause_board (loc : Bool) (o : StationNo) (k : Cause) (c : Category) (s : State) :
    (takeCause loc o k c s).word = s.word ∧ (takeCause loc o k c s).outputs = s.outputs
      ∧ (takeCause loc o k c s).zones = s.zones ∧ (takeCause loc o k c s).crewWarn = s.crewWarn := by
  rcases takeCause_cases loc o k c s with ⟨-, ht⟩ | ⟨-, -, ht⟩ | ⟨-, -, ht⟩ <;> rw [ht]
  · exact ⟨beginStop_word .., beginStop_outputs .., beginStop_zones .., beginStop_crewWarn ..⟩
  · exact ⟨escalateStop_word .., escalateStop_outputs .., escalateStop_zones .., escalateStop_crewWarn ..⟩
  · exact ⟨rfl, rfl, rfl, rfl⟩

theorem foldl_giveCauseIf_board {α : Type} (b : α → Bool) (k : Cause) (c : Category) (xs : List α) (s : State) :
    (xs.foldl (fun t x => giveCauseIf (b x) k c t) s).word = s.word
      ∧ (xs.foldl (fun t x => giveCauseIf (b x) k c t) s).outputs = s.outputs
      ∧ (xs.foldl (fun t x => giveCauseIf (b x) k c t) s).zones = s.zones
      ∧ (xs.foldl (fun t x => giveCauseIf (b x) k c t) s).crewWarn = s.crewWarn := by
  induction xs generalizing s with
  | nil => exact ⟨rfl, rfl, rfl, rfl⟩
  | cons x xs ih =>
    obtain ⟨hw, ho, hz, hc⟩ := ih (giveCauseIf (b x) k c s)
    rw [List.foldl_cons, hw, ho, hz, hc]
    unfold giveCauseIf
    split
    · exact takeCause_board true s.cfg.own k c s
    · exact ⟨rfl, rfl, rfl, rfl⟩

theorem setZones_board (new : Vector ZoneState 8) (s : State) :
    (setZones new s).word = s.word ∧ (setZones new s).outputs = s.outputs ∧ (setZones new s).zones = new
      ∧ (setZones new s).crewWarn = s.crewWarn :=
  foldl_giveCauseIf_board (fun z : ZoneNo => new[z].breached && !s.zones[z].breached) .zoneBreach .brake allEight
    { s with zones := new }

/-- To follow the line word is to re-form the zones of a state with the new word, in which nothing has stopped. -/
theorem settleWord_eq (s : State) : ∃ (new : Vector ZoneState 8) (u : State), settleWord s = setZones new u
    ∧ u.word = s.formWord ∧ u.stop = s.stop ∧ u.tkq = s.tkq := ⟨_, _, rfl, rfl, rfl, rfl⟩

theorem settleWord_word (s : State) : (settleWord s).word = s.formWord := by
  obtain ⟨new, u, h, hw, -, -⟩ := settleWord_eq s
  rw [h, (setZones_board new u).1, hw]

/-- Following the line word leaves its sources as they are, or stops the station. -/
theorem settleWord_formWord (s : State) : (settleWord s).formWord = s.formWord ∨ (¬ s.halted ∧ (settleWord s).halted) := by
  have hq := settleWord_quiet s
  obtain ⟨new, u, h, -, hstop, htkq⟩ := settleWord_eq s
  rw [h] at hq ⊢
  by_cases hh : s.halted
  · have hu : u.halted := by
      unfold State.halted
      rw [hstop]
      exact hh
    obtain ⟨htake, hhalt⟩ := setZones_halted new hu
    refine .inl (formWord_of_quiet hq ⟨fun h => absurd h hhalt.1, fun h => absurd h hh.1⟩ ?_)
    rw [htake, htkq]
  · rcases setZones_cases new u with hsame | hhalt
    · rw [hsame] at hq ⊢
      refine .inl (formWord_of_quiet hq ?_ (congrArg Tkq.state htkq))
      exact iff_of_eq (congrArg (fun r : StopRecord => r.state = .run) hstop)
    · exact .inr ⟨hh, hhalt⟩

/-- Two rounds settle the line word: the second finds the station stopped, or the sources as they were (R46). -/
theorem settle_forms (n : Nat) (s : State) : (settle (n + 2) s).word = (settle (n + 2) s).formWord := by
  by_cases h : s.formWord = s.word
  · rw [settle_settled _ h, h]
  · rw [settle, if_neg h]
    have hfirst := settleWord_word s
    rcases settleWord_formWord s with hsame | ⟨-, hhalt⟩
    · rw [settle_settled _ (hsame.trans hfirst.symm), hfirst, hsame]
    · by_cases h' : (settleWord s).formWord = (settleWord s).word
      · rw [settle_settled _ h', h']
      · rw [settle, if_neg h']
        rcases settleWord_formWord (settleWord s) with hsame | ⟨hno, -⟩
        · have hsecond := settleWord_word (settleWord s)
          rw [settle_settled _ (hsame.trans hsecond.symm), hsecond, hsame]
        · exact absurd hhalt hno

theorem feeds_axes {s : State} {as : Vector AxisState 4} (hat : ∀ i : AxisNo, as[i].mpr.atTarget = s.axes[i].mpr.atTarget)
    (hseek : ∀ i : AxisNo, as[i].seeking = s.axes[i].seeking) : ({ s with axes := as } : State).feeds = s.feeds := by
  unfold State.feeds
  congr 1
  · exact funext hat
  · exact funext hseek

theorem feeds_lines {s : State} {ls : Vector LineState 16} (h : ∀ k : LineNo, ls[k].qualified = s.lines[k].qualified) :
    ({ s with lines := ls } : State).feeds = s.feeds := by
  unfold State.feeds
  congr 1
  exact funext h

theorem formOwners_axis (s : State) (i : AxisNo) : (formOwners s).axes[i]
    = { s.ownAxis i (s.ownerOf i) s.axes[i] with cap := s.capOf s.crewWarn (s.ownerOf i) i } := getElem_ofFn_fin _ i

theorem ownAxis_owner (s : State) (i : AxisNo) (o : Owner) (a : AxisState) : (s.ownAxis i o a).dsl.owner = o := by
  unfold State.ownAxis
  dsimp only
  split <;> rfl

theorem formOwners_feeds (s : State) : (formOwners s).feeds = s.feeds :=
  feeds_axes (fun i => by rw [getElem_ofFn_fin]; rfl) (fun i => by rw [getElem_ofFn_fin]; rfl)

/-- The end of an event leaves everything formed (logs 10 and 11). -/
theorem endEvent_formed (s : State) :
    (endEvent s).settled ∧ (endEvent s).owned ∧ (endEvent s).capped ∧ (endEvent s).shown := by
  have hop : (endEvent s).operating = s.operating := by
    have hq := endEvent_quiet s
    rw [State.operating, State.operating, cfl_of_quiet hq, inReset_congr (hold_of_quiet hq)]
  by_cases h : s.operating = true
  · obtain ⟨u, hu⟩ : ∃ u, u = settle 4 (formOwners s) := ⟨_, rfl⟩
    have hend : endEvent s = formAttention (formOutputs (formOwners (formCrew u))) := by
      rw [endEvent, if_pos h, hu]
    have hfeeds : (endEvent s).feeds = u.feeds := by
      rw [hend]
      exact formOwners_feeds (formCrew u)
    have hword : (endEvent s).word = u.word := by
      rw [hend]
      rfl
    have hsettled : (endEvent s).word = (endEvent s).formWord := by
      rw [hword, Feeds.formWord_eq hfeeds, hu]
      exact settle_forms 2 _
    have howner : ∀ i : AxisNo, (endEvent s).axes[i].dsl.owner = (endEvent s).ownerOf i := by
      intro i
      rw [Feeds.ownerOf_eq hfeeds, hend]
      change (formOwners (formCrew u)).axes[i].dsl.owner = _
      rw [formOwners_axis]
      exact ownAxis_owner _ _ _ _
    have hcrew : (endEvent s).crewWarn = u.crewWarning := by
      rw [hend]
      rfl
    refine ⟨fun _ => hsettled, fun _ => howner, fun _ => ⟨?_, fun i => ?_⟩, fun _ k => ?_⟩
    · rw [Feeds.crewWarning_eq hfeeds hword, hcrew]
    · rw [Feeds.ownerOf_eq hfeeds, Feeds.capOf_eq hfeeds, hcrew, hend]
      change (formOwners (formCrew u)).axes[i].cap = _
      rw [formOwners_axis]
      rfl
    · have hout : (endEvent s).outputs[k] = u.outputNow k := by
        rw [hend]
        change (formOutputs (formOwners (formCrew u))).outputs[k] = _
        rw [formOutputs, getElem_ofFn_fin]
        exact Feeds.outputNow_eq (formOwners_feeds (formCrew u)) rfl (.inl rfl)
      rw [Feeds.outputNow_eq hfeeds hword (.inr hout), hout]
  · exact ⟨fun h' => absurd (hop ▸ h') h, fun h' => absurd (hop ▸ h') h, fun h' => absurd (hop ▸ h') h,
      fun h' => absurd (hop ▸ h') h⟩

end

end Sys2Proof.Machine
end

section
/-! PROOFS. How every command ends: with what every event ends with, or with the sources and the formed values as they were,
or with a station out of operation. The formed values are then as their sources give them (O5, O6). -/

namespace Sys2Proof.Machine

/-- A command leaves the sources and the formed values as they were. -/
def Stays (s t : State) : Prop := t.feeds = s.feeds ∧ t.formed = s.formed

theorem Stays.refl (s : State) : Stays s s := ⟨rfl, rfl⟩

theorem Stays.trans {s t u : State} (h : Stays s t) (h' : Stays t u) : Stays s u := ⟨h'.1.trans h.1, h'.2.trans h.2⟩

/-- How a command ends. -/
inductive Ends (s : State) : State → Prop
  | event (u : State) : Ends s (endEvent u)
  | stays {t : State} (stays : Stays s t) : Ends s t
  | idle {t : State} (idle : t.operating = false) : Ends s t

theorem Ends.refl (s : State) : Ends s s := .stays (.refl s)

theorem event_ends (f : State → State) (s : State) : Ends s (event f s) := by
  unfold event
  split
  · exact .event _
  · exact .refl s

theorem eventIf_ends (cond : State → Bool) (f : State → State) (s : State) : Ends s (eventIf cond f s) := by
  unfold eventIf
  split
  · exact .event _
  · exact .refl s

/-- An event after another: where it is not due, the other has ended. -/
theorem Ends.eventIf {s t : State} (h : Ends s t) (cond : State → Bool) (f : State → State) :
    Ends s (Machine.eventIf cond f t) := by
  rcases eventIf_cases cond f t with he | ⟨-, -, he⟩ <;> rw [he]
  · exact h
  · exact .event _

theorem receiveFrame_idle {f : Frame} {s : State} (h : s.operating = false) : (receiveFrame f s).operating = false := by
  unfold receiveFrame
  rw [if_neg (Bool.eq_false_iff.mp h)]
  split <;> exact h

theorem frameStep_ends (f : Frame) (s : State) : Ends s (frameStep f s) := by
  unfold frameStep
  split
  · exact .event _
  · next h => exact .idle (receiveFrame_idle (Bool.eq_false_iff.mpr h))

theorem cueStep_ends (k : CueKind) (w : Wire) (s : State) : Ends s (cueStep k w s) := by
  unfold cueStep
  split
  · exact .refl s
  · exact frameStep_ends _ s

/-! ## The service port -/

theorem stays_svp (s : State) (p : Svp) : Stays s { s with svp := p } := ⟨rfl, rfl⟩

theorem stays_respond (r : Response) (s : State) : Stays s (respond r s) := stays_svp s _

theorem stays_formAttention (s : State) : Stays s (formAttention s) := stays_svp s _

theorem stays_setStore (t : Tks) (s : State) : Stays s (setStore t s) := ⟨rfl, rfl⟩

/-- Axes changed beside what the owners, the line word and the caps are formed from. -/
theorem stays_axes {s : State} {as : Vector AxisState 4}
    (h : ∀ i : AxisNo, as[i].mpr.atTarget = s.axes[i].mpr.atTarget ∧ as[i].seeking = s.axes[i].seeking
      ∧ as[i].dsl.owner = s.axes[i].dsl.owner ∧ as[i].cap = s.axes[i].cap) : Stays s { s with axes := as } := by
  refine ⟨feeds_axes (fun i => (h i).1) fun i => (h i).2.1, ?_⟩
  unfold State.formed
  congr 1
  · exact funext fun i => (h i).2.2.1
  · exact funext fun i => (h i).2.2.2

theorem portCommand_stays {always : Bool} {f : State → State} {s : State} (h : Stays s (f s)) :
    Stays s (portCommand always f s) := by
  unfold portCommand
  split
  · exact .refl s
  · split
    · exact h
    · exact stays_respond _ s

theorem readPeerWork_stays (st : Byte) (s : State) : Stays s (readPeerWork st s) := by
  unfold readPeerWork
  split <;> exact stays_respond _ s

theorem readAxisWork_stays (axis : Byte) (s : State) : Stays s (readAxisWork axis s) := by
  unfold readAxisWork
  split <;> exact stays_respond _ s

theorem readInputsWork_lines (s : State) (k : LineNo) : (readInputsWork s).lines[k] = { s.lines[k] with latch := false } :=
  getElem_ofFn_fin _ k

theorem readInputsWork_stays (s : State) : Stays s (readInputsWork s) := by
  have hlines : Stays s { s with lines := (readInputsWork s).lines } :=
    ⟨feeds_lines fun k => by rw [readInputsWork_lines], rfl⟩
  exact hlines.trans (stays_svp _ _)

theorem stays_counts (s : State) (l : Lif) (m f c : Nat) (t : Tks) (p : Svp) :
    Stays s { s with
      lif := l, mismatched := m, foreign := f, calIgnored := c, tks := t,
      tkq := { s.tkq with armIgnored := 0, goDeclined := 0 }, svp := p } := ⟨rfl, rfl⟩

theorem readCountersWork_stays (s : State) : Stays s (readCountersWork s) := by
  have haxis : ∀ i : AxisNo, (readCountersWork s).axes[i]
      = { s.axes[i] with link := s.axes[i].link.clearCounters } := fun i => getElem_ofFn_fin _ i
  have haxes : Stays s { s with axes := (readCountersWork s).axes } := stays_axes fun i => by
    rw [haxis]
    exact ⟨rfl, rfl, rfl, rfl⟩
  exact haxes.trans (stays_counts _ _ _ _ _ _ _)

theorem takeReadWork_stays (n : Byte) (b : Word16) (s : State) : Stays s (takeReadWork n b s) := by
  unfold takeReadWork
  split <;> exact stays_respond _ s

theorem takeCreateWork_stays (n m p : Byte) (len : BitVec 24) (s : State) : Stays s (takeCreateWork n m p len s) := by
  refine Stays.trans ?_ (stays_formAttention _)
  unfold answer
  split
  · exact stays_respond _ s
  · unfold createNow
    refine Stays.trans ?_ (stays_respond _ _)
    split
    · exact .refl s
    · exact stays_setStore _ s

theorem takeWriteWork_stays (n : Byte) (b : Word16) (ws : List Word32) (s : State) : Stays s (takeWriteWork n b ws s) := by
  unfold takeWriteWork
  split
  · exact stays_respond _ s
  · split
    · exact (stays_setStore _ s).trans (stays_respond _ _)
    · exact stays_respond _ s

theorem takeCloseWork_stays (n : Byte) (s : State) : Stays s (takeCloseWork n s) := by
  unfold takeCloseWork
  split
  · exact stays_respond _ s
  · exact (stays_setStore _ s).trans ((stays_respond _ _).trans (stays_formAttention _))

theorem takeEraseWork_stays (n : Byte) (s : State) : Stays s (takeEraseWork n s) := by
  unfold takeEraseWork
  split
  · exact stays_respond _ s
  · split
    · exact stays_respond _ s
    · exact (stays_setStore _ s).trans ((stays_respond _ _).trans (stays_formAttention _))

theorem lensTableWriteWork_stays (axis count : Byte) (pairs : List (Word16 × Word16)) (s : State) :
    Stays s (lensTableWriteWork axis count pairs s) := by
  unfold lensTableWriteWork
  split
  · exact stays_respond _ s
  · next i _ =>
    split
    · exact stays_respond _ s
    · split
      · refine Stays.trans (stays_axes fun j => ?_) (stays_respond _ _)
        rw [getElem_set_fin]
        split
        · next hij => exact hij ▸ ⟨rfl, rfl, rfl, rfl⟩
        · exact ⟨rfl, rfl, rfl, rfl⟩
      · exact stays_respond _ s

theorem lensTableReadWork_stays (axis : Byte) (s : State) : Stays s (lensTableReadWork axis s) := by
  unfold lensTableReadWork
  split <;> exact stays_respond _ s

theorem placeOwnCue_stays (k : CueKind) (n m p : Byte) (s : State) : Stays s (placeOwnCue k n m p s) := by
  unfold placeOwnCue
  split <;> exact ⟨rfl, rfl⟩

theorem sendCueWork_stays (k n m p : Byte) (s : State) : Stays s (sendCueWork k n m p s) := by
  unfold sendCueWork
  split
  · exact stays_respond _ s
  · split
    · exact stays_respond _ s
    · split
      · exact (placeOwnCue_stays _ n m p s).trans (stays_respond _ _)
      · exact stays_respond _ s

theorem badCommandWork_stays (c : Byte) (s : State) : Stays s (badCommandWork c s) := by
  unfold badCommandWork
  split
  · exact .refl s
  · exact stays_svp s _

/-! ## Every command -/

theorem inReset_idle {s : State} (h : s.inReset = true) : s.operating = false := by
  rw [State.operating, h]
  rfl

theorem pinHold_ends (n : Nat) (s : State) : Ends s (pinHold n s) := by
  unfold pinHold
  split
  · exact .refl s
  · exact .idle (inReset_idle (Bool.or_true _))

theorem releaseReset_ends (s : State) : Ends s (releaseReset s) := by
  unfold releaseReset
  split
  · refine .idle ?_
    unfold beginStart
    split <;> rfl
  · exact .refl s

theorem readStart_ends (s : State) : Ends s (readStart s) := by
  unfold readStart
  split
  · exact .stays ⟨rfl, rfl⟩
  · exact .refl s

theorem readDone_ends (image : List Byte) (levels : Word16) (s : State) : Ends s (readDone image levels s) := by
  unfold readDone
  split
  · split
    · exact .idle (Bool.and_false _)
    · exact .event _
  · exact .refl s

theorem boundary_ends (levels : Word16) (s : State) : Ends s (boundary levels s) := by
  unfold boundary
  split
  · exact .event _
  · split
    · exact .refl s
    · refine .stays (stays_axes fun i => ?_)
      rw [getElem_ofFn_fin]
      exact ⟨rfl, rfl, rfl, rfl⟩

theorem observeWheel_ends (k : WheelNo) (a b : Bool) (s : State) : Ends s (observeWheel k a b s) := by
  unfold observeWheel
  split
  · exact .refl s
  · exact .stays ⟨rfl, rfl⟩

theorem startOpportunity_ends (idle : Nat) (s : State) : Ends s (startOpportunity idle s) := by
  unfold startOpportunity
  split
  · exact .stays ⟨rfl, rfl⟩
  · exact .refl s

theorem encoderStep_ends (i : AxisNo) (samples : List Bool) (s : State) : Ends s (encoderStep i samples s) :=
  ((eventIf_ends _ _ s).eventIf _ _).eventIf _ _

theorem portCommand_ends {always : Bool} {f : State → State} {s : State} (h : Stays s (f s)) :
    Ends s (portCommand always f s) := .stays (portCommand_stays h)

/-- How every command ends. -/
theorem exec_ends (c : Instr) (s : State) : ∃ t, exec c s = .next t ∧ Ends s t := by
  cases c with
  | powerOnReset => exact ⟨_, rfl, .idle (inReset_idle rfl)⟩
  | pinReset n => exact ⟨_, rfl, pinHold_ends n s⟩
  | resetRelease => exact ⟨_, rfl, releaseReset_ends s⟩
  | configReadStart => exact ⟨_, rfl, readStart_ends s⟩
  | configReadDone image levels => exact ⟨_, rfl, readDone_ends image levels s⟩
  | controlPeriodBoundary levels => exact ⟨_, rfl, boundary_ends levels s⟩
  | handwheelCount k a b => exact ⟨_, rfl, observeWheel_ends k a b s⟩
  | frameStart idle => exact ⟨_, rfl, startOpportunity_ends idle s⟩
  | attemptEnd cells => exact ⟨_, rfl, event_ends _ s⟩
  | encoderRead i samples => exact ⟨_, rfl, encoderStep_ends i samples s⟩
  | qualifiedEdge | estopEdge | demandPeriodBoundary | statusPeriod | axisPeriod | probeDue | statusEscalation
  | checkWindowEnd | livenessTimeout | demandTimeout | reportStale | dwellEnd | windowEnd | seekStall | blocked
  | brakeTimer | driveOnBoundary | releaseTimer | holdLimit | endReached | sampleAppend =>
    exact ⟨_, rfl, eventIf_ends _ _ s⟩
  | stopFrame | statusFrame | demandFrame | axisFrame | unknownClass => exact ⟨_, rfl, frameStep_ends _ s⟩
  | armRecord | armPlay | go | halt | disarm | resume | erase | calibrate => exact ⟨_, rfl, cueStep_ends _ _ s⟩
  | readStation | readTakedir | readRequests => exact ⟨_, rfl, portCommand_ends (stays_respond _ s)⟩
  | clearRequests | writeEnables | readSnapshot | shortTransfer => exact ⟨_, rfl, portCommand_ends (stays_svp s _)⟩
  | readPeer st => exact ⟨_, rfl, portCommand_ends (readPeerWork_stays st s)⟩
  | readAxis axis => exact ⟨_, rfl, portCommand_ends (readAxisWork_stays axis s)⟩
  | readInputs => exact ⟨_, rfl, portCommand_ends (readInputsWork_stays s)⟩
  | readCounters => exact ⟨_, rfl, portCommand_ends (readCountersWork_stays s)⟩
  | takeRead n b => exact ⟨_, rfl, portCommand_ends (takeReadWork_stays n b s)⟩
  | takeCreate n m p len => exact ⟨_, rfl, portCommand_ends (takeCreateWork_stays n m p len s)⟩
  | takeWrite n b ws => exact ⟨_, rfl, portCommand_ends (takeWriteWork_stays n b ws s)⟩
  | takeClose n => exact ⟨_, rfl, portCommand_ends (takeCloseWork_stays n s)⟩
  | takeErase n => exact ⟨_, rfl, portCommand_ends (takeEraseWork_stays n s)⟩
  | lensTableWrite axis count pairs => exact ⟨_, rfl, portCommand_ends (lensTableWriteWork_stays axis count pairs s)⟩
  | lensTableRead axis => exact ⟨_, rfl, portCommand_ends (lensTableReadWork_stays axis s)⟩
  | sendCue k n m p => exact ⟨_, rfl, portCommand_ends (sendCueWork_stays k n m p s)⟩
  | badCommand c => exact ⟨_, rfl, portCommand_ends (badCommandWork_stays c s)⟩

/-- A step ends as its command does. -/
theorem step_ends {s t : State} (h : step s = .next t) :
    t = s ∨ ∃ rest, Ends { s with pending := rest } t := by
  unfold step at h
  split at h
  · obtain rfl := Host.Outcome.next.inj h
    exact .inl rfl
  · next c rest _ =>
    obtain ⟨u, hu, hends⟩ := exec_ends c { s with pending := rest }
    obtain rfl := Host.Outcome.next.inj (hu.symm.trans h)
    exact .inr ⟨rest, hends⟩

/-- What holds after every event, of a station out of operation, and is kept beside the sources and the formed values, every
step keeps. -/
theorem step_forms {P : State → Prop} (hend : ∀ u, P (endEvent u)) (hidle : ∀ t : State, t.operating = false → P t)
    (hstays : ∀ s t : State, Stays s t → P s → P t) {s t : State} (hs : P s) (h : step s = .next t) : P t := by
  rcases step_ends h with rfl | ⟨rest, he⟩
  · exact hs
  · cases he with
    | event u => exact hend u
    | stays h => exact hstays { s with pending := rest } t h (hstays s _ ⟨rfl, rfl⟩ hs)
    | idle h => exact hidle t h

end Sys2Proof.Machine

open Sys2Proof Sys2Proof.Machine

/-- Settles O5: two rounds settle the line word at the end of an event, the owners are formed after it, and no other command
touches their sources. -/
theorem formedOwnersAreKept : Obligations.FormedOwnersAreKept := fun _ _ hset hown h =>
  ⟨step_forms (fun u => (endEvent_formed u).1) (fun _ hidle hop => absurd (hidle.symm.trans hop) Bool.false_ne_true)
      (fun _ _ hs => settled_of_same hs.1 hs.2) hset h,
    step_forms (fun u => (endEvent_formed u).2.1) (fun _ hidle hop => absurd (hidle.symm.trans hop) Bool.false_ne_true)
      (fun _ _ hs => owned_of_same hs.1 hs.2) hown h⟩

/-- Settles O6: the crew-warn state, the caps and the outputs are formed at the end of every event, after the line word and the
owners, and no other command touches their sources. -/
theorem formedCapsAndOutputsAreKept : Obligations.FormedCapsAndOutputsAreKept := fun _ _ _ _ hcap hshow h =>
  ⟨step_forms (fun u => (endEvent_formed u).2.2.1) (fun _ hidle hop => absurd (hidle.symm.trans hop) Bool.false_ne_true)
      (fun _ _ hs => capped_of_same hs.1 hs.2) hcap h,
    step_forms (fun u => (endEvent_formed u).2.2.2) (fun _ hidle hop => absurd (hidle.symm.trans hop) Bool.false_ne_true)
      (fun _ _ hs => shown_of_same hs.1 hs.2) hshow h⟩

end

section
/-! PROOFS. The statements about the machine's step, its reset, and one computation of the profiler: O1, O3, O12, O19, O20,
O25. -/

namespace Sys2Proof.Machine

theorem reset_countersFit : State.reset.countersFit :=
  beginStart_countersFit { State.reset with hold := { supplyRose := true } }

theorem reset_stopsSafe : State.reset.stopsSafe :=
  beginStart_stopsSafe { State.reset with hold := { supplyRose := true } }

theorem reset_speedSafe : State.reset.speedSafe := fun i => by
  rw [reset_axis]
  exact ⟨⟨Nat.zero_le _, Nat.zero_le _⟩, fun _ => ⟨rfl, rfl⟩⟩

/-! ## Held in reset (R182) -/

theorem holdPins_axis (s : State) (i : AxisNo) :
    (holdPins s).axes[i] = { s.axes[i] with drive := { s.axes[i].drive with released := false } } := getElem_ofFn_fin _ i

theorem holdPins_output (s : State) (k : OutNo) : (holdPins s).outputs[k] = false := Vector.getElem_replicate _

/-! ## Edges (R71, R73) -/

section
variable (n : ProfilerInput) {p e : Int}

theorem clampOpt_le {x y : Int} {lo : Option Int} (hlo : ∀ z, lo = some z → z ≤ y) : clampOpt x lo (some y) ≤ y := by
  cases lo with
  | none => simp only [clampOpt, minOpt, maxOpt, Option.getD]; omega
  | some z =>
    have hz := hlo z rfl
    simp only [clampOpt, minOpt, maxOpt, Option.getD]
    omega

theorem le_clampOpt {x y : Int} {hi : Option Int} : y ≤ clampOpt x (some y) hi := by
  cases hi <;> simp only [clampOpt, minOpt, maxOpt, Option.getD] <;> omega

/-- The edge clamp leaves no velocity that carries the position past the upward edge, nor past the downward one. -/
theorem ProfilerInput.edgeClamp_up (v : Int) (hup : n.upEdge = some e) (hp : p ≤ e * 256) : p + n.edgeClamp p v ≤ e * 256 := by
  unfold ProfilerInput.edgeClamp ProfilerInput.freeUp
  rw [hup, Option.map_some, Option.map_some]
  have h := clampOpt_le (x := v) (y := max (e * 256 - p) 0) (lo := (n.freeDown p).map fun x => -(max x 0)) fun z hz => by
    obtain ⟨x, -, rfl⟩ := Option.map_eq_some_iff.mp hz
    omega
  omega

theorem ProfilerInput.edgeClamp_down (v : Int) (hdown : n.downEdge = some e) (hp : e * 256 ≤ p) :
    e * 256 ≤ p + n.edgeClamp p v := by
  unfold ProfilerInput.edgeClamp ProfilerInput.freeDown
  rw [hdown, Option.map_some, Option.map_some]
  have h := le_clampOpt (x := v) (y := -(max (p - e * 256) 0)) (hi := (n.freeUp p).map fun x => max x 0)
  omega

/-- An arrival is at a target within the edges (R70). -/
theorem ProfilerInput.arrives_up {v target : Int} (h : n.arrives p v target = true) (hup : n.upEdge = some e) :
    target * 256 ≤ e * 256 := by
  simp only [ProfilerInput.arrives, ProfilerInput.inFreeRange, ProfilerInput.freeUp, hup, Option.map_some,
    Bool.and_eq_true, decide_eq_true_eq] at h
  omega

theorem ProfilerInput.arrives_down {v target : Int} (h : n.arrives p v target = true) (hdown : n.downEdge = some e) :
    e * 256 ≤ target * 256 := by
  simp only [ProfilerInput.arrives, ProfilerInput.inFreeRange, ProfilerInput.freeDown, hdown, Option.map_some,
    Bool.and_eq_true, decide_eq_true_eq] at h
  omega

/-- A computation that does not track arrives at a target, or moves by the new velocity. -/
theorem ProfilerInput.follow_p (m : Mpr) : (∃ target, n.arrives m.p m.v target = true ∧ (n.follow m).p = target * 256)
    ∨ (n.follow m).p = saturateP (m.p + n.newVelocity m.p m.v) := by
  unfold ProfilerInput.follow
  dsimp only
  split
  · next count _ =>
    split
    · next h => exact .inl ⟨_, h, rfl⟩
    · exact .inr rfl
  · exact .inr rfl

end

/-! ## Handwheels (R60) -/

/-- One phase's change is one count, turned back the other count; neither's or both's is none. -/
theorem quadrature_cases (x y a b : Bool) :
    ((x != a) = (y != b) → quadrature x y a b = 0)
      ∧ ((x != a) ≠ (y != b) →
        (quadrature x y a b = 1 ∨ quadrature x y a b = -1) ∧ quadrature a b x y = -quadrature x y a b) := by
  unfold quadrature
  generalize Config.phaseALeadsUp = up
  decide +revert

/-- The four changes of a whole cycle count the same way. -/
theorem quadrature_cycle : quadrature false false true false = quadrature true false true true
    ∧ quadrature true false true true = quadrature true true false true
    ∧ quadrature true true false true = quadrature false true false false := by
  unfold quadrature
  generalize Config.phaseALeadsUp = up
  decide +revert

end Sys2Proof.Machine

open Sys2Proof Sys2Proof.Machine

/-- Settles O1: both clauses are the cases of `step`. -/
theorem stepRunsTheFrontCommand : Obligations.StepRunsTheFrontCommand :=
  ⟨fun c rest s h => by rw [step, h], fun s h => by rw [step, h]⟩

/-- Settles O3: the state after reset is what a power-on start leaves, and a station that has not loaded forms nothing. -/
theorem resetMeetsTheInvariants : Obligations.ResetMeetsTheInvariants :=
  have hidle : ¬ State.reset.operating = true := Bool.false_ne_true
  ⟨emptyStore_wf, ⟨emptyStore_blocksSound, nofun⟩, fun h => absurd h hidle, fun h => absurd h hidle, fun h => absurd h hidle,
    fun h => absurd h hidle, rfl, reset_stopsSafe.1, reset_stopsSafe.2, .inl rfl, reset_speedSafe, reset_bounded,
    reset_countersFit⟩

/-- Settles O12: both resets leave the pins of `holdPins`, and a short low level leaves everything. -/
theorem resetHoldsThePart : Obligations.ResetHoldsThePart := by
  have hheld : ∀ (s : State) (h : ResetSources),
      (∀ i : AxisNo, (holdPins { s with hold := h }).axes[i]
          = { s.axes[i] with drive := { s.axes[i].drive with released := false } })
        ∧ ∀ k : OutNo, (holdPins { s with hold := h }).outputs[k] = false :=
    fun s h => ⟨holdPins_axis _, holdPins_output _⟩
  constructor
  · rintro c s h (⟨rfl, rfl⟩ | ⟨n, hn, rfl, rfl⟩)
    · exact ⟨_, rfl, rfl, rfl, rfl, (hheld s _).1, (hheld s _).2, rfl, rfl, rfl⟩
    · refine ⟨holdPins { s with hold := { s.hold with pin := true } }, ?_, Bool.or_true _, rfl, rfl, (hheld s _).1,
        (hheld s _).2, rfl, rfl, rfl⟩
      exact congrArg Host.Outcome.next (if_neg (Nat.not_lt.mpr hn))
  · intro s n hn
    exact congrArg Host.Outcome.next (if_pos hn)

/-- Settles O19: an arrival is at a target within the edges, and the edge clamp bounds every other move. -/
theorem edgesAreNotCrossed : Obligations.EdgesAreNotCrossed := by
  intro n m e htracks hlow hhigh
  have hcompute : n.compute m = n.follow m := if_neg (Bool.eq_false_iff.mp htracks)
  rw [hcompute]
  constructor
  · intro hup hp
    rcases n.follow_p m with ⟨target, harr, hq⟩ | hq <;> rw [hq]
    · exact n.arrives_up harr hup
    · have hv : m.p + n.newVelocity m.p m.v ≤ e * 256 := n.edgeClamp_up _ hup hp
      simp only [saturateP, clampInt]
      omega
  · intro hdown hp
    rcases n.follow_p m with ⟨target, harr, hq⟩ | hq <;> rw [hq]
    · exact n.arrives_down harr hdown
    · have hv : e * 256 ≤ m.p + n.newVelocity m.p m.v := n.edgeClamp_down _ hdown hp
      simp only [saturateP, clampInt]
      omega

/-- Settles O20: with the drive off or under CUT the computation tracks. -/
theorem driveOffTracks : Obligations.DriveOffTracks := by
  intro s i hused hoff
  have htracks : ∀ p, (s.profilerInput i p).tracks = true := fun p => by
    rcases hoff with hcut | hdrive
    · exact Bool.or_eq_true_iff.mpr (.inl (decide_eq_true hcut))
    · exact Bool.or_eq_true_iff.mpr (.inr (by rw [hdrive]; rfl))
  have hcomputed : s.computed i = (s.axes[i].mpr.seeded s.axes[i].link.measured).track s.axes[i].link.measured :=
    if_pos (htracks _)
  rw [axisComputed_used (of_decide_eq_true hused), hcomputed]
  constructor
  · intro x hx
    rw [hx]
    have hcount : countOf (x * 256) = x := by
      unfold countOf
      omega
    refine ⟨?_, ?_⟩
    · simp only [Mpr.track, Mpr.written, Option.map_some, Option.getD_some, hcount, decide_true]
    · simp only [Link.follow, hx, Mpr.track, Mpr.written, Option.map_some, Option.getD_some, hcount, sub_self]
  · intro hx
    rw [hx]
    refine ⟨?_, rfl⟩
    simp only [Mpr.track, Mpr.written, Option.map_none, Option.getD_none, Mpr.seeded]
    split <;> rfl

/-- Settles O25: the directions of the two phase orders are each other's reverse, whichever counts up. -/
theorem handwheelCounts : Obligations.HandwheelCounts := by
  intro k a b s hreset
  refine ⟨quadrature s.wheels[k].phaseA s.wheels[k].phaseB a b, ?_, ?_, rfl, ?_, ?_, ?_, ?_⟩
  · exact (quadrature_cases _ _ a b).1
  · exact (quadrature_cases _ _ a b).2
  · have hobserve : observeWheel k a b s
        = { s with wheels := s.wheels.set k (s.wheels[k].observe s.operating a b) } := if_neg (Bool.eq_false_iff.mp hreset)
    exact congrArg Host.Outcome.next hobserve
  · exact quadrature_cycle.1
  · exact quadrature_cycle.2.1
  · exact quadrature_cycle.2.2

end

section
/-! PROOFS. Bits as numbers, and the reading of an encoder burst (R83, R195): O50. -/

namespace Sys2Proof.Machine

/-! ## Bits and numbers -/

theorem natBits_length (w n : Nat) : (natBits w n).length = w := by
  induction w with
  | zero => rfl
  | succ w ih => rw [natBits, List.length_cons, ih]

theorem foldl_bits (bits : List Bool) (a : Nat) :
    bits.foldl (fun n b => 2 * n + b.toNat) a = a * 2 ^ bits.length + bitsNat bits := by
  unfold bitsNat
  induction bits generalizing a with
  | nil => simp
  | cons b bits ih =>
    rw [List.foldl_cons, List.foldl_cons, ih, ih (2 * 0 + b.toNat), List.length_cons, Nat.pow_succ]
    ring

theorem bitsNat_cons (b : Bool) (bits : List Bool) : bitsNat (b :: bits) = b.toNat * 2 ^ bits.length + bitsNat bits := by
  rw [bitsNat, List.foldl_cons, foldl_bits]
  simp

/-- The low w bits of n spell n modulo 2^w. -/
theorem bitsNat_natBits (w n : Nat) : bitsNat (natBits w n) = n % 2 ^ w := by
  induction w with
  | zero => simp [natBits, bitsNat, Nat.mod_one]
  | succ w ih =>
    rw [natBits, bitsNat_cons, natBits_length, ih, Nat.mod_pow_succ, Nat.toNat_testBit]
    ring

theorem bitsNat_natBits_of_lt {w n : Nat} (h : n < 2 ^ w) : bitsNat (natBits w n) = n := by
  rw [bitsNat_natBits, Nat.mod_eq_of_lt h]

/-! ## A burst (R83) -/

/-- The start bit is found behind its leading zeros where these are at most three. -/
theorem startPlace_of_lead {lead : Nat} (h : lead ≤ 3) (xs : List Bool) :
    startPlace (List.replicate lead false ++ true :: xs) = some lead := by
  match lead with
  | 0 => simp [startPlace]
  | 1 => simp [startPlace]
  | 2 => simp [startPlace]
  | 3 => simp [startPlace]
  | n + 4 => omega

/-- Samples that fit in the burst are its first ones. -/
theorem burstOf_prefix {w : Nat} {front rest : List Bool} (h : front.length ≤ w + 12) :
    ∃ tail, burstOf w (front ++ rest) = front ++ tail := by
  refine ⟨(rest ++ List.replicate (w + 12) false).take (w + 12 - front.length), ?_⟩
  rw [burstOf, List.append_assoc, List.take_append, List.take_of_length_le h]

/-- The reading of a burst with its start bit after at most three zeros: the W + 2 covered bits and the six of the check. -/
theorem readSamples_of_lead {w lead : Nat} (h : lead ≤ 3) {covered check : List Bool} (rest : List Bool)
    (hc : covered.length = w + 2) (hk : check.length = 6) :
    readSamples w (List.replicate lead false ++ true :: (covered ++ check) ++ rest)
      = if (crc6 covered).toNat ≠ bitsNat check then .check
        else if covered.getD w false then .error
        else .good (bitsNat (covered.take w)) (covered.getD (w + 1) false) := by
  have hlen : (List.replicate lead false ++ true :: (covered ++ check)).length ≤ w + 12 := by
    rw [List.length_append, List.length_replicate, List.length_cons, List.length_append, hc, hk]
    omega
  obtain ⟨tail, htail⟩ := burstOf_prefix (rest := rest) hlen
  have hburst : burstOf w (List.replicate lead false ++ true :: (covered ++ check) ++ rest)
      = List.replicate lead false ++ true :: (covered ++ (check ++ tail)) := by
    rw [htail, List.append_assoc, List.cons_append, List.append_assoc]
  have hframe : (List.replicate lead false ++ true :: (covered ++ (check ++ tail))).drop (lead + 1)
      = covered ++ (check ++ tail) := by
    rw [List.drop_append, List.length_replicate, List.drop_of_length_le (by rw [List.length_replicate]; omega)]
    simp
  have hcovered : (covered ++ (check ++ tail)).take (w + 2) = covered := by
    rw [List.take_append_of_le_length hc.ge, ← hc, List.take_length]
  have hcheck : ((covered ++ (check ++ tail)).drop (w + 2)).take 6 = check := by
    rw [← hc, List.drop_left, ← hk, List.take_left]
  unfold readSamples
  simp only [hburst, startPlace_of_lead h, hframe, hcovered, hcheck]

/-- A burst whose first four samples are 0 has no start bit. -/
theorem readSamples_noStart (w : Nat) (rest : List Bool) :
    readSamples w (List.replicate 4 false ++ rest) = .noStart := by
  obtain ⟨tail, htail⟩ := burstOf_prefix (w := w) (front := List.replicate 4 false) (rest := rest) (by simp)
  have hstart : startPlace (List.replicate 4 false ++ tail) = none := by simp [startPlace]
  unfold readSamples
  simp only [htail, hstart]

end Sys2Proof.Machine

open Sys2Proof Sys2Proof.Machine

/-- Settles O50: the start bit fixes the place of the covered bits and of the check, which the reader compares. -/
theorem encoderFramesAreRead : Obligations.EncoderFramesAreRead := by
  intro w raw lead warning crc rest hraw hlead
  refine ⟨fun error => ?_, readSamples_noStart w rest⟩
  have hlen : (natBits w raw ++ [error, warning]).length = w + 2 := by rw [List.length_append, natBits_length]; rfl
  rw [readSamples_of_lead hlead rest hlen (natBits_length 6 _), bitsNat_natBits_of_lt crc.isLt]
  have herror : (natBits w raw ++ [error, warning]).getD w false = error := by
    rw [List.getD_append_right _ _ _ _ (natBits_length w raw).le, natBits_length, Nat.sub_self]
    rfl
  have hwarning : (natBits w raw ++ [error, warning]).getD (w + 1) false = warning := by
    rw [List.getD_append_right _ _ _ _ ((natBits_length w raw).le.trans (Nat.le_succ w)), natBits_length,
      Nat.succ_eq_add_one, Nat.add_sub_cancel_left]
    rfl
  have htake : (natBits w raw ++ [error, warning]).take w = natBits w raw := by
    rw [List.take_append_of_le_length (natBits_length w raw).ge, List.take_of_length_le (natBits_length w raw).le]
  rw [herror, hwarning, htake, bitsNat_natBits_of_lt hraw]
  have hcheck : (crc6 (natBits w raw ++ [error, warning])).toNat ≠ crc.toNat
      ↔ crc ≠ crc6 (natBits w raw ++ [error, warning]) := by
    rw [ne_eq, ne_eq, ← BitVec.toNat_inj, eq_comm]
  simp only [hcheck]

end

section
/-! PROOFS. The slots of the transmit queue: placing and the start opportunity (R4, R12 to R16, R22, R23), and the periods
that place into them (R26, R32, R33, R38, R60 to R63). -/

namespace Sys2Proof.Machine

/-! ## Events of a calm station -/

/-- An event of a calm station that changes none of the sources is followed by no reaction. -/
theorem eventIf_calm {cond : State → Bool} {f : State → State} {s : State} (hs : s.calm) (hc : cond s = true)
    (hf : (f s).calm) : eventIf cond f s = f s := by
  rw [eventIf_due hs.1 hc, endEvent_calm hf]

/-! ## Placing into a row of slots (R12) -/

/-- A message placed in each slot of a list that has one. -/
def Lif.placeEach {M : Type} (place : Fin 4 → M → Lif → Lif) (f : Fin 4 → Option M) (xs : List (Fin 4)) (l : Lif) : Lif :=
  xs.foldl (fun l i => (f i).elim l fun m => place i m l) l

section
variable {M : Type} {place : Fin 4 → M → Lif → Lif} {get : Lif → Vector (Option M) 4} {slot : Fin 4 → Slot}

theorem Lif.placeEach_keeps {γ : Type} (q : Lif → γ) (hq : ∀ i m l, q (place i m l) = q l) (f : Fin 4 → Option M)
    (xs : List (Fin 4)) (l : Lif) : q (l.placeEach place f xs) = q l :=
  foldl_keeps q _ (fun l i => by
    cases f i with
    | none => rfl
    | some m => exact hq i m l) xs l

/-- A message is in its slot after the placing, unless a mute discards it. -/
theorem Lif.placeEach_placed (hmute : ∀ i m l, (place i m l).mute = l.mute)
    (hget : ∀ i m l, get (place i m l) = if l.mute = .off then (get l).set i (some m) else get l)
    {f : Fin 4 → Option M} {xs : List (Fin 4)} {l : Lif} {j : Fin 4} {m : M} (hl : l.mute = .off)
    (hf : f j = some m) (hj : j ∈ xs ∨ (get l)[j] = some m) : (get (l.placeEach place f xs))[j] = some m := by
  induction xs generalizing l with
  | nil => exact hj.resolve_left List.not_mem_nil
  | cons i xs ih =>
    rw [Lif.placeEach, List.foldl_cons, ← Lif.placeEach]
    cases hi : f i with
    | none =>
      refine ih hl (hj.imp_left fun h => (List.mem_cons.mp h).resolve_left ?_)
      rintro rfl
      exact absurd (hf.symm.trans hi) nofun
    | some n =>
      refine ih ((hmute _ _ _).trans hl) ?_
      rw [Option.elim_some, hget, if_pos hl, getElem_set_fin]
      by_cases hij : i = j
      · subst hij
        exact .inr ((if_pos rfl).trans (hi.symm.trans hf))
      · rw [if_neg hij]
        exact hj.imp_left fun h => (List.mem_cons.mp h).resolve_left (Ne.symm hij)

/-- A slot without a message, or under a mute, stays as it was. -/
theorem Lif.placeEach_other (hmute : ∀ i m l, (place i m l).mute = l.mute)
    (hget : ∀ i m l, get (place i m l) = if l.mute = .off then (get l).set i (some m) else get l)
    {f : Fin 4 → Option M} (xs : List (Fin 4)) {l : Lif} {j : Fin 4} (h : l.mute ≠ .off ∨ f j = none) :
    (get (l.placeEach place f xs))[j] = (get l)[j] := by
  induction xs generalizing l with
  | nil => rfl
  | cons i xs ih =>
    rw [Lif.placeEach, List.foldl_cons, ← Lif.placeEach]
    cases hi : f i with
    | none => exact ih h
    | some n =>
      rw [Option.elim_some, ih (by rw [hmute]; exact h), hget]
      split
      · next hl =>
        have hij : i ≠ j := by
          rintro rfl
          exact absurd ((h.resolve_left (not_not.mpr hl)).symm.trans hi) nofun
        rw [getElem_set_fin, if_neg hij]
      · rfl

/-- The frame on the line after the placing: renewed where its slot got a message (R12). -/
theorem Lif.placeEach_onLine (hmute : ∀ i m l, (place i m l).mute = l.mute)
    (hline : ∀ i m l, (place i m l).onLine = if l.mute = .off then l.renew (slot i) else l.onLine)
    (f : Fin 4 → Option M) (xs : List (Fin 4)) (l : Lif) :
    (l.placeEach place f xs).onLine = l.onLine.map fun g => { g with
      renewed := g.renewed || decide (l.mute = .off ∧ ∃ i ∈ xs, g.slot = slot i ∧ (f i).isSome = true) } := by
  induction xs generalizing l with
  | nil => simp [Lif.placeEach]
  | cons i xs ih =>
    rw [Lif.placeEach, List.foldl_cons, ← Lif.placeEach, ih]
    cases hi : f i with
    | none =>
      rw [Option.elim_none]
      refine congrArg (fun F => l.onLine.map F) (funext fun g => ?_)
      have hiff : (l.mute = .off ∧ ∃ a ∈ xs, g.slot = slot a ∧ (f a).isSome = true)
          ↔ l.mute = .off ∧ ∃ a ∈ i :: xs, g.slot = slot a ∧ (f a).isSome = true := by
        simp [hi]
      rw [decide_eq_decide.mpr hiff]
    | some m =>
      rw [Option.elim_some, hmute, hline]
      by_cases hl : l.mute = .off
      · rw [if_pos hl, Lif.renew, Option.map_map]
        refine congrArg (fun F => l.onLine.map F) (funext fun g => ?_)
        by_cases hg : g.slot = slot i <;> simp [hg, hl, hi]
      · simp [hl]

end

theorem Lif.placeDemands_eq (cfg : Settings) (wheels : Vector WheelState 4) (l : Lif) :
    l.placeDemands cfg wheels = l.placeEach Lif.placeDemand (fun k => demandOf cfg.wheels[k] wheels[k]) allAxes := by
  unfold Lif.placeDemands Lif.placeEach
  congr 1
  funext l k
  dsimp only
  cases demandOf cfg.wheels[k] wheels[k] <;> rfl

theorem Lif.placeAxes_eq (s : State) (l : Lif) :
    allAxes.foldl (fun l i => if s.used i then l.placeAxis i (axisMessage s.cfg.axisPeriod s.axes[i]) else l) l
      = l.placeEach Lif.placeAxis
          (fun i => if s.used i then some (axisMessage s.cfg.axisPeriod s.axes[i]) else none) allAxes := by
  unfold Lif.placeEach
  congr 1
  funext l i
  dsimp only
  cases s.used i <;> rfl

/-! ## The demand period (R60 to R63) -/

theorem demandWork_calm {s : State} (h : s.calm) : (demandWork s).calm := calm_of_same rfl rfl rfl rfl h

theorem demandWork_wheel (s : State) (k : WheelNo) :
    (demandWork s).wheels[k] = s.wheels[k].afterPeriod s.cfg.wheels[k] := getElem_ofFn_fin _ k

theorem demandWork_lif (s : State) : (demandWork s).lif
    = s.lif.placeEach Lif.placeDemand (fun k => demandOf s.cfg.wheels[k] s.wheels[k]) allAxes := Lif.placeDemands_eq ..

theorem demandWork_placed {s : State} {k : WheelNo} {m : DemandMsg} (hl : s.lif.mute = .off)
    (hm : demandOf s.cfg.wheels[k] s.wheels[k] = some m) : (demandWork s).lif.demand[k] = some m := by
  rw [demandWork_lif]
  exact Lif.placeEach_placed (place := Lif.placeDemand) (get := Lif.demand)
    (f := fun k => demandOf s.cfg.wheels[k] s.wheels[k]) (fun _ _ _ => rfl) (fun _ _ _ => rfl) hl hm (.inl (mem_allAxes k))

theorem demandWork_other {s : State} {k : WheelNo}
    (h : s.lif.mute ≠ .off ∨ demandOf s.cfg.wheels[k] s.wheels[k] = none) :
    (demandWork s).lif.demand[k] = s.lif.demand[k] := by
  rw [demandWork_lif]
  exact Lif.placeEach_other (place := Lif.placeDemand) (get := Lif.demand)
    (f := fun k => demandOf s.cfg.wheels[k] s.wheels[k]) (fun _ _ _ => rfl) (fun _ _ _ => rfl) allAxes h

theorem demandOf_isSome (c : WheelCfg) (w : WheelState) : (demandOf c w).isSome = true ↔ c.target ≠ none := by
  rw [demandOf, Option.isSome_map, Option.isSome_iff_ne_none]

theorem demandWork_onLine (s : State) : (demandWork s).lif.onLine = s.lif.onLine.map fun f => { f with
    renewed := f.renewed || decide (s.lif.mute = .off ∧ ∃ k : WheelNo, f.slot = .demand k ∧ s.cfg.wheels[k].target ≠ none) } := by
  rw [demandWork_lif, Lif.placeEach_onLine (place := Lif.placeDemand) (slot := Slot.demand) (fun _ _ _ => rfl)
    (fun _ _ _ => rfl)]
  refine congrArg (fun F => s.lif.onLine.map F) (funext fun g => ?_)
  have hiff : (s.lif.mute = .off ∧ ∃ i ∈ allAxes, g.slot = .demand i ∧ (demandOf s.cfg.wheels[i] s.wheels[i]).isSome = true)
      ↔ s.lif.mute = .off ∧ ∃ k : WheelNo, g.slot = .demand k ∧ s.cfg.wheels[k].target ≠ none := by
    simp only [mem_allAxes, true_and, demandOf_isSome]
  rw [decide_eq_decide.mpr hiff]

theorem demandWork_frame (s : State) : demandWork s
    = { s with wheels := (demandWork s).wheels, due := { s.due with demand := false },
               lif := { s.lif with demand := (demandWork s).lif.demand, onLine := (demandWork s).lif.onLine } } := by
  have hlif : (demandWork s).lif
      = { s.lif with demand := (demandWork s).lif.demand, onLine := (demandWork s).lif.onLine } := by
    have hkeep := Lif.placeEach_keeps (place := Lif.placeDemand)
      (fun l => { l with demand := Vector.replicate 4 none, onLine := none }) (fun _ _ _ => rfl)
      (fun k => demandOf s.cfg.wheels[k] s.wheels[k]) allAxes s.lif
    rw [← demandWork_lif] at hkeep
    exact congrArg (fun q : Lif => { q with demand := (demandWork s).lif.demand, onLine := (demandWork s).lif.onLine }) hkeep
  exact congrArg (fun q => ({ s with
    wheels := (demandWork s).wheels, due := { s.due with demand := false }, lif := q } : State)) hlif

end Sys2Proof.Machine

open Sys2Proof Sys2Proof.Machine

/-- Settles O26: the DEMANDs are placed slot by slot, and nothing that an event re-forms reads them. -/
theorem demandPeriodMakesDemands : Obligations.DemandPeriodMakesDemands := by
  intro s hs hdue
  refine ⟨demandWork s, congrArg Host.Outcome.next (eventIf_calm hs hdue (demandWork_calm hs)), fun k => ?_,
    demandWork_onLine s, demandWork_frame s⟩
  rw [demandWork_wheel]
  refine ⟨rfl, fun hnone => ⟨?_, demandWork_other (.inr (by rw [demandOf, hnone]; rfl))⟩, fun st i htarget => ⟨?_, ?_⟩⟩
  · simp only [WheelState.afterPeriod, hnone, Option.isSome_none, Bool.false_and, Bool.false_eq_true, if_false]
  · simp only [WheelState.afterPeriod, htarget, Option.isSome_some, if_true]
  · refine ⟨demandValue s.cfg.wheels[k] s.wheels[k], fun hl => ?_, fun hl => ?_, fun hm => ?_,
      fun hm => demandWork_other (.inl hm)⟩
    · simp only [WheelState.afterPeriod, demandValue, hl, Bool.and_false, Bool.false_eq_true, if_false, clampInt, and_self]
    · simp only [WheelState.afterPeriod, demandValue, hl, htarget, Option.isSome_some, Bool.and_self, if_true, accAfter,
        clampInt, and_self]
    · exact demandWork_placed hm (by rw [demandOf, htarget]; rfl)

end

section
/-! PROOFS. The status and axis periods, the line's timers, and the attempt rule of each slot (R15 to R18, R20, R22, R26, R32,
R33, R38): O27, O28, O31, O33. -/

namespace Sys2Proof.Machine

/-! ## Entries (R26) -/

/-- Entries whose presence and, for the peers, line word stay leave the sources as they were. -/
theorem feeds_peers {s : State} {ps : Vector PeerEntry 8} (hpres : ∀ st : StationNo, ps[st].presence = s.peers[st].presence)
    (hword : ∀ st : StationNo, st ≠ s.cfg.own → ps[st].lineWord = s.peers[st].lineWord) :
    ({ s with peers := ps } : State).feeds = s.feeds := by
  unfold State.feeds
  congr 1
  · exact funext hpres
  · funext st
    dsimp only
    split
    · rfl
    · next h => exact hword st h

/-- A change of the own entry beside its presence leaves the sources as they were. -/
theorem feeds_ownPeer {s : State} {e : PeerEntry} (h : e.presence = s.peers[s.cfg.own].presence) :
    ({ s with peers := s.peers.set s.cfg.own e } : State).feeds = s.feeds := by
  refine feeds_peers (fun st => ?_) fun st hst => ?_
  · rw [getElem_set_fin]
    split
    · next hst => exact h.trans (hst ▸ rfl)
    · rfl
  · rw [getElem_set_fin, if_neg hst.symm]

/-- The composing of a STATUS leaves a calm station calm. -/
theorem composeStatus_calm {s : State} (h : s.calm) : (composeStatus s).calm :=
  calm_of_same (s := s) (feeds_ownPeer (s := s) (e := s.peers[s.cfg.own].mirror s.statusNow s.time) rfl) rfl rfl rfl h

theorem due_calm {s : State} (d : PeriodWork) (h : s.calm) : ({ s with due := d } : State).calm :=
  calm_of_same (s := s) rfl rfl rfl rfl h

theorem Lif.placeStatus_onLine (m : StatusMsg) (l : Lif) : (l.placeStatus m).onLine = l.onLine.map fun f => { f with
    renewed := f.renewed || decide (l.mute ≠ .permanent ∧ (f.slot = .status ∨ f.slot = .probe)) } := by
  unfold Lif.placeStatus
  dsimp only
  by_cases hm : l.mute = .permanent
  · rw [if_pos hm]
    simp [hm]
  · rw [if_neg hm, Lif.renew, Lif.renew, Option.map_map]
    refine congrArg (fun F => l.onLine.map F) (funext fun f => ?_)
    by_cases hs : f.slot = .status
    · simp [hm, hs]
    · by_cases hp : f.slot = .probe <;> simp [hm, hs, hp]

theorem encodersLocked_iff (s : State) :
    s.encodersLocked = true ↔ ∀ i : AxisNo, s.cfg.axes[i].kind = .unused ∨ s.axes[i].link.state = .locked := by
  simp [State.encodersLocked, State.used, Link.valid, mem_allAxes]

theorem lensesCalibrated_iff (s : State) : s.lensesCalibrated = true
    ↔ ∀ i : AxisNo, s.cfg.axes[i].kind ≠ .lens ∨ s.axes[i].lens.cal.state = .calibrated := by
  simp [State.lensesCalibrated, State.isLens, mem_allAxes]

/-! ## The axis period (R38) -/

theorem axisWork_axis (s : State) (i : AxisNo) :
    (axisWork s).axes[i] = { s.axes[i] with prevPos := s.axes[i].link.validPosition } := getElem_ofFn_fin _ i

theorem axisWork_lif (s : State) : (axisWork s).lif
    = s.lif.placeEach Lif.placeAxis
        (fun i => if s.used i then some (axisMessage s.cfg.axisPeriod s.axes[i]) else none) allAxes := Lif.placeAxes_eq s s.lif

theorem axisWork_placed {s : State} {i : AxisNo} (hu : s.used i = true) (hl : s.lif.mute = .off) :
    (axisWork s).lif.axis[i] = some (axisMessage s.cfg.axisPeriod s.axes[i]) := by
  rw [axisWork_lif]
  exact Lif.placeEach_placed (place := Lif.placeAxis) (get := Lif.axis)
    (f := fun i => if s.used i then some (axisMessage s.cfg.axisPeriod s.axes[i]) else none)
    (fun _ _ _ => rfl) (fun _ _ _ => rfl) hl (if_pos hu) (.inl (mem_allAxes i))

theorem axisWork_other {s : State} {i : AxisNo} (h : s.lif.mute ≠ .off ∨ s.used i = false) :
    (axisWork s).lif.axis[i] = s.lif.axis[i] := by
  rw [axisWork_lif]
  exact Lif.placeEach_other (place := Lif.placeAxis) (get := Lif.axis)
    (f := fun i => if s.used i then some (axisMessage s.cfg.axisPeriod s.axes[i]) else none)
    (fun _ _ _ => rfl) (fun _ _ _ => rfl) allAxes (h.imp_right fun hu => if_neg (Bool.eq_false_iff.mp hu))

theorem used_iff (s : State) (i : AxisNo) : s.used i = true ↔ s.cfg.axes[i].kind ≠ .unused := by
  rw [State.used, decide_eq_true_iff]

theorem axisWork_onLine (s : State) : (axisWork s).lif.onLine = s.lif.onLine.map fun f => { f with
    renewed := f.renewed || decide (s.lif.mute = .off ∧ ∃ i : AxisNo, f.slot = .axis i ∧ s.cfg.axes[i].kind ≠ .unused) } := by
  rw [axisWork_lif, Lif.placeEach_onLine (place := Lif.placeAxis) (slot := Slot.axis) (fun _ _ _ => rfl) (fun _ _ _ => rfl)]
  refine congrArg (fun F => s.lif.onLine.map F) (funext fun g => ?_)
  have hsome : ∀ i : AxisNo, (if s.used i then some (axisMessage s.cfg.axisPeriod s.axes[i]) else none).isSome = true
      ↔ s.cfg.axes[i].kind ≠ .unused := fun i => by
    rw [← used_iff]
    cases s.used i <;> simp
  have hiff : (s.lif.mute = .off ∧ ∃ i ∈ allAxes, g.slot = .axis i
        ∧ (if s.used i then some (axisMessage s.cfg.axisPeriod s.axes[i]) else none).isSome = true)
      ↔ s.lif.mute = .off ∧ ∃ i : AxisNo, g.slot = .axis i ∧ s.cfg.axes[i].kind ≠ .unused := by
    simp only [mem_allAxes, true_and, hsome]
  rw [decide_eq_decide.mpr hiff]

theorem axisWork_lif_frame (s : State) :
    (axisWork s).lif = { s.lif with axis := (axisWork s).lif.axis, onLine := (axisWork s).lif.onLine } := by
  have hkeep := Lif.placeEach_keeps (place := Lif.placeAxis)
    (fun l => { l with axis := Vector.replicate 4 none, onLine := none }) (fun _ _ _ => rfl)
    (fun i => if s.used i then some (axisMessage s.cfg.axisPeriod s.axes[i]) else none) allAxes s.lif
  rw [← axisWork_lif] at hkeep
  exact congrArg (fun q : Lif => { q with axis := (axisWork s).lif.axis, onLine := (axisWork s).lif.onLine }) hkeep

theorem axisWork_report (s : State) (i : AxisNo) : (axisWork s).peers[s.cfg.own].reports[i]
    = if s.used i then .of (axisMessage s.cfg.axisPeriod s.axes[i]) s.time else s.peers[s.cfg.own].reports[i] := by
  simp only [axisWork, State.ownReports, getElem_set_fin, if_true, getElem_ofFn_fin]

theorem axisWork_calm {s : State} (h : s.calm) : (axisWork s).calm := by
  have haxes : Stays s { s with axes := (axisWork s).axes } := stays_axes fun i => by
    rw [axisWork_axis]
    exact ⟨rfl, rfl, rfl, rfl⟩
  have hpeers : ({ s with axes := (axisWork s).axes, peers := (axisWork s).peers } : State).feeds
      = ({ s with axes := (axisWork s).axes } : State).feeds :=
    feeds_ownPeer (s := { s with axes := (axisWork s).axes })
      (e := { s.peers[s.cfg.own] with reports := s.ownReports }) rfl
  exact calm_of_same (s := s) (hpeers.trans haxes.1) haxes.2 rfl rfl h

theorem Link.validPosition_of_locked {l : Link} (h : l.state = .locked) : l.validPosition = l.measured := if_pos h

theorem Link.validPosition_of_not_locked {l : Link} (h : l.state ≠ .locked) : l.validPosition = none := if_neg h

/-! ## The rule of each slot (R16 to R18, R22) -/

section
variable (f : TxFrame) (r : AttemptResult) (l : Lif)

theorem AttemptResult.failed_iff : r.failed = true ↔ r = .unacked ∨ r = .bitError := by
  cases r <;> decide

theorem Lif.attemptRule_stop : (l.attemptRule f r).stop
    = if f.slot = .stop ∧ r ≠ .lost ∧ f.renewed = false then l.stop.bind StopSlot.afterAttempt else l.stop := by
  simp [Lif.attemptRule, AttemptResult.ends, and_assoc]

/-- The STATUS slot after its own attempt or a probe's frees, unless the frame was lost or new content was placed. -/
theorem Lif.attemptRule_status :
    ((f.slot = .status ∨ f.slot = .probe) ∧ r ≠ .lost ∧ f.renewed = false →
      (l.attemptRule f r).status = none ∧ (l.attemptRule f r).statusAge = 0 ∧ (l.attemptRule f r).statusUrgent = false)
    ∧ (¬ ((f.slot = .status ∨ f.slot = .probe) ∧ r ≠ .lost ∧ f.renewed = false) →
      (l.attemptRule f r).status = l.status ∧ (l.attemptRule f r).statusAge = l.statusAge
        ∧ (l.attemptRule f r).statusUrgent = l.statusUrgent) := by
  have hfrees : f.freesStatus r = true ↔ (f.slot = .status ∨ f.slot = .probe) ∧ r ≠ .lost ∧ f.renewed = false := by
    simp [TxFrame.freesStatus, AttemptResult.ends, and_assoc]
  constructor
  · intro h
    exact ⟨if_pos (hfrees.mpr h), if_pos (hfrees.mpr h), if_pos (hfrees.mpr h)⟩
  · intro h
    exact ⟨if_neg (mt hfrees.mp h), if_neg (mt hfrees.mp h), if_neg (mt hfrees.mp h)⟩

theorem Lif.attemptRule_cues : (l.attemptRule f r).cues = if f.slot = .cue then cuesAfter r l.cues else l.cues := rfl

theorem Lif.attemptRule_droppedCues :
    (l.attemptRule f r).droppedCues = if l.dropsCue f r then satInc l.droppedCues else l.droppedCues := rfl

/-- A cue is dropped at the end of an attempt of the FIFO's head alone, and where the attempt fails. -/
theorem Lif.dropsCue_head {f : TxFrame} {r : AttemptResult} {l : Lif} (h : l.dropsCue f r = true) :
    f.slot = .cue ∧ r.failed = true := by
  simp only [Lif.dropsCue, Bool.and_eq_true, decide_eq_true_eq] at h
  exact h.1

theorem Lif.dropsCue_cons {c : CueSlot} {rest : List CueSlot} (hf : f.slot = .cue) (hc : l.cues = c :: rest) :
    l.dropsCue f r = (r.failed && decide (3 ≤ c.attempts + 1)) := by
  simp only [Lif.dropsCue, hf, hc, decide_true, Bool.true_and]

theorem Lif.attemptRule_demand (i : Fin 4) : (l.attemptRule f r).demand[i]
    = if f.slot = .demand i ∧ r ≠ .lost ∧ f.renewed = false then none else l.demand[i] := by
  simp only [Lif.attemptRule, getElem_ofFn_fin]
  simp [AttemptResult.ends, and_assoc]

theorem Lif.attemptRule_axis (i : Fin 4) : (l.attemptRule f r).axis[i]
    = if f.slot = .axis i ∧ r ≠ .lost ∧ f.renewed = false then none else l.axis[i] := by
  simp only [Lif.attemptRule, getElem_ofFn_fin]
  simp [AttemptResult.ends, and_assoc]

end

end Sys2Proof.Machine

open Sys2Proof Sys2Proof.Machine

/-- Settles O27: the STATUS of a calm station carries its line word, and only its own entry and slot take it. -/
theorem statusPeriodComposes : Obligations.StatusPeriodComposes := by
  intro s hs hdue
  refine ⟨statusWork s, s.statusNow, ?_, ?_, encodersLocked_iff s, lensesCalibrated_iff s, rfl, rfl,
    Lif.placeStatus_onLine _ s.lif, rfl⟩
  · exact congrArg Host.Outcome.next (eventIf_calm hs hdue (composeStatus_calm (due_calm _ hs)))
  · rw [hs.2.1 hs.1]
    rfl

/-- Settles O28: the messages are placed slot by slot and mirrored, and nothing that an event re-forms reads them. -/
theorem axisPeriodComposes : Obligations.AxisPeriodComposes := by
  intro s hs hdue
  refine ⟨axisWork s, congrArg Host.Outcome.next (eventIf_calm hs hdue (axisWork_calm hs)), fun i => ⟨fun hk => ?_, fun hk => ?_⟩,
    axisWork_onLine s, ?_, fun i => axisWork_axis s i⟩
  · have hu : s.used i = false := decide_eq_false (not_not.mpr hk)
    rw [axisWork_report, hu]
    exact ⟨axisWork_other (.inr hu), rfl⟩
  · have hu : s.used i = true := decide_eq_true hk
    refine ⟨axisMessage s.cfg.axisPeriod s.axes[i], rfl, rfl, rfl, rfl, fun x y hl hx hy => ?_, fun h => ?_, ?_, ?_⟩
    · simp only [axisMessage, Link.validPosition_of_locked hl, hx, hy, axisVelocity, clampInt]
    · rcases h with h | h
      · simp only [axisMessage, Link.validPosition_of_not_locked h, axisVelocity]
      · simp only [axisMessage, h, axisVelocity]
        cases s.axes[i].link.validPosition <;> rfl
    · split
      · next hm => exact axisWork_placed hu hm
      · next hm => exact axisWork_other (.inl hm)
    · rw [axisWork_report, hu]
      rfl
  · have hpeer : (axisWork s).peers[s.cfg.own].reports = s.ownReports := by
      simp only [axisWork, getElem_set_fin, if_true]
    rw [hpeer]
    exact congrArg (fun q => ({ axisWork s with lif := q } : State)) (axisWork_lif_frame s)

/-- Settles O31: each slot's rule reads the slot of the frame, and a lost or renewed one frees nothing. -/
theorem attemptRuleOfEachSlot : Obligations.AttemptRuleOfEachSlot := by
  rintro f r l t rfl
  have hstop := l.attemptRule_stop f r
  have hstatus := l.attemptRule_status f r
  have hcues := l.attemptRule_cues f r
  have hdropped := l.attemptRule_droppedCues f r
  have hdemand := l.attemptRule_demand f r
  have haxis := l.attemptRule_axis f r
  refine ⟨rfl, fun h => ?_, fun h h' => ?_, fun h => ?_, fun i h => ?_, fun i h => ?_, ?_, fun h => ?_, fun h => ?_,
    fun hr hn => ⟨fun x hf hx hcopies => ?_, fun h => ?_, fun i hf => ?_, fun i hf => ?_⟩, fun c rest hf hc => ?_⟩
  · rw [hstop, if_neg fun hc => h hc.1]
  · exact hstatus.2 fun hc => hc.1.elim h h'
  · rw [hcues, hdropped, if_neg h, if_neg fun hd => h (Lif.dropsCue_head hd).1]
    exact ⟨rfl, rfl⟩
  · rw [hdemand, if_neg fun hc => h hc.1]
  · rw [haxis, if_neg fun hc => h hc.1]
  · simp [Lif.attemptRule, AttemptResult.ends]
  · obtain ⟨h1, h2, h3⟩ := hstatus.2 fun hc => hc.2.1 h
    have hdrop : ¬ l.dropsCue f r = true := fun hd => by
      have hfailed := (Lif.dropsCue_head hd).2
      rw [h] at hfailed
      exact absurd hfailed Bool.false_ne_true
    refine ⟨by rw [hstop, if_neg fun hc => hc.2.1 h], h1, h2, h3, ?_, by rw [hdropped, if_neg hdrop],
      vector_ext fun i => by rw [hdemand, if_neg fun hc => hc.2.1 h], vector_ext fun i => by rw [haxis, if_neg fun hc => hc.2.1 h]⟩
    rw [hcues, h]
    split
    · cases l.cues <;> rfl
    · rfl
  · have hno : ∀ {p q : Prop}, ¬ (p ∧ q ∧ f.renewed = false) := fun hc => Bool.false_ne_true (hc.2.2.symm.trans h)
    obtain ⟨h1, h2, h3⟩ := hstatus.2 hno
    exact ⟨by rw [hstop, if_neg hno], h1, h2, h3, vector_ext fun i => by rw [hdemand, if_neg hno],
      vector_ext fun i => by rw [haxis, if_neg hno]⟩
  · rw [hstop, if_pos ⟨hf, hr, hn⟩, hx, Option.bind_some, StopSlot.afterAttempt]
    exact ⟨fun h1 => if_pos h1.le, fun h1 => if_neg (Nat.not_le.mpr h1)⟩
  · exact hstatus.1 ⟨h, hr, hn⟩
  · refine vector_ext fun j => ?_
    rw [hdemand, getElem_set_fin, hf]
    by_cases hij : i = j
    · rw [if_pos ⟨congrArg _ hij, hr, hn⟩, if_pos hij]
    · rw [if_neg fun hc => hij (Slot.demand.inj hc.1), if_neg hij]
  · refine vector_ext fun j => ?_
    rw [haxis, getElem_set_fin, hf]
    by_cases hij : i = j
    · rw [if_pos ⟨congrArg _ hij, hr, hn⟩, if_pos hij]
    · rw [if_neg fun hc => hij (Slot.axis.inj hc.1), if_neg hij]
  · rw [hcues, hdropped, if_pos hf, Lif.dropsCue_cons f r l hf hc, hc, cuesAfter]
    refine ⟨fun h => ?_, fun h ha => ?_, fun h ha => ?_⟩
    · rw [if_pos h, h]
      exact ⟨rfl, rfl⟩
    all_goals
      have hfailed := (r.failed_iff).mpr h
      have hacked : r ≠ .acked := by rintro rfl; exact absurd hfailed Bool.false_ne_true
      rw [if_neg hacked, hfailed, if_pos rfl, Bool.true_and]
    · have hlt : ¬ 3 ≤ c.attempts + 1 := by omega
      rw [if_neg hlt, decide_eq_false hlt]
      exact ⟨rfl, rfl⟩
    · have hle : 3 ≤ c.attempts + 1 := by omega
      rw [if_pos hle, decide_eq_true hle]
      exact ⟨rfl, rfl⟩

/-- Settles O33: the three timers write the Line Interface alone. -/
theorem lineTimersAct : Obligations.LineTimersAct := by
  intro s hs
  have hcalm : ∀ (q : Lif) (d : PeriodWork), ({ s with lif := q, due := d } : State).calm := fun q d =>
    calm_of_same (s := s) rfl rfl rfl rfl hs
  refine ⟨fun hm hp => ?_, fun h => ?_, fun h1 h2 h3 => ?_, fun h => ?_, fun h => ?_, fun h => ?_⟩
  · have hdue : s.probeIsDue = true := by rw [State.probeIsDue, decide_eq_true hm, decide_eq_true hp]; rfl
    exact congrArg Host.Outcome.next (eventIf_calm hs hdue (hcalm _ s.due))
  · refine congrArg Host.Outcome.next (eventIf_notDue ?_)
    rcases h with h | h
    · rw [State.probeIsDue, decide_eq_false h, Bool.false_and]
    · rw [State.probeIsDue, decide_eq_false (Nat.not_le.mpr h), Bool.and_false]
  · have hdue : s.escalates = true := by rw [State.escalates, h1, h2, decide_eq_true h3]; rfl
    exact congrArg Host.Outcome.next (eventIf_calm hs hdue (hcalm _ s.due))
  · refine congrArg Host.Outcome.next (eventIf_notDue ?_)
    rcases h with h | h
    · rw [State.escalates, h]
      rfl
    · rw [State.escalates, decide_eq_false (Nat.not_lt.mpr h), Bool.and_false]
  · exact congrArg Host.Outcome.next (eventIf_calm (cond := fun s => s.due.window) hs h (hcalm _ _))
  · exact congrArg Host.Outcome.next (eventIf_notDue (cond := fun s => s.due.window) h)

end

section
/-! PROOFS. The frame that a start opportunity begins (R4, R14, R16, R22, R23): O29. -/

namespace Sys2Proof.Machine

/-! ## Lowest identifiers (R14) -/

/-- A candidate has the lowest of some identifiers, and there is none only where there is no identifier. -/
structure Lowest (own : StationNo) (o : Option TxFrame) (ids : List Nat) : Prop where
  none_iff : o = none ↔ ids = []
  mem : ∀ f, o = some f → identifier f.cls own f.index ∈ ids
  le : ∀ f, o = some f → ∀ k ∈ ids, identifier f.cls own f.index ≤ k

section
variable {own : StationNo}

theorem Lowest.empty : Lowest own none [] := ⟨⟨fun _ => rfl, fun _ => rfl⟩, nofun, nofun⟩

theorem Lowest.single (f : TxFrame) : Lowest own (some f) [identifier f.cls own f.index] where
  none_iff := ⟨nofun, nofun⟩
  mem := by
    rintro g hg
    obtain rfl := Option.some.inj hg
    exact List.mem_singleton_self _
  le := by
    rintro g hg k hk
    obtain rfl := Option.some.inj hg
    exact (List.mem_singleton.mp hk).ge

/-- The first of two candidates, where every identifier of the first's is lower. -/
theorem Lowest.or {o o' : Option TxFrame} {ids ids' : List Nat} (h : Lowest own o ids) (h' : Lowest own o' ids')
    (hle : ∀ a ∈ ids, ∀ b ∈ ids', a ≤ b) : Lowest own (o.or o') (ids ++ ids') := by
  cases o with
  | none =>
    rw [h.none_iff.mp rfl]
    exact h'
  | some f =>
    have hmem := h.mem f rfl
    refine ⟨⟨nofun, fun hn => ?_⟩, fun g hg => ?_, fun g hg k hk => ?_⟩
    · rw [(List.append_eq_nil_iff.mp hn).1] at hmem
      exact absurd hmem List.not_mem_nil
    all_goals obtain rfl := Option.some.inj hg
    · exact List.mem_append_left _ hmem
    · exact (List.mem_append.mp hk).elim (h.le f rfl k) (hle _ hmem k)

/-- Only the members of the identifiers count. -/
theorem Lowest.congr {o : Option TxFrame} {ids ids' : List Nat} (h : Lowest own o ids) (hmem : ∀ k, k ∈ ids ↔ k ∈ ids') :
    Lowest own o ids' := by
  have hnil : ids = [] ↔ ids' = [] := by simp only [List.eq_nil_iff_forall_not_mem, hmem]
  exact ⟨h.none_iff.trans hnil, fun f hf => (hmem _).mp (h.mem f hf), fun f hf k hk => h.le f hf k ((hmem k).mpr hk)⟩

/-- The first occupied slot of a row has the lowest identifier of the row. -/
theorem Lowest.row {M : Type} (slots : Vector (Option M) 4) (frame : Fin 4 → M → TxFrame) (c : Fin 8)
    (hcls : ∀ i m, (frame i m).cls = c ∧ (frame i m).index = i) :
    Lowest own (allAxes.findSome? fun i => slots[i].map (frame i))
      ((allAxes.filter fun i => slots[i].isSome).map (identifier c own)) := by
  have key : ∀ xs : List (Fin 4), xs.Pairwise (· < ·) → Lowest own (xs.findSome? fun i => slots[i].map (frame i))
      ((xs.filter fun i => slots[i].isSome).map (identifier c own)) := by
    intro xs hxs
    induction xs with
    | nil => exact .empty
    | cons i xs ih =>
      obtain ⟨hlt, hxs⟩ := List.pairwise_cons.mp hxs
      rw [List.findSome?_cons, List.filter_cons]
      cases hi : slots[i] with
      | none => exact ih hxs
      | some m =>
        have hfirst : Lowest own (some (frame i m)) [identifier c own i] := by
          have h := Lowest.single (own := own) (frame i m)
          rwa [(hcls i m).1, (hcls i m).2] at h
        refine (hfirst.or (ih hxs) fun a ha b hb => ?_)
        obtain ⟨j, hj, rfl⟩ := List.mem_map.mp hb
        rw [List.mem_singleton.mp ha]
        have hij : i.val < j.val := hlt j (List.mem_of_mem_filter hj)
        unfold identifier
        omega
  exact key allAxes (by decide)

/-- An identifier of a lower class is lower. -/
theorem identifier_le {c c' : Fin 8} (i i' : Fin 4) (h : c < c') : identifier c own i ≤ identifier c' own i' := by
  have hc : c.val < c'.val := h
  unfold identifier
  omega

end

/-! ## The candidates of the slots -/

section
variable (own : StationNo) (l : Lif)

theorem Lif.stopCandidate_lowest {n : Nat} (hn : 6 ≤ n) :
    Lowest own (l.stopCandidate own n) (if l.stop.isSome then [identifier 0 own 0] else []) := by
  unfold Lif.stopCandidate
  cases l.stop with
  | none => exact .empty
  | some x =>
    rw [Option.bind_some, if_pos (.inl hn)]
    exact .single _

theorem Lif.statusFrame_lowest : Lowest own l.statusFrame
    (if l.status.isSome then [identifier (if l.statusUrgent then 1 else 5) own 0] else []) := by
  unfold Lif.statusFrame
  cases l.status with
  | none => exact .empty
  | some m => exact .single (.of .status l.statusClass 0 (statusPayload m))

/-- The identifiers of the slots between a STATUS-URGENT and a STATUS. -/
def Lif.middleIds : List Nat :=
  (if l.cues.isEmpty then [] else [identifier 2 own 0])
    ++ ((allAxes.filter fun i => l.demand[i].isSome).map (identifier 3 own)
    ++ (allAxes.filter fun i => l.axis[i].isSome).map (identifier 4 own))

theorem Lif.pendingIds_eq : l.pendingIds own = (if l.stop.isSome then [identifier 0 own 0] else [])
    ++ ((if l.status.isSome then [identifier (if l.statusUrgent then 1 else 5) own 0] else []) ++ l.middleIds own) := by
  simp only [Lif.pendingIds, Lif.middleIds, List.append_assoc]

/-- The candidate among the cues, demands and axes. -/
def Lif.middleCandidate : Option TxFrame :=
  (l.cues.head?.map fun c => TxFrame.of .cue 2 0 (cuePayload c.cue)).or
    ((allAxes.findSome? fun i => l.demand[i].map fun m => TxFrame.of (.demand i) 3 i (demandPayload m)).or
      (allAxes.findSome? fun i => l.axis[i].map fun m => TxFrame.of (.axis i) 4 i (axisPayload m)))

theorem Lif.otherCandidate_eq : l.otherCandidate
    = (if l.statusUrgent then l.statusFrame else none).or (l.middleCandidate.or l.statusFrame) := by
  simp only [Lif.otherCandidate, Lif.middleCandidate, Option.or_assoc]

/-- Each identifier of the middle slots is of class 2, 3 or 4. -/
theorem Lif.mem_middleIds {k : Nat} (h : k ∈ l.middleIds own) : ∃ (c : Fin 8) (i : Fin 4), 1 < c ∧ c < 5 ∧ k = identifier c own i := by
  rcases List.mem_append.mp h with h | h
  · split at h
    · exact absurd h List.not_mem_nil
    · exact ⟨2, 0, by decide, by decide, List.mem_singleton.mp h⟩
  · rcases List.mem_append.mp h with h | h <;> obtain ⟨i, -, rfl⟩ := List.mem_map.mp h
    · exact ⟨3, i, by decide, by decide, rfl⟩
    · exact ⟨4, i, by decide, by decide, rfl⟩

theorem Lif.middleCandidate_lowest : Lowest own l.middleCandidate (l.middleIds own) := by
  have hcue : Lowest own (l.cues.head?.map fun c => TxFrame.of .cue 2 0 (cuePayload c.cue))
      (if l.cues.isEmpty then [] else [identifier 2 own 0]) := by
    cases l.cues with
    | nil => exact .empty
    | cons c rest => exact .single (.of .cue 2 0 (cuePayload c.cue))
  refine hcue.or ((Lowest.row l.demand (fun i m => .of (.demand i) 3 i (demandPayload m)) 3 fun _ _ => ⟨rfl, rfl⟩).or
    (Lowest.row l.axis (fun i m => .of (.axis i) 4 i (axisPayload m)) 4 fun _ _ => ⟨rfl, rfl⟩) ?_) ?_
  · intro a ha b hb
    obtain ⟨i, -, rfl⟩ := List.mem_map.mp ha
    obtain ⟨j, -, rfl⟩ := List.mem_map.mp hb
    exact identifier_le i j (by decide)
  · intro a ha b hb
    split at ha
    · exact absurd ha List.not_mem_nil
    · rw [List.mem_singleton.mp ha]
      rcases List.mem_append.mp hb with hb | hb <;> obtain ⟨j, -, rfl⟩ := List.mem_map.mp hb
      · exact identifier_le 0 j (by decide)
      · exact identifier_le 0 j (by decide)

/-- Among the slots but the STOP slot the lowest identifier is chosen, whichever class the STATUS slot has (R14, R15). -/
theorem Lif.otherCandidate_lowest : Lowest own l.otherCandidate
    ((if l.status.isSome then [identifier (if l.statusUrgent then 1 else 5) own 0] else []) ++ l.middleIds own) := by
  have hstatus := l.statusFrame_lowest own
  have hmiddle := l.middleCandidate_lowest own
  rw [l.otherCandidate_eq]
  have hone : ∀ k ∈ (if l.status.isSome then [identifier (if l.statusUrgent then 1 else 5) own 0] else []),
      k = identifier (if l.statusUrgent then 1 else 5) own 0 := fun k hk => by
    split at hk
    · exact List.mem_singleton.mp hk
    · exact absurd hk List.not_mem_nil
  cases hu : l.statusUrgent with
  | true =>
    rw [hu] at hstatus hone
    have hboth : Lowest own (l.statusFrame.or l.middleCandidate)
        ((if l.status.isSome then [identifier 1 own 0] else []) ++ l.middleIds own) := by
      refine hstatus.or hmiddle fun a ha b hb => ?_
      obtain ⟨c, i, hc, -, rfl⟩ := l.mem_middleIds own hb
      rw [hone a ha]
      exact identifier_le 0 i hc
    have hsame : l.statusFrame.or (l.middleCandidate.or l.statusFrame) = l.statusFrame.or l.middleCandidate := by
      cases l.statusFrame with
      | none => exact Option.or_none
      | some f => rfl
    rw [if_pos rfl, hsame]
    exact hboth
  | false =>
    rw [hu] at hstatus hone
    rw [if_neg Bool.false_ne_true, Option.none_or]
    refine (hmiddle.or hstatus fun a ha b hb => ?_).congr fun k => by rw [List.mem_append, List.mem_append, or_comm]
    obtain ⟨c, i, -, hc, rfl⟩ := l.mem_middleIds own ha
    rw [hone b hb]
    exact identifier_le i 0 hc

/-- At 6 idle cells the candidate has the lowest identifier of the occupied slots. -/
theorem Lif.candidate_lowest {n : Nat} (hm : l.mute = .off) (hn : 6 ≤ n) :
    Lowest own (l.candidate own n) (l.pendingIds own) := by
  rw [Lif.candidate, hm, l.pendingIds_eq own]
  dsimp only
  rw [if_pos hn]
  refine (l.stopCandidate_lowest own hn).or (l.otherCandidate_lowest own) fun a ha b hb => ?_
  split at ha
  · rw [List.mem_singleton.mp ha]
    rcases List.mem_append.mp hb with hb | hb
    · split at hb
      · rw [List.mem_singleton.mp hb]
        split
        · exact identifier_le 0 0 (by decide)
        · exact identifier_le 0 0 (by decide)
      · exact absurd hb List.not_mem_nil
    · obtain ⟨c, i, hc, -, rfl⟩ := l.mem_middleIds own hb
      exact identifier_le 0 i (lt_trans (by decide) hc)
  · exact absurd ha List.not_mem_nil

/-- Below 6 idle cells the STOP slot alone can begin. -/
theorem Lif.candidate_short {n : Nat} (hm : l.mute = .off) (hn : n < 6) : l.candidate own n = l.stopCandidate own n := by
  rw [Lif.candidate, hm]
  dsimp only
  rw [if_neg (Nat.not_le.mpr hn), Option.or_none]

/-- The STOP slot's candidate is a copy of its content (R16). -/
theorem Lif.stopCandidate_some {n : Nat} {f : TxFrame} (h : l.stopCandidate own n = some f) :
    ∃ x, l.stop = some x ∧ f = .of .stop 0 0 (stopPayload
        { category := x.category, cause := x.cause, origin := own, copy := x.nextIndex, seq := x.seq })
      ∧ (6 ≤ n ∨ 3 ≤ n ∧ 0 < x.nextIndex) := by
  obtain ⟨x, hx, hf⟩ := Option.bind_eq_some_iff.mp h
  split at hf
  · next hn => exact ⟨x, hx, (Option.some.inj hf).symm, hn⟩
  · exact absurd hf nofun

/-- No other slot's candidate is a STOP or a probe. -/
theorem Lif.otherCandidate_slot {f : TxFrame} (h : l.otherCandidate = some f) : f.slot ≠ .stop ∧ f.slot ≠ .probe := by
  have hstatus : ∀ g, l.statusFrame = some g → g.slot ≠ .stop ∧ g.slot ≠ .probe := fun g hg => by
    obtain ⟨m, -, rfl⟩ := Option.map_eq_some_iff.mp hg
    exact ⟨nofun, nofun⟩
  rw [l.otherCandidate_eq, Lif.middleCandidate] at h
  simp only [Option.or_eq_some_iff] at h
  rcases h with h | ⟨-, (h | ⟨-, h | ⟨-, h⟩⟩) | ⟨-, h⟩⟩
  · split at h
    · exact hstatus f h
    · exact absurd h nofun
  · obtain ⟨c, -, rfl⟩ := Option.map_eq_some_iff.mp h
    exact ⟨nofun, nofun⟩
  · obtain ⟨i, -, hi⟩ := List.exists_of_findSome?_eq_some h
    obtain ⟨m, -, rfl⟩ := Option.map_eq_some_iff.mp hi
    exact ⟨nofun, nofun⟩
  · obtain ⟨i, -, hi⟩ := List.exists_of_findSome?_eq_some h
    obtain ⟨m, -, rfl⟩ := Option.map_eq_some_iff.mp hi
    exact ⟨nofun, nofun⟩
  · exact hstatus f h

/-- A candidate of a station without a mute is the STOP slot's, or another slot's at 6 idle cells. -/
theorem Lif.candidate_some {n : Nat} {f : TxFrame} (hm : l.mute = .off) (h : l.candidate own n = some f) :
    l.stopCandidate own n = some f ∨ f.slot ≠ .stop ∧ f.slot ≠ .probe := by
  rw [Lif.candidate, hm] at h
  rcases Option.or_eq_some_iff.mp h with h | ⟨-, h⟩
  · exact .inl h
  · split at h
    · exact .inr (l.otherCandidate_slot h)
    · exact absurd h nofun

/-! ## The start opportunity -/

theorem Lif.startFrame_begins {n : Nat} {f : TxFrame} (hl : l.onLine = none) (hc : l.candidate own n = some f) :
    l.startFrame own n = { l with idle := 0, onLine := some f, probeDue := l.probeDue && decide (f.slot ≠ .probe) } := by
  unfold Lif.startFrame
  rw [hl, hc]

theorem Lif.startFrame_none {n : Nat} (hl : l.onLine = none) (hc : l.candidate own n = none) :
    l.startFrame own n = { l with idle := n } := by
  unfold Lif.startFrame
  rw [hl, hc]

/-- Without a mute the candidate is on the line after the opportunity, and a probe stays as due as it was. -/
theorem Lif.startFrame_off {n : Nat} (hm : l.mute = .off) (hl : l.onLine = none) : l.startFrame own n
    = { l with idle := if (l.candidate own n).isSome then 0 else n, onLine := l.candidate own n } := by
  cases hc : l.candidate own n with
  | none =>
    rw [l.startFrame_none own hl hc]
    exact congrArg (fun o => ({ l with idle := n, onLine := o } : Lif)) hl
  | some f =>
    have hslot : f.slot ≠ .probe := by
      rcases l.candidate_some own hm hc with h | h
      · obtain ⟨x, -, rfl, -⟩ := l.stopCandidate_some own h
        exact nofun
      · exact h.2
    rw [l.startFrame_begins own hl hc, decide_eq_true hslot, Bool.and_true]
    rfl

theorem startOpportunity_eq {n : Nat} {s : State} (hop : s.operating = true) :
    exec (.frameStart n) s = .next { s with lif := s.lif.startFrame s.cfg.own n } :=
  congrArg Host.Outcome.next (if_pos hop)

end

end Sys2Proof.Machine

open Sys2Proof Sys2Proof.Machine

/-- Settles O29: the candidates are tried in the order of their identifiers. -/
theorem lowestIdentifierBegins : Obligations.LowestIdentifierBegins := by
  intro n s hop
  rw [startOpportunity_eq hop]
  refine ⟨fun hl => ?_, fun hm hl => ?_, fun hm hl => ⟨fun h => ?_, fun m hn hdue h => ?_⟩, fun hm hl => ?_⟩
  · obtain ⟨f, hf⟩ := Option.ne_none_iff_exists'.mp hl
    rw [Lif.startFrame, hf]
  · have hlow : 6 ≤ n → Lowest s.cfg.own (s.lif.candidate s.cfg.own n) (s.lif.pendingIds s.cfg.own) :=
      s.lif.candidate_lowest s.cfg.own hm
    refine ⟨s.lif.candidate s.cfg.own n, ?_, fun hn => ⟨(hlow hn).none_iff, fun f hf => ⟨(hlow hn).mem f hf, (hlow hn).le f hf⟩⟩,
      fun h3 h6 => ?_, fun h3 => ?_, fun f x hf hslot hx => ?_⟩
    · rw [s.lif.startFrame_off s.cfg.own hm hl]
    · rw [s.lif.candidate_short s.cfg.own hm h6]
      refine ⟨⟨fun ⟨x, hx, hnext⟩ => ?_, fun h => ?_⟩, fun f hf => ?_⟩
      · rw [Lif.stopCandidate, hx, Option.bind_some, if_pos (.inr ⟨h3, hnext⟩)]
        rfl
      · obtain ⟨f, hf⟩ := Option.isSome_iff_exists.mp h
        obtain ⟨x, hx, -, hnext⟩ := s.lif.stopCandidate_some s.cfg.own hf
        exact ⟨x, hx, hnext.elim (fun h => absurd h (Nat.not_le.mpr h6)) And.right⟩
      · obtain ⟨x, -, rfl, -⟩ := s.lif.stopCandidate_some s.cfg.own hf
        rfl
    · rw [s.lif.candidate_short s.cfg.own hm (h3.trans (by decide))]
      by_contra hne
      obtain ⟨f, hf⟩ := Option.ne_none_iff_exists'.mp hne
      obtain ⟨x, -, -, hnext⟩ := s.lif.stopCandidate_some s.cfg.own hf
      omega
    · rcases s.lif.candidate_some s.cfg.own hm hf with h | h
      · obtain ⟨y, hy, rfl, -⟩ := s.lif.stopCandidate_some s.cfg.own h
        obtain rfl := Option.some.inj (hx.symm.trans hy)
        rfl
      · exact absurd hslot h.1
  · rw [s.lif.startFrame_none s.cfg.own hl]
    rw [Lif.candidate, hm]
    dsimp only
    rcases h with h | h | ⟨h, h'⟩
    · rw [if_neg (Nat.not_le.mpr h)]
    · rw [Lif.probeCandidate, if_neg (Bool.eq_false_iff.mp h), ite_self]
    · rw [Lif.probeCandidate, h, h', Option.none_or, Option.map_none, ite_self, ite_self]
  · have hcand : s.lif.candidate s.cfg.own n
        = some (.of .probe (if s.lif.status.isSome ∧ s.lif.statusUrgent = true then 1 else 5) 0 (statusPayload m)) := by
      rw [Lif.candidate, hm]
      dsimp only
      rw [if_pos hn, Lif.probeCandidate, if_pos hdue]
      rcases h with h | ⟨h, h'⟩
      · rw [h, Option.some_or, Option.map_some, Lif.statusClass]
        simp
      · rw [h, h', Option.none_or, Option.map_some]
        simp
    rw [s.lif.startFrame_begins s.cfg.own hl hcand]
    simp [TxFrame.of]
  · rw [s.lif.startFrame_none s.cfg.own hl]
    rw [Lif.candidate, hm]

end

section
/-! PROOFS. The service port's reads, read-and-clear commands and whole transfers (R187 to R190, R193): O56, O57, O60. -/

namespace Sys2Proof.Machine

/-! ## Commands of the port -/

theorem portCommand_operating {always : Bool} {f : State → State} {s : State} (h : s.operating = true) :
    portCommand always f s = f s := by
  rw [portCommand, operating_released h, operating_loaded h]
  simp

theorem portCommand_busy {f : State → State} {s : State} (h : s.inReset = false) (hl : s.cfl.load ≠ .runReady) :
    portCommand false f s = respond (.refused .busy) s := by
  simp [portCommand, h, hl]

theorem portCommand_reset {always : Bool} {f : State → State} {s : State} (h : s.inReset = true) :
    portCommand always f s = s := if_pos h

/-! ## Numbers of stations and axes in a byte -/

theorem toNat_ofNat_station (st : StationNo) : (BitVec.ofNat 8 st.val).toNat = st.val :=
  Nat.mod_eq_of_lt (by omega)

theorem toNat_ofNat_axis (i : AxisNo) : (BitVec.ofNat 8 i.val).toNat = i.val := Nat.mod_eq_of_lt (by omega)

theorem readPeerWork_ofNat (st : StationNo) (s : State) :
    readPeerWork (BitVec.ofNat 8 st.val) s = respond (.peer s.peers[st]) s := by
  have hbyte := toNat_ofNat_station st
  have hst : (Fin.ofNat 8 (BitVec.ofNat 8 st.val).toNat : StationNo) = st := by rw [hbyte, Fin.ofNat_val_eq_self]
  exact (if_pos (by omega)).trans (congrArg (fun st : StationNo => respond (.peer s.peers[st]) s) hst)

theorem readAxisWork_ofNat (i : AxisNo) (s : State) :
    readAxisWork (BitVec.ofNat 8 i.val) s = respond (.axis (axisView i s)) s := by
  rw [readAxisWork, toNat_ofNat_axis, if_pos (by omega), Fin.ofNat_val_eq_self]

theorem isLens_iff (s : State) (i : AxisNo) : s.isLens i = true ↔ s.cfg.axes[i].kind = .lens := decide_eq_true_iff

theorem lensAxis_ofNat {s : State} {i : AxisNo} (h : s.cfg.axes[i].kind = .lens) :
    s.lensAxis (BitVec.ofNat 8 i.val) = some i := by
  rw [State.lensAxis, toNat_ofNat_axis, Fin.ofNat_val_eq_self, if_pos ⟨by omega, (isLens_iff s i).mpr h⟩]

theorem lensAxis_ofNat_none {s : State} {i : AxisNo} (h : s.cfg.axes[i].kind ≠ .lens) :
    s.lensAxis (BitVec.ofNat 8 i.val) = none := by
  rw [State.lensAxis, toNat_ofNat_axis, Fin.ofNat_val_eq_self, if_neg fun hi => h ((isLens_iff s i).mp hi.2)]

theorem lensAxis_none {s : State} {b : Byte} (h : 3 < b.toNat) : s.lensAxis b = none :=
  if_neg fun hb => absurd hb.1 (Nat.not_le.mpr h)

theorem driveFaultActive_iff (s : State) (i : AxisNo) : s.driveFaultActive i = true
    ↔ ∃ k : LineNo, s.cfg.lines[k].function = .driveFault i ∧ s.lines[k].qualified = some s.cfg.lines[k].activeHigh := by
  simp only [State.driveFaultActive, List.any_eq_true, Bool.and_eq_true, decide_eq_true_eq, State.lineActive, mem_allSixteen,
    true_and]

/-! ## Reading a take (R161) -/

theorem Tks.readable_some {t : Tks} {number : Byte} {i : EntryNo} {block : Nat} (h : t.find number = some i)
    (hb : block < t.dir[i].blocks) : t.readable number block = some i := by
  rw [Tks.readable, h, Option.filter_some, if_pos (decide_eq_true hb)]

theorem Tks.readable_none {t : Tks} {number : Byte} {block : Nat}
    (h : ∀ i, t.find number = some i → t.dir[i].blocks ≤ block) : t.readable number block = none := by
  rw [Tks.readable, Option.filter_eq_none_iff]
  intro i hi
  simpa using h i hi

theorem Tks.blockWords_length (t : Tks) (e : DirEntry) (j : Nat) : (t.blockWords e j).length = 64 := by
  rw [Tks.blockWords, List.length_map, countFrom_eq_range', List.length_range']

theorem Tks.getElem?_blockWords (t : Tks) (e : DirEntry) (b : Nat) {j : Nat} (h : j < 64) :
    (t.blockWords e b)[j]? = some (readWord t.mem ((t.chain e).getD b 0) j) := by
  rw [Tks.blockWords, countFrom_eq_range', List.getElem?_map, List.getElem?_range' h]
  simp

/-! ## The read of a lens table (R101) -/

/-- The sixteen pairs that LENS-TABLE read answers. -/
def shownPairs (t : List (Nat × Nat)) : List (Nat × Nat) := (t ++ List.replicate 16 (0, 0)).take 16

theorem shownPairs_length (t : List (Nat × Nat)) : (shownPairs t).length = 16 := by simp [shownPairs]

theorem shownPairs_take {t : List (Nat × Nat)} (h : t.length ≤ 16) : (shownPairs t).take t.length = t := by
  rw [shownPairs, List.take_take, Nat.min_eq_left h, List.take_left]

theorem shownPairs_drop {t : List (Nat × Nat)} {p : Nat × Nat} (h : p ∈ (shownPairs t).drop t.length) : p = (0, 0) := by
  rw [shownPairs, List.drop_take, List.drop_left] at h
  exact List.eq_of_mem_replicate (List.mem_of_mem_take h)

/-! ## A transfer byte by byte (12.5) -/

theorem natBytes_length (k n : Nat) : (natBytes k n).length = k := by
  induction k with
  | zero => rfl
  | succ k ih => rw [natBytes, List.length_cons, ih]

theorem foldl_bytes (bytes : List Byte) (a : Nat) :
    bytes.foldl (fun n b => 256 * n + b.toNat) a = a * 256 ^ bytes.length + bytesNat bytes := by
  unfold bytesNat
  induction bytes generalizing a with
  | nil => simp
  | cons b bytes ih =>
    rw [List.foldl_cons, List.foldl_cons, ih, ih (256 * 0 + b.toNat), List.length_cons, Nat.pow_succ]
    ring

theorem bytesNat_cons (b : Byte) (bytes : List Byte) :
    bytesNat (b :: bytes) = b.toNat * 256 ^ bytes.length + bytesNat bytes := by
  rw [bytesNat, List.foldl_cons, foldl_bytes]
  simp

/-- The low k bytes of n spell n modulo 256^k (R194). -/
theorem bytesNat_natBytes (k n : Nat) : bytesNat (natBytes k n) = n % 256 ^ k := by
  induction k with
  | zero => simp [natBytes, bytesNat, Nat.mod_one]
  | succ k ih =>
    rw [natBytes, bytesNat_cons, natBytes_length, ih, Nat.mod_pow_succ, BitVec.toNat_ofNat]
    ring

/-- The argument from byte k on is the number that its n bytes spell. -/
theorem argNat_of_drop {args rest : List Byte} {k n x : Nat} (h : args.drop k = natBytes n x ++ rest) :
    argNat args k n = x % 256 ^ n := by
  rw [argNat, h, List.take_left' (natBytes_length n x), bytesNat_natBytes]

theorem argWord_of_drop {args rest : List Byte} {k : Nat} {w : Word16} (h : args.drop k = wordBytes w ++ rest) :
    argWord args k = w := by
  rw [argWord, argNat_of_drop h]
  apply BitVec.eq_of_toNat_eq
  rw [BitVec.toNat_ofNat]
  have := w.isLt
  omega

/-- Fields of n bytes each: what stands from field j on. -/
theorem drop_flatMap {α β : Type} {f : α → List β} {n : Nat} (hf : ∀ x, (f x).length = n) (xs : List α) (j : Nat) :
    (xs.flatMap f).drop (n * j) = (xs.drop j).flatMap f := by
  induction j generalizing xs with
  | zero => rfl
  | succ j ih =>
    cases xs with
    | nil => simp
    | cons x xs =>
      rw [List.flatMap_cons, List.drop_succ_cons, ← ih xs, Nat.mul_succ, Nat.add_comm, ← List.drop_drop,
        List.drop_left' (hf x)]

/-- The bytes of field j behind a front. -/
theorem drop_field {α β : Type} {f : α → List β} {n : Nat} (hf : ∀ x, (f x).length = n) (front : List β) (xs : List α)
    {j : Nat} (h : j < xs.length) :
    (front ++ xs.flatMap f).drop (front.length + n * j) = f xs[j] ++ (xs.drop (j + 1)).flatMap f := by
  rw [List.drop_append, List.drop_eq_nil_of_le (Nat.le_add_right _ _), Nat.add_sub_cancel_left, List.nil_append,
    drop_flatMap hf, List.drop_eq_getElem_cons h, List.flatMap_cons]

theorem map_countFrom {α : Type} {n : Nat} {g : Nat → α} {xs : List α} (hn : xs.length = n)
    (h : ∀ (j : Nat) (hj : j < xs.length), g j = xs[j]) : (countFrom 0 n).map g = xs := by
  rw [countFrom_eq_range']
  refine List.ext_getElem (by simp [hn]) fun j hj hx => ?_
  rw [List.getElem_map, List.getElem_range', Nat.zero_add, Nat.one_mul, h j hx]

/-- The 64 words of TAKE-WRITE come back. -/
theorem argWords_spelled {front : List Byte} (hf : front.length = 3) {words : List Word32} (hw : words.length = 64) :
    argWords (front ++ words.flatMap fun w => natBytes 4 w.toNat) = words :=
  map_countFrom hw fun j hj => by
    have hdrop := drop_field (fun w : Word32 => natBytes_length 4 w.toNat) front words hj
    rw [hf] at hdrop
    rw [argNat_of_drop hdrop]
    apply BitVec.eq_of_toNat_eq
    rw [BitVec.toNat_ofNat]
    have := words[j].isLt
    omega

/-- The sixteen pairs of LENS-TABLE write come back. -/
theorem argPairs_spelled {front : List Byte} (hf : front.length = 2) {pairs : List (Word16 × Word16)}
    (hp : pairs.length = 16) : argPairs (front ++ pairs.flatMap fun p => wordBytes p.1 ++ wordBytes p.2) = pairs :=
  map_countFrom hp fun j hj => by
    have hdrop := drop_field (f := fun p : Word16 × Word16 => wordBytes p.1 ++ wordBytes p.2) (n := 4)
      (fun _ => rfl) front pairs hj
    rw [hf, List.append_assoc] at hdrop
    have hsecond := congrArg (List.drop 2) hdrop
    rw [List.drop_drop, List.drop_left' (show (wordBytes pairs[j].1).length = 2 from rfl)] at hsecond
    have hplace : 4 + 4 * j = 2 + 4 * j + 2 := by omega
    rw [argWord_of_drop hdrop, hplace, argWord_of_drop hsecond]

/-- A transfer that carries all argument bytes comes to its command. -/
theorem transferred_of {command : Byte} {args more : List Byte} {c : Instr} (hn : argumentCount command = some args.length)
    (hc : spelled command args = c) : transferred (command :: args ++ more) = (c, (command :: args).length) := by
  simp [transferred, hn, hc, List.take_left']

theorem argumentCount_none {b : Byte} (h : b ∉ commandBytes) : argumentCount b = none := by
  decide +revert

/-- The bytes that spell a command of the port come to that command. -/
theorem transferred_shiftedIn {c : Instr} {bytes : List Byte} (hw : c.wf = true) (h : shiftedIn c = some bytes)
    (more : List Byte) : transferred (bytes ++ more) = (c, bytes.length) := by
  cases c with
  | readStation | readPeer _ | readAxis _ | readInputs | readCounters | readTakedir | takeClose _ | takeErase _
  | lensTableRead _ | sendCue _ _ _ _ | readRequests | readSnapshot =>
    obtain rfl := Option.some.inj h
    exact transferred_of rfl rfl
  | takeRead number block =>
    obtain rfl := Option.some.inj h
    exact transferred_of rfl (congrArg (Instr.takeRead number) (argWord_of_drop (rest := []) rfl))
  | takeCreate number mask period length =>
    obtain rfl := Option.some.inj h
    refine transferred_of rfl (congrArg (Instr.takeCreate number mask period) ?_)
    rw [argNat_of_drop (x := length.toNat) (rest := []) rfl]
    apply BitVec.eq_of_toNat_eq
    rw [BitVec.toNat_ofNat]
    have := length.isLt
    omega
  | takeWrite number block words =>
    have hlen : words.length = 64 := of_decide_eq_true hw
    obtain rfl := Option.some.inj h
    refine transferred_of ?_ (congrArg₂ (Instr.takeWrite number) (argWord_of_drop rfl)
      (argWords_spelled (front := [number] ++ wordBytes block) rfl hlen))
    simp [natBytes_length, hlen, wordBytes]
    rfl
  | lensTableWrite axis count pairs =>
    have hlen : pairs.length = 16 := of_decide_eq_true hw
    obtain rfl := Option.some.inj h
    refine transferred_of ?_ (congrArg (Instr.lensTableWrite axis count)
      (argPairs_spelled (front := [axis, count]) rfl hlen))
    simp [natBytes_length, hlen, wordBytes]
    rfl
  | clearRequests bits =>
    obtain rfl := Option.some.inj h
    exact transferred_of rfl (congrArg Instr.clearRequests (argWord_of_drop (rest := []) rfl))
  | writeEnables mask =>
    obtain rfl := Option.some.inj h
    exact transferred_of rfl (congrArg Instr.writeEnables (argWord_of_drop (rest := []) rfl))
  | badCommand command =>
    obtain rfl := Option.some.inj h
    have hbad : command ∉ commandBytes := by simpa [Instr.wf] using hw
    simp [transferred, argumentCount_none hbad]
  | _ => exact absurd h nofun

theorem answered_shiftedIn {c : Instr} {bytes : List Byte} (h : shiftedIn c = some bytes) (t : State) :
    answered c t = t.responseBytes := by
  unfold answered
  split
  · exact absurd h nofun
  · rfl

/-! ## A whole transfer (R187) -/

section
variable {bytes : List Byte} {c : Instr} {n : Nat} {s t : State}

theorem transfer_eq (hcome : transferred bytes = (c, n)) (hexec : exec c s = .next t) : transfer bytes s
    = if bytes.length < n + (answered c t).length then exec (.shortTransfer true) t else .next t := by
  simp only [transfer, hcome, hexec]

theorem shiftedOut_eq (hreset : s.inReset = false) (hcome : transferred bytes = (c, n)) (hexec : exec c s = .next t) :
    shiftedOut bytes s = some ((List.replicate n fillByte ++ answered c t ++ List.replicate bytes.length fillByte).take
      bytes.length) := by
  simp only [shiftedOut, hreset, hcome, hexec, Bool.false_eq_true, if_false]

theorem take_fill (b m : Nat) (response : List Byte) :
    (List.replicate b fillByte ++ response ++ List.replicate (b + m) fillByte).take (b + m)
      = List.replicate b fillByte ++ (response ++ List.replicate m fillByte).take m := by
  rw [List.append_assoc, List.take_append, List.length_replicate, Nat.add_sub_cancel_left,
    List.take_of_length_le (by simp), List.take_append, List.take_append, List.take_replicate, List.take_replicate,
    Nat.min_eq_left (by omega), Nat.min_eq_left (by omega)]

end

/-- While the part is held in reset, only what holds it and lets it go acts (log 20). -/
theorem exec_reset {c : Instr} {s : State} (h : s.inReset = true) (hpower : c ≠ .powerOnReset) (hpin : ∀ n, c ≠ .pinReset n)
    (hrelease : c ≠ .resetRelease) : exec c s = .next s := by
  have hidle := inReset_idle h
  have hread (begun : Bool) : ¬ s.loadingRead begun = true := fun hl => absurd ((loadingRead_released hl).symm.trans h) nofun
  have hoperating : ¬ s.operating = true := fun hop => absurd (hidle.symm.trans hop) nofun
  have hframe (f : Frame) : frameStep f s = s := by
    rw [frameStep, receiveFrame, if_neg hoperating, if_neg hoperating, if_neg fun hf => absurd (hf.2.symm.trans h) nofun]
  have hcue (kind : CueKind) (w : Wire) : cueStep kind w s = s := by
    rw [cueStep, hframe, ite_self]
  have hport {always : Bool} {f : State → State} := portCommand_reset (always := always) (f := f) h
  cases c with
  | powerOnReset => exact absurd rfl hpower
  | pinReset n => exact absurd rfl (hpin n)
  | resetRelease => exact absurd rfl hrelease
  | configReadStart => exact congrArg Host.Outcome.next (if_neg (hread false))
  | configReadDone => exact congrArg Host.Outcome.next (if_neg (hread true))
  | controlPeriodBoundary => exact congrArg Host.Outcome.next ((if_neg hoperating).trans (if_pos h))
  | handwheelCount => exact congrArg Host.Outcome.next (if_pos h)
  | frameStart => exact congrArg Host.Outcome.next (if_neg hoperating)
  | attemptEnd => exact congrArg Host.Outcome.next (event_idle hidle)
  | encoderRead i samples =>
    refine congrArg Host.Outcome.next ?_
    rw [encoderStep, dwellStep, windowStep, eventIf_idle hidle, eventIf_idle hidle, eventIf_idle hidle]
  | qualifiedEdge | estopEdge | demandPeriodBoundary | statusPeriod | axisPeriod | probeDue | statusEscalation
  | checkWindowEnd | livenessTimeout | demandTimeout | reportStale | dwellEnd | windowEnd | seekStall | blocked
  | brakeTimer | driveOnBoundary | releaseTimer | holdLimit | endReached | sampleAppend =>
    exact congrArg Host.Outcome.next (eventIf_idle hidle)
  | stopFrame | statusFrame | demandFrame | axisFrame | unknownClass => exact congrArg Host.Outcome.next (hframe _)
  | armRecord | armPlay | go | halt | disarm | resume | erase | calibrate => exact congrArg Host.Outcome.next (hcue _ _)
  | readStation | readPeer | readAxis | readInputs | readCounters | readTakedir | takeRead | takeCreate | takeWrite | takeClose
  | takeErase | lensTableWrite | lensTableRead | sendCue | readRequests | clearRequests | writeEnables | readSnapshot
  | badCommand | shortTransfer =>
    exact congrArg Host.Outcome.next hport

/-! ## Fallback (R48) -/

theorem State.inFallback_slot {s : State} {k : OutNo} {st : StationNo} {slot : SlotNo} (h : s.cfg.outs[k].mapping = .slot st slot) :
    s.inFallback k = !s.present st := by
  unfold State.inFallback
  rw [h]

theorem State.inFallback_other {s : State} {k : OutNo} (h : ∀ st slot, s.cfg.outs[k].mapping = .slot st slot → False) :
    s.inFallback k = false := by
  unfold State.inFallback
  split
  · next st slot hmapping => exact absurd hmapping (h st slot)
  · rfl

end Sys2Proof.Machine

open Sys2Proof Sys2Proof.Machine

/-- Settles O56: each read is a `respond`, and what it answers is read off the report it carries. -/
theorem portReadsChangeNothing : Obligations.PortReadsChangeNothing := by
  intro s answer hop hanswer
  obtain rfl : answer = fun r => respond r s := funext hanswer
  have hport {always : Bool} {f : State → State} := portCommand_operating (always := always) (f := f) hop
  refine ⟨⟨stationReport s, congrArg Host.Outcome.next hport, operating_loaded hop, rfl, rfl, rfl, rfl, rfl, rfl, rfl, rfl, rfl,
    rfl, rfl, rfl, rfl, rfl, rfl, fun z => getElem_ofFn_fin _ z, fun k => ?_⟩, fun st => ?_, fun b hb => ?_, fun i => ?_,
    fun b hb => ?_, congrArg Host.Outcome.next hport, fun number block => ⟨fun i hi hb => ?_, fun hnone => ?_⟩,
    fun i => ⟨fun hk => ?_, fun hk => ?_⟩, fun b hb => ?_, _, _, congrArg Host.Outcome.next hport, fun k => ?_⟩
  · refine (getElem_ofFn_fin _ k).trans (Prod.ext rfl ?_)
    show s.inFallback k = _
    split
    · next st slot hmapping =>
      rw [State.inFallback_slot hmapping, State.present]
      exact (decide_not ..).symm
    · next hmapping => exact State.inFallback_other hmapping
  · exact congrArg Host.Outcome.next (hport.trans (readPeerWork_ofNat st s))
  · exact congrArg Host.Outcome.next (hport.trans (if_neg (Nat.not_le.mpr hb)))
  · exact ⟨axisView i s, congrArg Host.Outcome.next (hport.trans (readAxisWork_ofNat i s)), rfl, rfl, rfl, rfl, rfl, rfl, rfl,
      rfl, rfl, rfl, driveFaultActive_iff s i⟩
  · exact congrArg Host.Outcome.next (hport.trans (if_neg (Nat.not_le.mpr hb)))
  · refine ⟨_, congrArg Host.Outcome.next (hport.trans ?_), Tks.blockWords_length s.tks s.tks.dir[i] block.toNat,
      fun j hj => Tks.getElem?_blockWords _ _ _ hj⟩
    rw [takeReadWork, Tks.readable_some hi hb]
  · refine congrArg Host.Outcome.next (hport.trans ?_)
    rw [takeReadWork, Tks.readable_none hnone]
  · refine ⟨shownPairs s.axes[i].lens.table, congrArg Host.Outcome.next (hport.trans ?_), shownPairs_length _,
      shownPairs_take, fun p => shownPairs_drop⟩
    rw [lensTableReadWork, lensAxis_ofNat hk]
    rfl
  · refine congrArg Host.Outcome.next (hport.trans ?_)
    rw [lensTableReadWork, lensAxis_ofNat_none hk]
  · refine congrArg Host.Outcome.next (hport.trans ?_)
    rw [lensTableReadWork, lensAxis_none hb]
  · rw [BitVec.getLsbD_and, BitVec.getLsbD_and, getLsbD_flagMask]
    exact ⟨rfl, rfl⟩

/-- Settles O57: the three commands answer their report and write the cleared fields. -/
theorem readAndClearCommands : Obligations.ReadAndClearCommands := by
  intro s hop
  have hport {always : Bool} {f : State → State} := portCommand_operating (always := always) (f := f) hop
  refine ⟨⟨readInputsWork s, _, _, _, congrArg Host.Outcome.next hport, fun k => ⟨?_, ?_, ?_, readInputsWork_lines s k⟩, rfl⟩,
    ⟨readCountersWork s, counterReport s, congrArg Host.Outcome.next hport, rfl, rfl, rfl,
      fun i => ⟨?_, ?_, getElem_ofFn_fin _ i⟩, rfl⟩, congrArg Host.Outcome.next hport⟩
  · exact (BitVec.getLsbD_ofFnLE _ _).trans (dif_pos k.isLt)
  · exact (BitVec.getLsbD_ofFnLE _ _).trans (dif_pos k.isLt)
  · exact (BitVec.getLsbD_ofFnLE _ _).trans (dif_pos k.isLt)
  · fin_cases i <;> rfl
  · fin_cases i <;> rfl

/-- Settles O60: an ended transfer only counts, a busy port answers BUSY, and the bytes of a command come to it. -/
theorem portFailuresAreCounted : Obligations.PortFailuresAreCounted := by
  refine ⟨fun s c hreset => ⟨fun b hb => ?_, congrArg Host.Outcome.next ?_, congrArg Host.Outcome.next ?_, fun hload hc => ?_,
    fun bytes more t hw hshift hexec => ?_, fun command args n hn hlen => ?_⟩, fun u bytes hu => if_pos hu,
    fun u c hu hpower hpin hrelease => ?_⟩
  · refine congrArg Host.Outcome.next ((portCommand_always hreset).trans (if_neg ?_))
    simpa using hb
  · rw [portCommand_always hreset, shortTransferWork, Bool.or_false]
    rfl
  · rw [portCommand_always hreset, shortTransferWork, Bool.or_true]
    rfl
  · rcases hc with ⟨_, rfl⟩ | ⟨_, rfl⟩ | rfl | rfl | ⟨_, _, rfl⟩ | ⟨_, _, _, _, rfl⟩ | ⟨_, _, _, rfl⟩ | ⟨_, rfl⟩ | ⟨_, rfl⟩
      | ⟨_, _, _, rfl⟩ | ⟨_, rfl⟩ | ⟨_, _, _, _, rfl⟩ <;>
    exact congrArg Host.Outcome.next (portCommand_busy hreset hload)
  · have hcome := transferred_shiftedIn hw hshift more
    have hrun : transfer (bytes ++ more) s
        = if more.length < t.responseBytes.length then exec (.shortTransfer true) t else .next t := by
      rw [transfer_eq hcome hexec, answered_shiftedIn hshift, List.length_append]
      simp only [Nat.add_lt_add_iff_left]
    refine ⟨hcome, fun hle => hrun.trans (if_neg (Nat.not_lt.mpr hle)), fun hlt => hrun.trans (if_pos hlt), ?_⟩
    rw [shiftedOut_eq hreset hcome hexec, answered_shiftedIn hshift, List.length_append, take_fill]
    rfl
  · have hcome : transferred (command :: args) = (.shortTransfer false, args.length + 1) := by
      rw [transferred, hn]
      exact if_pos hlen
    have hexec : exec (.shortTransfer false) s = .next (shortTransferWork false s) :=
      congrArg Host.Outcome.next (portCommand_always hreset)
    refine ⟨?_, ?_⟩
    · rw [transfer_eq hcome hexec, hexec]
      exact if_neg (Nat.lt_irrefl _)
    · rw [shiftedOut_eq hreset hcome hexec]
      exact congrArg some ((take_fill (args.length + 1) 0 []).trans (List.append_nil _))
  · exact exec_reset hu hpower hpin hrelease
end

section
/-! PROOFS. What the take commands of the service port leave in the store (R148 to R151, R157 to R160): O58. -/

namespace Sys2Proof.Machine

/-! ## Request flags -/

theorem Svp.raise_set {flag : Nat} (h : flag < 16) (p : Svp) : (p.raise flag).flags.getLsbD flag = true := by
  simp [Svp.raise, h]

theorem Svp.raiseIf_set {cond : Bool} {flag : Nat} (hc : cond = true) (h : flag < 16) (p : Svp) :
    (p.raiseIf cond flag).flags.getLsbD flag = true := by
  subst hc
  exact p.raise_set h

/-- A change of an entry's state sets TAKE-CHANGE (R150). -/
theorem setStore_takeChange {t : Tks} {s : State} {i : EntryNo} (h : t.dir[i].state ≠ s.tks.dir[i].state) :
    (setStore t s).svp.flags.getLsbD flagTakeChange = true :=
  Svp.raiseIf_set (List.any_eq_true.mpr ⟨i, mem_allSixteen i, decide_eq_true h⟩) (by decide) _

/-! ## The directory (R150) -/

theorem pairwise_allSixteen : allSixteen.Pairwise (· < ·) := by decide

/-- The first entry found is the lowest. -/
theorem find_lowest {p : Fin 16 → Bool} {i : Fin 16} (h : allSixteen.find? p = some i) : ∀ j < i, p j = false := by
  obtain ⟨-, front, rest, hall, hfront⟩ := List.find?_eq_some_iff_append.mp h
  intro j hj
  have hmem : j ∈ front ++ i :: rest := hall ▸ mem_allSixteen j
  have hrest : ∀ k ∈ rest, i < k :=
    (List.pairwise_cons.mp (List.pairwise_append.mp (hall ▸ pairwise_allSixteen)).2.1).1
  rcases List.mem_append.mp hmem with hmem | hmem
  · simpa using hfront j hmem
  · rcases List.mem_cons.mp hmem with rfl | hmem
    · exact absurd hj (lt_irrefl _)
    · exact absurd (hrest j hmem) (lt_asymm hj)

section
variable {t : Tks}

theorem Tks.find_isSome_iff {number : Byte} : (t.find number).isSome = true
    ↔ ∃ i : EntryNo, t.dir[i].state ≠ .empty ∧ t.dir[i].number = number := by
  rw [Tks.find, List.find?_isSome]
  simp only [Bool.and_eq_true, decide_eq_true_eq, mem_allSixteen, true_and]

theorem Tks.find_number {number : Byte} {i : EntryNo} (h : t.find number = some i) : t.dir[i].number = number := by
  have := List.find?_some h
  simp only [Bool.and_eq_true, decide_eq_true_eq] at this
  exact this.2

theorem Tks.lowestEmpty_lowest {i j : EntryNo} (h : t.lowestEmpty = some i) (hj : j < i) : t.dir[j].state ≠ .empty := by
  simpa using find_lowest h j hj

theorem Tks.lowestEmpty_some (h : 0 < t.emptyCount) : ∃ i, t.lowestEmpty = some i := by
  obtain ⟨i, hi⟩ := List.exists_mem_of_length_pos h
  obtain ⟨-, hempty⟩ := List.mem_filter.mp hi
  exact Option.isSome_iff_exists.mp (List.find?_isSome.mpr ⟨i, mem_allSixteen i, hempty⟩)

theorem Tks.openUpload_some {number : Byte} {i : EntryNo} {written : Nat} (hu : t.upload = some (number, written))
    (hi : t.find number = some i) : t.openUpload number = some (i, written) := by
  simp only [Tks.openUpload, hu, hi, if_true]

theorem Tks.openUpload_none {number : Byte} (h : t.upload.map Prod.fst ≠ some number ∨ t.find number = none) :
    t.openUpload number = none := by
  unfold Tks.openUpload
  split
  · next u j hu hj =>
    rcases h with h | h
    · refine if_neg fun hn => h ?_
      rw [hu, Option.map_some, hn]
    · exact absurd (hj.symm.trans h) nofun
  · rfl

end

/-! ## Chaining blocks (R148) -/

theorem look_chainUp_next {links : List (Nat × Nat)} {bs : List Nat} {k a b : Nat} (h : bs.Nodup) (ha : bs[k]? = some a)
    (hb : bs[k + 1]? = some b) : look (chainUp links bs) a = some b := by
  induction bs generalizing links k with
  | nil => exact absurd ha nofun
  | cons x bs ih =>
    cases bs with
    | nil => exact absurd hb (by simp)
    | cons y rest =>
      cases k with
      | zero =>
        obtain rfl := Option.some.inj ha
        obtain rfl := Option.some.inj hb
        exact look_chainUp_head h
      | succ k => exact ih (links := put links x y) (List.nodup_cons.mp h).2 ha hb

theorem look_chainUp_other {links : List (Nat × Nat)} {bs : List Nat} {x : Nat} (h : x ∉ bs.dropLast) :
    look (chainUp links bs) x = look links x := by
  induction bs generalizing links with
  | nil => rfl
  | cons a bs ih =>
    cases bs with
    | nil => rfl
    | cons b rest =>
      rw [List.dropLast_cons_cons, List.mem_cons, not_or] at h
      rw [chainUp, ih h.2, look_put, if_neg (Ne.symm h.1)]

/-! ## The words of the store (R147, R149) -/

/-- A byte of one of the cleared blocks is 0, and every other byte is as before. -/
theorem readByte_zeroBlocks (m : List Host.Cell) (bs : List Nat) (a : Nat) :
    readByte (bs.foldl zeroBlock m) a = if a / 256 ∈ bs then 0 else readByte m a := by
  induction bs generalizing m with
  | nil => rw [List.foldl_nil, if_neg List.not_mem_nil]
  | cons b bs ih =>
    rw [List.foldl_cons, ih, readByte_zeroBlock]
    have hb : 256 * b ≤ a ∧ a < 256 * b + 256 ↔ a / 256 = b := by omega
    simp only [hb, List.mem_cons]
    by_cases hmem : a / 256 ∈ bs <;> by_cases heq : a / 256 = b <;> simp [hmem, heq]

/-- A word follows its four bytes. -/
theorem readWord_congr {m m' : List Host.Cell} {b w : Nat}
    (h : ∀ a, wordAt b w ≤ a → a < wordAt b w + 4 → readByte m' a = readByte m a) : readWord m' b w = readWord m b w := by
  simp only [readWord]
  rw [h _ (Nat.le_refl _) (by omega), h (wordAt b w + 1) (by omega) (by omega), h (wordAt b w + 2) (by omega) (by omega),
    h (wordAt b w + 3) (by omega) (by omega)]

/-- A word whose bytes are 0 is 0. -/
theorem readWord_zero {m : List Host.Cell} {b w : Nat} (h : ∀ a, wordAt b w ≤ a → a < wordAt b w + 4 → readByte m a = 0) :
    readWord m b w = 0 :=
  (readWord_congr (m := []) fun a ha hb => (h a ha hb).trans rfl).trans
    (show (0#8 ++ 0#8 ++ 0#8 ++ 0#8 : Word32) = 0 from rfl)

theorem readWord_zeroBlocks {m : List Host.Cell} {bs : List Nat} {b w : Nat} (hb : b ∈ bs) (hw : w < 64) :
    readWord (bs.foldl zeroBlock m) b w = 0 :=
  readWord_zero fun a ha hlt => by
    have hblock : a / 256 = b := by unfold wordAt at ha hlt; omega
    rw [readByte_zeroBlocks, if_pos (hblock ▸ hb)]

/-- A byte outside the words written is as before. -/
theorem readByte_writeWords_other {m : List Host.Cell} {b w a : Nat} {vs : List Word32}
    (h : a < wordAt b w ∨ wordAt b w + 4 * vs.length ≤ a) : readByte (writeWords m b w vs) a = readByte m a := by
  induction vs generalizing m w with
  | nil => rfl
  | cons v vs ih =>
    unfold wordAt at h ih
    rw [List.length_cons] at h
    rw [writeWords, ih (by omega), readByte_writeWord_other v (by unfold wordAt; omega)]

/-- A word written reads as it was written. -/
theorem readWord_writeWords {m : List Host.Cell} {b w j : Nat} {vs : List Word32} (hj : j < vs.length) :
    readWord (writeWords m b w vs) b (w + j) = vs[j] := by
  induction vs generalizing m w j with
  | nil => exact absurd hj (Nat.not_lt_zero _)
  | cons v vs ih =>
    rw [writeWords]
    cases j with
    | zero =>
      refine (readWord_congr fun a ha hlt => readByte_writeWords_other (.inl ?_)).trans (readWord_writeWord m b w v)
      unfold wordAt at hlt ⊢
      omega
    | succ j =>
      rw [show w + (j + 1) = w + 1 + j by omega]
      exact ih (Nat.lt_of_succ_lt_succ hj)

/-! ## The samples of a take (R151, R160) -/

section
variable {t : Tks} {e : DirEntry}

theorem Tks.samplesAll_iff {ok : AxisNo → Int → Bool} {n : Nat} : t.samplesAll e ok n = true
    ↔ ∀ k < n, ∀ p ∈ e.axes.zip (t.sample e k), ok p.1 p.2.toInt = true := by
  induction n with
  | zero => simp [Tks.samplesAll]
  | succ n ih =>
    rw [Tks.samplesAll, Bool.and_eq_true, ih, List.all_eq_true]
    constructor
    · rintro ⟨hlast, hrest⟩ k hk
      rcases Nat.lt_succ_iff_lt_or_eq.mp hk with hk | rfl
      · exact hrest k hk
      · exact hlast
    · intro h
      exact ⟨h n (Nat.lt_succ_self n), fun k hk => h k (Nat.lt_succ_of_lt hk)⟩

theorem Tks.sample_length (k : Nat) : (t.sample e k).length = e.axes.length := by
  rw [Tks.sample, List.length_map, countFrom_eq_range', List.length_range']

/-- The value of listed axis j in sample k (R151). -/
def Tks.valueOf (t : Tks) (e : DirEntry) (k j : Nat) : Int := ((t.sample e k).getD j 0).toInt

theorem Tks.valueOf_of_some {k j : Nat} {v : Int} (h : ((t.sample e k).map BitVec.toInt)[j]? = some v) :
    v = t.valueOf e k j := by
  rw [List.getElem?_map, Option.map_eq_some_iff] at h
  obtain ⟨x, hx, rfl⟩ := h
  rw [Tks.valueOf, List.getD_eq_getElem?_getD, hx]
  rfl

/-- An axis's values over the first n samples: the first sample, and a minimum and a maximum that are met (R160). -/
structure Tks.Ranges (t : Tks) (e : DirEntry) (n j : Nat) (x : AxisStat) : Prop where
  first : x.firstSample = t.valueOf e 0 j
  within : ∀ k < n, x.minimum ≤ t.valueOf e k j ∧ t.valueOf e k j ≤ x.maximum
  minimum : ∃ k < n, x.minimum = t.valueOf e k j
  maximum : ∃ k < n, x.maximum = t.valueOf e k j

theorem Tks.Ranges.add {n j : Nat} {x : AxisStat} (h : t.Ranges e n j x) :
    t.Ranges e (n + 1) j (x.add (t.valueOf e n j)) where
  first := h.first
  within k hk := by
    rcases Nat.lt_succ_iff_lt_or_eq.mp hk with hk | rfl
    · exact ⟨min_le_of_left_le (h.within k hk).1, le_max_of_le_left (h.within k hk).2⟩
    · exact ⟨min_le_right _ _, le_max_right _ _⟩
  minimum := by
    obtain ⟨k, hk, hmin⟩ := h.minimum
    rcases min_choice x.minimum (t.valueOf e n j) with hle | hle
    · exact ⟨k, Nat.lt_succ_of_lt hk, hle.trans hmin⟩
    · exact ⟨n, Nat.lt_succ_self n, hle⟩
  maximum := by
    obtain ⟨k, hk, hmax⟩ := h.maximum
    rcases max_choice x.maximum (t.valueOf e n j) with hle | hle
    · exact ⟨k, Nat.lt_succ_of_lt hk, hle.trans hmax⟩
    · exact ⟨n, Nat.lt_succ_self n, hle⟩

/-- The per-axis values formed over at least one sample (R160). -/
theorem Tks.statsOver_ranges (n : Nat) : ∃ l, t.statsOver e (n + 1) = some l ∧ l.length = e.axes.length
    ∧ ∀ (j : Nat) (x : AxisStat), l[j]? = some x → t.Ranges e (n + 1) j x := by
  induction n with
  | zero =>
    refine ⟨_, rfl, by rw [List.length_map, List.length_map, Tks.sample_length], fun j x hx => ?_⟩
    rw [List.getElem?_map, Option.map_eq_some_iff] at hx
    obtain ⟨v, hv, rfl⟩ := hx
    obtain rfl := Tks.valueOf_of_some hv
    refine ⟨rfl, fun k hk => ?_, ⟨0, Nat.one_pos, rfl⟩, ⟨0, Nat.one_pos, rfl⟩⟩
    obtain rfl := Nat.lt_one_iff.mp hk
    exact ⟨le_refl _, le_refl _⟩
  | succ n ih =>
    obtain ⟨l, hl, hlen, hranges⟩ := ih
    refine ⟨(l.zip ((t.sample e (n + 1)).map BitVec.toInt)).map fun p => p.1.add p.2, ?_, ?_, fun j x hx => ?_⟩
    · rw [Tks.statsOver, hl]
      rfl
    · rw [List.length_map, List.length_zip, List.length_map, Tks.sample_length, hlen, Nat.min_self]
    · rw [List.getElem?_map, Option.map_eq_some_iff] at hx
      obtain ⟨⟨y, v⟩, hp, rfl⟩ := hx
      obtain ⟨hy, hv⟩ := List.getElem?_zip_eq_some.mp hp
      obtain rfl := Tks.valueOf_of_some hv
      exact (hranges j y hy).add

end

/-! ## TAKE-CREATE (R158) -/

section
variable {s : State} {number mask period : Byte} {length : BitVec 24}

theorem periodOf_isNone {n : Nat} : (periodOf n).isNone = true ↔ 2 < n := by
  match n with
  | 0 | 1 | 2 | n + 3 => simp [periodOf]

theorem validNumber_iff : validNumber number = true ↔ 1 ≤ number.toNat ∧ number.toNat ≤ 250 := by
  rw [validNumber, Bool.and_eq_true, decide_eq_true_iff, decide_eq_true_iff]

theorem badCreate_iff {len : Nat} : s.badCreate number mask period len = true
    ↔ number.toNat < 1 ∨ 250 < number.toNat ∨ maskAxes mask = [] ∨ (∃ i ∈ maskAxes mask, s.cfg.axes[i].kind = .unused)
      ∨ 2 < period.toNat ∨ len = 0 ∨ 2048 < blocksFor len (maskAxes mask).length := by
  have hnumber : (!validNumber number) = true ↔ number.toNat < 1 ∨ 250 < number.toNat := by
    rw [Bool.not_eq_true', ← Bool.not_eq_true, validNumber_iff]
    omega
  have hunused (i : AxisNo) : (!s.used i) = true ↔ s.cfg.axes[i].kind = .unused := by
    rw [Bool.not_eq_true', ← Bool.not_eq_true, used_iff, not_not]
  rw [State.badCreate, Bool.or_eq_true, Bool.or_eq_true, Bool.or_eq_true, Bool.or_eq_true, Bool.or_eq_true, hnumber,
    List.isEmpty_iff, List.any_eq_true, periodOf_isNone, decide_eq_true_iff, decide_eq_true_iff]
  simp only [hunused, or_assoc]

theorem reserved_held (s : State) : s.reserved.isSome.toNat
    = if s.tkq.state = .armed ∧ s.tkq.mode = some .record then 1 else 0 := by
  rw [State.reserved]
  split <;> rfl

theorem reserved_iff : s.reserved = some number
    ↔ s.tkq.state = .armed ∧ s.tkq.mode = some .record ∧ s.tkq.number = number := by
  simp [State.reserved, and_assoc]

/-- A take of that number exists or is reserved. -/
def State.knows (s : State) (number : Byte) : Prop := (s.tks.find number).isSome ∨ s.reserved = some number

theorem knows_iff : s.knows number ↔ (∃ i : EntryNo, s.tks.dir[i].state ≠ .empty ∧ s.tks.dir[i].number = number)
    ∨ s.tkq.state = .armed ∧ s.tkq.mode = some .record ∧ s.tkq.number = number := by
  rw [State.knows, Tks.find_isSome_iff, reserved_iff]

theorem createResult_busy {len : Nat} (h : s.tks.upload ≠ none) : s.createResult number mask period len = some .busy :=
  if_pos (Option.isSome_iff_ne_none.mpr h)

theorem createResult_noUpload {len : Nat} (h : s.tks.upload = none) : s.createResult number mask period len
    = if s.badCreate number mask period len then some .badArgs
      else if (s.tks.find number).isSome ∨ s.reserved = some number then some .takeExists
      else if s.tks.emptyCount ≤ s.reserved.isSome.toNat then some .dirFull
      else if s.tks.free.length < blocksFor len (maskAxes mask).length then some .noSpace
      else none :=
  if_neg (by simp [h])

theorem takeCreateWork_refused {code : Result} (h : s.createResult number mask period length.toNat = some code) :
    takeCreateWork number mask period length s = formAttention (respond (.refused code) s) := by
  rw [takeCreateWork, h]
  rfl

theorem takeCreateWork_ok {i : EntryNo} (h : s.createResult number mask period length.toNat = none)
    (hi : s.tks.lowestEmpty = some i) : takeCreateWork number mask period length s = formAttention (respond .ok (setStore
      (s.tks.create i number (maskAxes mask) ((periodOf period.toNat).getD 10) length.toNat) s)) := by
  rw [takeCreateWork, h, answer, createNow, hi]

theorem takeCreateWork_frame : takeCreateWork number mask period length s = { s with
    tks := (takeCreateWork number mask period length s).tks
    svp := (takeCreateWork number mask period length s).svp } := by
  unfold takeCreateWork answer createNow
  split
  · rfl
  · split <;> rfl

end

/-! ## TAKE-WRITE, TAKE-CLOSE, TAKE-ERASE (R157, R159, R160) -/

section
variable {s : State} {number : Byte} {i : EntryNo} {written : Nat}

theorem takeWriteWork_ok {block : Word16} {words : List Word32} (h : s.tks.openUpload number = some (i, written))
    (hb : block.toNat < s.tks.dir[i].blocks) (hw : block.toNat ≤ written) : takeWriteWork number block words s
      = respond .ok (setStore (s.tks.writeBlock i number written block.toNat words) s) := by
  simp only [takeWriteWork, h, if_pos (And.intro hb hw)]

theorem takeWriteWork_refused {block : Word16} {words : List Word32} (h : s.tks.openUpload number = some (i, written))
    (hb : s.tks.dir[i].blocks ≤ block.toNat ∨ written < block.toNat) :
    takeWriteWork number block words s = respond (.refused .badArgs) s := by
  simp only [takeWriteWork, h]
  exact if_neg (by omega)

theorem closable_iff {a : AxisNo} {x : Int} : s.closable a x = true ↔ if s.cfg.axes[a].kind = .lens then 0 ≤ x ∧ x ≤ 65535
    else -(2 ^ 30) ≤ x ∧ x ≤ 2 ^ 30 := by
  by_cases h : s.cfg.axes[a].kind = .lens
  · rw [State.closable, if_pos ((isLens_iff s a).mpr h), if_pos h, decide_eq_true_iff]
  · rw [State.closable, if_neg fun hl => h ((isLens_iff s a).mp hl), if_neg h, decide_eq_true_iff]

theorem takeCloseWork_ok (h : s.tks.openUpload number = some (i, written)) (hw : s.tks.dir[i].blocks ≤ written)
    (hall : s.tks.samplesAll s.tks.dir[i] s.closable s.tks.dir[i].length = true) :
    takeCloseWork number s = formAttention (respond .ok (setStore (s.tks.closeUpload i) s)) := by
  simp only [takeCloseWork, State.closeEntry, h, if_pos (And.intro hw hall)]

theorem takeCloseWork_refused (h : s.tks.openUpload number = some (i, written))
    (hbad : ¬ (s.tks.dir[i].blocks ≤ written ∧ s.tks.samplesAll s.tks.dir[i] s.closable s.tks.dir[i].length = true)) :
    takeCloseWork number s = respond (.refused .badArgs) s := by
  simp only [takeCloseWork, State.closeEntry, h, if_neg hbad]

theorem erasable_some (h1 : 1 ≤ number.toNat) (h250 : number.toNat ≤ 250) (hi : s.tks.find number = some i) :
    s.erasable number = some i := (if_pos (validNumber_iff.mpr ⟨h1, h250⟩)).trans hi

theorem erasable_none (h : number.toNat < 1 ∨ 250 < number.toNat ∨ s.tks.find number = none) : s.erasable number = none := by
  rw [State.erasable]
  split
  · next hv =>
    have := validNumber_iff.mp hv
    exact (h.resolve_left (by omega)).resolve_left (by omega)
  · rfl

theorem erasable_find (h : s.erasable number = some i) : validNumber number = true ∧ s.tks.find number = some i := by
  unfold State.erasable at h
  split at h
  · next hv => exact ⟨hv, h⟩
  · exact absurd h nofun

theorem takeEraseWork_ok (hi : s.erasable number = some i) (huse : ¬ s.inUse number = true) :
    takeEraseWork number s = formAttention (respond .ok (setStore (s.tks.eraseEntry i) s)) := by
  simp only [takeEraseWork, hi, if_neg huse]

theorem Tks.closeUpload_entry (t : Tks) (i : EntryNo) : (t.closeUpload i).dir[i]
    = { t.dir[i] with state := .complete, stats := t.statsOver t.dir[i] t.dir[i].length } :=
  (getElem_set_fin _ i i _).trans (if_pos rfl)

theorem inUse_iff : s.inUse number = true ↔ number = s.tkq.number ∧ s.tkq.state ≠ .idle ∧ s.tkq.state ≠ .refused := by
  simp [State.inUse, and_assoc]

theorem Tks.eraseEntry_look (t : Tks) (i : EntryNo) (b : Nat) :
    look (t.eraseEntry i).links b = if b ∈ t.chain t.dir[i] then none else look t.links b :=
  look_dropAll _ _ _

/-- An erased take is gone from the directory (R157). -/
theorem Tks.eraseEntry_state {t : Tks} {i : EntryNo} : ((t.eraseEntry i).dir[i]).state = .empty := by
  have : (t.eraseEntry i).dir = t.dir.set i {} := rfl
  rw [this, getElem_set_fin, if_pos rfl]

end

end Sys2Proof.Machine

open Sys2Proof Sys2Proof.Machine

/-- Settles O58: each command is its checks in order, then one operation of the store. -/
theorem takeCommandsFollowTheirChecks : Obligations.TakeCommandsFollowTheirChecks := by
  intro s hop
  have hport {always : Bool} {f : State → State} := portCommand_operating (always := always) (f := f) hop
  refine ⟨fun number mask period length axes need held known haxes hneed hheld hknown => ?_,
    fun number block words hnone => ?_, fun number block words i written hlen hu hi => ?_,
    fun number i e written fits value hu hi he hfits hvalue => ?_, fun number => ?_⟩
  · subst haxes
    obtain rfl : need = blocksFor length.toNat (maskAxes mask).length := hneed
    rw [← reserved_held] at hheld
    subst hheld
    obtain rfl : known = s.knows number := propext (hknown.trans knows_iff.symm)
    refine ⟨takeCreateWork number mask period length s, congrArg Host.Outcome.next hport, takeCreateWork_frame,
      fun hbusy => ?_, fun hfree => ⟨fun hbad => ?_, fun h1 h250 hne hused hper hlen hsize => ?_⟩⟩
    · rw [takeCreateWork_refused (createResult_busy hbusy)]
      exact ⟨rfl, rfl⟩
    · rw [takeCreateWork_refused ((createResult_noUpload hfree).trans (if_pos (badCreate_iff.mpr hbad)))]
      exact ⟨rfl, rfl⟩
    · have hgood : ¬ s.badCreate number mask period length.toNat = true := by
        rw [badCreate_iff]
        rintro (h | h | h | ⟨i, hi, h⟩ | h | h | h)
        · exact absurd h1 (Nat.not_le.mpr h)
        · exact absurd h250 (Nat.not_le.mpr h)
        · exact hne h
        · exact hused i hi h
        · exact absurd hper (Nat.not_le.mpr h)
        · exact hlen h
        · exact absurd hsize (Nat.not_le.mpr h)
      have hresult := (createResult_noUpload (number := number) (mask := mask) (period := period) (len := length.toNat)
        hfree).trans (if_neg hgood)
      refine ⟨fun hk => ?_, fun hk hdir => ?_, fun hk hdir hspace => ?_, fun taken hk hdir hspace htaken => ?_⟩
      · rw [takeCreateWork_refused (hresult.trans (if_pos hk))]
        exact ⟨rfl, rfl⟩
      · rw [takeCreateWork_refused (hresult.trans ((if_neg hk).trans (if_pos hdir)))]
        exact ⟨rfl, rfl⟩
      · rw [takeCreateWork_refused (hresult.trans
          ((if_neg hk).trans ((if_neg (Nat.not_le.mpr hdir)).trans (if_pos hspace))))]
        exact ⟨rfl, rfl⟩
      · obtain ⟨i, hi⟩ := Tks.lowestEmpty_some (Nat.lt_of_le_of_lt (Nat.zero_le _) hdir)
        rw [takeCreateWork_ok (hresult.trans ((if_neg hk).trans ((if_neg (Nat.not_le.mpr hdir)).trans
          (if_neg (Nat.not_lt.mpr hspace))))) hi]
        subst htaken
        refine ⟨rfl, setStore_takeChange (i := i) ?_, rfl, fun hnodup => ⟨fun k a b => look_chainUp_next hnodup,
          fun b => look_chainUp_other⟩, fun b hb j hj => readWord_zeroBlocks hb hj,
          fun a ha => (readByte_zeroBlocks _ _ a).trans (if_neg ha), i, Tks.lowestEmpty_state hi,
          fun j hj => Tks.lowestEmpty_lowest hi hj, ?_⟩
        · rw [Tks.lowestEmpty_state hi]
          simp [Tks.create]
        · have hhead : (s.tks.free.take (blocksFor length.toNat (maskAxes mask).length)).head? = s.tks.free.head? := by
            rw [List.head?_take, if_neg (Nat.one_le_iff_ne_zero.mp (blocksFor_pos
              ⟨List.length_pos_iff.mpr hne, List.length_filter_le _ _⟩ (Nat.one_le_iff_ne_zero.mpr hlen)))]
          show s.tks.create i number (maskAxes mask) ((periodOf period.toNat).getD 10) length.toNat = _
          rw [Tks.create, hhead]
          rfl
  · have hopen := Tks.openUpload_none hnone
    refine ⟨respond (.refused .badArgs) s, respond (.refused .badArgs) s, congrArg Host.Outcome.next (hport.trans ?_),
      congrArg Host.Outcome.next (hport.trans ?_), rfl, rfl, rfl, rfl⟩
    · simp only [takeWriteWork, hopen]
    · simp only [takeCloseWork, State.closeEntry, hopen]
  · have hopen := Tks.openUpload_some hu hi
    by_cases hok : block.toNat < s.tks.dir[i].blocks ∧ block.toNat ≤ written
    · obtain ⟨hb, hw⟩ := hok
      refine ⟨_, congrArg Host.Outcome.next (hport.trans (takeWriteWork_ok hopen hb hw)), rfl,
        fun b _ _ hchain => ?_, fun hbad => absurd hbad (by omega)⟩
      have hblock : (s.tks.chain s.tks.dir[i]).getD block.toNat 0 = b := by
        rw [List.getD_eq_getElem?_getD, hchain]
        rfl
      have hmem : (s.tks.writeBlock i number written block.toNat words).mem = writeWords s.tks.mem b 0 words := by
        rw [Tks.writeBlock, hblock, List.take_of_length_le (Nat.le_of_eq hlen)]
      refine ⟨rfl, fun j hj => ?_, fun a ha => ?_, rfl⟩
      · have hword := readWord_writeWords (m := s.tks.mem) (b := b) (w := 0) (vs := words) (hlen ▸ hj)
        rw [Nat.zero_add, ← hmem] at hword
        rw [List.getElem?_eq_getElem (hlen ▸ hj)]
        exact congrArg some hword.symm
      · exact (congrArg (readByte · a) hmem).trans
          (readByte_writeWords_other (by unfold wordAt; omega))
    · exact ⟨_, congrArg Host.Outcome.next (hport.trans (takeWriteWork_refused hopen (by omega))), rfl,
        fun b hb hw => absurd ⟨hb, hw⟩ hok, fun _ => ⟨rfl, rfl⟩⟩
  · have hopen := Tks.openUpload_some hu hi
    subst he
    have hclosable : s.tks.samplesAll s.tks.dir[i] s.closable s.tks.dir[i].length = true
        ↔ ∀ k < s.tks.dir[i].length, ∀ p ∈ s.tks.dir[i].axes.zip (s.tks.sample s.tks.dir[i] k), fits p.1 p.2 := by
      simp only [Tks.samplesAll_iff, closable_iff, hfits]
    by_cases hok : s.tks.dir[i].blocks ≤ written
        ∧ s.tks.samplesAll s.tks.dir[i] s.closable s.tks.dir[i].length = true
    · obtain ⟨hw, hall⟩ := hok
      refine ⟨_, congrArg Host.Outcome.next (hport.trans (takeCloseWork_ok hopen hw hall)), rfl, fun hbad => ?_,
        fun _ _ => ⟨rfl, fun hstate => setStore_takeChange (i := i) ?_, ?_, fun hlen => ?_⟩⟩
      · rcases hbad with hlt | ⟨k, hk, p, hp, hnot⟩
        · exact absurd hw (Nat.not_le.mpr hlt)
        · exact absurd (hclosable.mp hall k hk p hp) hnot
      · rw [Tks.closeUpload_entry]
        exact Ne.symm hstate
      · show s.tks.closeUpload i = { s.tks with
          upload := none, dir := s.tks.dir.set i { s.tks.dir[i] with
            state := .complete, stats := (s.tks.closeUpload i).dir[i].stats } }
        rw [Tks.closeUpload_entry]
        rfl
      · obtain ⟨n, hn⟩ := Nat.exists_eq_succ_of_ne_zero (Nat.pos_iff_ne_zero.mp hlen)
        obtain ⟨l, hl, hcount, hranges⟩ := Tks.statsOver_ranges (t := s.tks) (e := s.tks.dir[i]) n
        refine ⟨l, ?_, hcount, fun j x hx => ?_⟩
        · show (s.tks.closeUpload i).dir[i].stats = some l
          rw [Tks.closeUpload_entry, ← hl, hn]
        · obtain ⟨hfirst, hwithin, hmin, hmax⟩ := hranges j x hx
          simp only [hvalue, hn]
          exact ⟨hfirst, hwithin, hmin, hmax⟩
    · refine ⟨_, congrArg Host.Outcome.next (hport.trans (takeCloseWork_refused hopen hok)), rfl, fun _ => ⟨rfl, rfl⟩,
        fun hw hall => absurd ⟨hw, hclosable.mpr hall⟩ hok⟩
  · by_cases hfound : ∃ i, s.erasable number = some i
    · obtain ⟨i, hi⟩ := hfound
      obtain ⟨hvalid, hfind⟩ := erasable_find hi
      obtain ⟨h1, h250⟩ := validNumber_iff.mp hvalid
      by_cases huse : s.inUse number = true
      · refine ⟨respond (.refused .busy) s, congrArg Host.Outcome.next (hport.trans ?_), rfl, fun hnone => ?_,
          fun j _ _ hj => ⟨fun _ _ _ => ⟨rfl, rfl⟩, fun hfree => ?_⟩⟩
        · simp only [takeEraseWork, hi, huse, if_true]
        · exact absurd ((erasable_none hnone).symm.trans hi) nofun
        · obtain ⟨hnum, hidle, href⟩ := inUse_iff.mp huse
          exact absurd (hfree.resolve_left (not_not.mpr hnum)) (not_or.mpr ⟨hidle, href⟩)
      · refine ⟨_, congrArg Host.Outcome.next (hport.trans (takeEraseWork_ok hi huse)), rfl, fun hnone => ?_,
          fun j _ _ hj => ⟨fun hnum hidle href => absurd (inUse_iff.mpr ⟨hnum, hidle, href⟩) huse, fun _ => ?_⟩⟩
        · exact absurd ((erasable_none hnone).symm.trans hi) nofun
        · obtain rfl := Option.some.inj (hj.symm.trans hfind)
          refine ⟨rfl, setStore_takeChange (i := j) ?_, ?_, Tks.eraseEntry_look s.tks j⟩
          · rw [Tks.eraseEntry_state]
            exact (Tks.find_state hfind).symm
          · show s.tks.eraseEntry j = _
            rw [Tks.eraseEntry, Tks.find_number hfind]
            rfl
    · refine ⟨respond (.refused .badArgs) s, congrArg Host.Outcome.next (hport.trans ?_), rfl, fun _ => ⟨rfl, rfl⟩,
        fun i h1 h250 hi => absurd ⟨i, erasable_some h1 h250 hi⟩ hfound⟩
      have hnone : s.erasable number = none := Option.eq_none_iff_forall_ne_some.mpr fun i hi => hfound ⟨i, hi⟩
      simp only [takeEraseWork, hnone]
end

section
/-! PROOFS. The service port's writes (R101, R163, R191 to R193): O59. -/

namespace Sys2Proof.Machine

theorem keepsTable_iff {o : Owner} : o.keepsTable = true ↔ o = .take ∨ o = .cal := by
  rw [Owner.keepsTable, Bool.or_eq_true, decide_eq_true_iff, decide_eq_true_iff]

theorem cueKindOf_none_iff {n : Nat} : cueKindOf n = none ↔ n < 1 ∨ 8 < n := by
  match n with
  | 0 | 1 | 2 | 3 | 4 | 5 | 6 | 7 | 8 | n + 9 => simp [cueKindOf]

theorem cueKindOf_armRecord_iff {n : Nat} : cueKindOf n = some .armRecord ↔ n = 1 := by
  match n with
  | 0 | 1 | 2 | 3 | 4 | 5 | 6 | 7 | 8 | n + 9 => simp [cueKindOf]

theorem Lif.takesCue_iff {l : Lif} : l.takesCue = true ↔ l.cues.length < 4 ∧ l.mute = .off := by
  rw [Lif.takesCue, Bool.and_eq_true, decide_eq_true_iff, decide_eq_true_iff]

/-! ## LENS-TABLE write (R101) -/

section
variable {s : State} {i : AxisNo} {axis count : Byte} {pairs : List (Word16 × Word16)}

theorem lensTableWriteWork_noLens (h : s.lensAxis axis = none) :
    lensTableWriteWork axis count pairs s = respond (.refused .badArgs) s := by
  simp only [lensTableWriteWork, h]

theorem lensTableWriteWork_busy (h : s.lensAxis axis = some i) (ho : s.axes[i].dsl.owner.keepsTable = true) :
    lensTableWriteWork axis count pairs s = respond (.refused .busy) s := by
  simp only [lensTableWriteWork, h, ho, if_true]

theorem lensTableWriteWork_judged (h : s.lensAxis axis = some i) (ho : ¬ s.axes[i].dsl.owner.keepsTable = true) :
    lensTableWriteWork axis count pairs s
      = if count.toNat ≤ 16 ∧ tableWellFormed (tablePairs count.toNat pairs) = true then
          respond .ok (s.modAxis i fun a => { a with
            lens := { a.lens with table := tablePairs count.toNat pairs, fromPort := true } })
        else respond (.refused .badTable) s := by
  simp only [lensTableWriteWork, h, if_neg ho]

end

/-! ## SEND-CUE (R163) -/

section
variable {s : State} {kind number mask parameter : Byte} {k : CueKind}

theorem sendCueWork_badArgs (h : kind.toNat < 1 ∨ 8 < kind.toNat ∨ kind.toNat = 1 ∧ 2 < parameter.toNat) :
    sendCueWork kind number mask parameter s = respond (.refused .badArgs) s := by
  unfold sendCueWork
  split
  · rfl
  · next k hk =>
    refine if_pos ?_
    have hsome : ¬ (kind.toNat < 1 ∨ 8 < kind.toNat) := fun hn => absurd (hk.symm.trans (cueKindOf_none_iff.mpr hn)) nofun
    obtain ⟨hone, hpar⟩ := (h.resolve_left fun h1 => hsome (.inl h1)).resolve_left fun h8 => hsome (.inr h8)
    exact ⟨Option.some.inj (hk.symm.trans (cueKindOf_armRecord_iff.mpr hone)), hpar⟩

theorem sendCueWork_judged (hk : cueKindOf kind.toNat = some k) (hp : kind.toNat = 1 → parameter.toNat ≤ 2) :
    sendCueWork kind number mask parameter s
      = if s.lif.takesCue then respond .ok (placeOwnCue k number mask parameter s) else respond (.refused .queueFull) s := by
  have hok : ¬ (k = .armRecord ∧ 2 < parameter.toNat) := by
    rintro ⟨rfl, hlt⟩
    exact absurd (hp (cueKindOf_armRecord_iff.mp hk)) (Nat.not_le.mpr hlt)
  simp only [sendCueWork, hk, if_neg hok]

theorem placeOwnCue_taken (h : s.lif.takesCue = true) : placeOwnCue k number mask parameter s = { s with
    lif := { s.lif with cues := s.lif.cues ++ [{ attempts := 0, cue :=
      { kind := k, seq := s.tkq.cueSeq, number := number, mask := mask, parameter := parameter } }] }
    tkq := { s.tkq with cueSeq := s.tkq.cueSeq + 1 } } := by
  simp only [placeOwnCue, Lif.placeCue, h, if_true]

/-- What SEND-CUE can write. -/
theorem sendCueWork_frame : sendCueWork kind number mask parameter s = { s with
    lif := { s.lif with cues := (sendCueWork kind number mask parameter s).lif.cues }
    tkq := { s.tkq with cueSeq := (sendCueWork kind number mask parameter s).tkq.cueSeq }
    svp := { s.svp with response := (sendCueWork kind number mask parameter s).svp.response, responseCut := false } } := by
  unfold sendCueWork
  split
  · rfl
  · split
    · rfl
    · split
      · next h =>
        rw [placeOwnCue_taken h]
        rfl
      · rfl

end

/-! ## The snapshot of a rise (R193) -/

section
variable {s : State}

theorem formAttention_keeps_snapshot
    (h : s.svp.attention = true ∨ s.svp.snapArmed = false ∨ (formAttention s).svp.attention = false) :
    (formAttention s).svp.snap = s.svp.snap ∧ (formAttention s).svp.snapArmed = s.svp.snapArmed := by
  have hrise : (s.svp.calling && !s.svp.attention && s.svp.snapArmed) = false := by
    rcases h with h | h | h
    · rw [h, Bool.not_true, Bool.and_false, Bool.false_and]
    · rw [h, Bool.and_false]
    · rw [show s.svp.calling = false from h, Bool.false_and, Bool.false_and]
  simp only [formAttention, hrise, Bool.false_eq_true, if_false, Bool.not_false, Bool.and_true, and_self]

theorem formAttention_takes_snapshot (ha : s.svp.attention = false) (harmed : s.svp.snapArmed = true)
    (hrise : (formAttention s).svp.attention = true) :
    (formAttention s).svp.snapArmed = false ∧ (formAttention s).svp.snap = some (snapshotOf s) := by
  have hcalling : s.svp.calling = true := hrise
  simp only [formAttention, hcalling, ha, harmed, Bool.not_false, Bool.and_self, Bool.not_true, Bool.and_false, if_true, and_self]

/-- A station with its enable mask replaced (R192). -/
def masked (mask : Word16) (s : State) : State :=
  respond .ok { s with svp := { s.svp with enables := mask &&& flagMask } }

end

end Sys2Proof.Machine

open Sys2Proof Sys2Proof.Machine

/-- Settles O59: each write is its checks in order; attention and the snapshot are formed after the flags and the mask. -/
theorem portWritesFollowTheirChecks : Obligations.PortWritesFollowTheirChecks := by
  intro s hop
  have hport {always : Bool} {f : State → State} := portCommand_operating (always := always) (f := f) hop
  refine ⟨fun i count pairs table htable => ?_, fun axis count pairs haxis => ?_, fun kind number mask parameter => ?_,
    fun bits => ⟨clearRequestsWork bits s, congrArg Host.Outcome.next hport, rfl, rfl, rfl,
      fun k => BitVec.getLsbD_and, Svp.calling_iff _⟩,
    fun mask => ⟨writeEnablesWork mask s, congrArg Host.Outcome.next hport, rfl, rfl, rfl, fun k => ?_, Svp.calling_iff _,
      formAttention_keeps_snapshot (s := masked mask s), fun ha harmed hrise => ?_⟩⟩
  · obtain rfl : table = tablePairs count.toNat pairs := htable
    refine ⟨_, congrArg Host.Outcome.next hport, fun hk => ?_, fun hk ho => ?_, fun hk htake hcal => ?_⟩
    · rw [lensTableWriteWork_noLens (lensAxis_ofNat_none hk)]
      exact ⟨rfl, rfl⟩
    · rw [lensTableWriteWork_busy (lensAxis_ofNat hk) (keepsTable_iff.mpr ho)]
      exact ⟨rfl, rfl⟩
    · rw [lensTableWriteWork_judged (lensAxis_ofNat hk) fun ho => (keepsTable_iff.mp ho).elim htake hcal]
      refine ⟨fun hbad => ?_, fun hcount hwf => ?_⟩
      · rw [if_neg]
        · exact ⟨rfl, rfl⟩
        · rintro ⟨hcount, hwf⟩
          rcases hbad with hbad | hbad
          · exact absurd hcount (Nat.not_le.mpr hbad)
          · exact absurd (hbad.symm.trans hwf) nofun
      · rw [if_pos ⟨hcount, hwf⟩]
        exact ⟨rfl, rfl⟩
  · exact congrArg Host.Outcome.next (hport.trans (lensTableWriteWork_noLens (lensAxis_none haxis)))
  · refine ⟨_, congrArg Host.Outcome.next hport, ?_, ?_, fun hbad => ?_, fun k hk hp => ?_⟩
    · conv_lhs => rw [sendCueWork_frame]
      conv_rhs => rw [sendCueWork_frame]
    · exact congrArg State.svp sendCueWork_frame
    · rw [sendCueWork_badArgs hbad]
      exact ⟨rfl, rfl, rfl⟩
    · rw [sendCueWork_judged hk hp]
      refine ⟨fun hlen hmute => ?_, fun hrefused => ?_⟩
      · have htakes : s.lif.takesCue = true := Lif.takesCue_iff.mpr ⟨hlen, hmute⟩
        rw [if_pos htakes, placeOwnCue_taken htakes]
        exact ⟨rfl, rfl, rfl⟩
      · rw [if_neg fun htakes => ?_]
        · exact ⟨rfl, rfl, rfl⟩
        · obtain ⟨hlen, hmute⟩ := Lif.takesCue_iff.mp htakes
          exact hrefused.elim (Nat.not_le.mpr hlen) fun hm => hm hmute
  · rw [writeEnablesWork_enables, BitVec.getLsbD_and, getLsbD_flagMask]
  · obtain ⟨hsnap, hvalue⟩ := formAttention_takes_snapshot (s := masked mask s) ha harmed hrise
    exact ⟨hsnap, _, hvalue, fun k => BitVec.getLsbD_and, fun st => getElem_ofFn_fin _ st, rfl⟩
end

section
/-! PROOFS. What the end of an event leaves as it is: where nothing can stop the station, where it is stopped already, and
where the sources stand as they were. -/

namespace Sys2Proof.Machine

/-! ## Request flags only rise in a reaction (R191) -/

/-- Every request flag that is set stays set. -/
def State.Raises (s t : State) : Prop := ∀ k : Nat, s.svp.flags.getLsbD k = true → t.svp.flags.getLsbD k = true

section
variable {s t u : State}

theorem State.Raises.of_flags (h : t.svp.flags = s.svp.flags) : s.Raises t := fun _ hk => h ▸ hk

theorem State.Raises.refl (s : State) : s.Raises s := .of_flags rfl

theorem State.Raises.trans (h : s.Raises t) (h' : t.Raises u) : s.Raises u := fun k hk => h' k (h k hk)

theorem State.Raises.raise {flag : Nat} (h : t.svp.flags = (s.svp.raise flag).flags) : s.Raises t := fun k hk => by
  rw [h, Svp.raise, BitVec.getLsbD_or, hk, Bool.true_or]

theorem State.Raises.raiseIf {cond : Bool} {flag : Nat} (h : t.svp.flags = (s.svp.raiseIf cond flag).flags) : s.Raises t := by
  cases cond with
  | false => exact .of_flags h
  | true => exact .raise h

theorem setStore_raises (x : Tks) (s : State) : s.Raises (setStore x s) := .raiseIf rfl

theorem setTake_raises (q : Tkq) (s : State) : s.Raises (setTake q s) := .raiseIf rfl

/-- A stop that begins sets STOP-ENTER, and CAL-DONE where it cancels a seek (R112, R132). -/
theorem beginStop_raises_both (loc : Bool) (o : StationNo) (k : Cause) (c : Category) (s : State) :
    ({ s with svp := (s.svp.raise flagStopEnter).raiseIf (allAxes.any fun i => s.axes[i].seeking) flagCalDone } :
      State).Raises (beginStop loc o k c s) := by
  have hseek : (allAxes.any fun i => (Vector.ofFn fun j : AxisNo => { s.axes[j] with releaseTimer := none })[i].seeking)
      = allAxes.any fun i => s.axes[i].seeking :=
    congrArg allAxes.any (funext fun i => (congrArg AxisState.seeking (getElem_ofFn_fin
      (fun j : AxisNo => ({ s.axes[j] with releaseTimer := none } : AxisState)) i)).trans rfl)
  have hcancel : (cancelSeeks (requestBurstIf loc k { s with
      stop := s.stop.begin loc o s.time k c, driveOn := .idle
      axes := Vector.ofFn fun i => { s.axes[i] with releaseTimer := none }, svp := s.svp.raise flagStopEnter })).svp
      = (s.svp.raise flagStopEnter).raiseIf (allAxes.any fun i => s.axes[i].seeking) flagCalDone :=
    congrArg (fun b => (s.svp.raise flagStopEnter).raiseIf b flagCalDone) hseek
  refine State.Raises.trans (.of_flags (congrArg Svp.flags hcancel)) ?_
  exact ((State.Raises.of_flags rfl).trans (setStore_raises _ (announce (cancelSeeks _)))).trans (setTake_raises _ _)

theorem beginStop_raises (loc : Bool) (o : StationNo) (k : Cause) (c : Category) (s : State) :
    s.Raises (beginStop loc o k c s) :=
  ((State.Raises.raise (t := { s with svp := s.svp.raise flagStopEnter }) rfl).trans (.raiseIf rfl)).trans
    (beginStop_raises_both loc o k c s)

theorem takeCause_raises (loc : Bool) (o : StationNo) (k : Cause) (c : Category) (s : State) :
    s.Raises (takeCause loc o k c s) := by
  rcases takeCause_cases loc o k c s with ⟨-, h⟩ | ⟨-, -, h⟩ | ⟨-, -, h⟩ <;> rw [h]
  · exact beginStop_raises loc o k c s
  · exact .of_flags (congrArg Svp.flags (escalateStop_svp loc o k c s))
  · exact .refl s

theorem giveCauseIf_raises (b : Bool) (k : Cause) (c : Category) (s : State) : s.Raises (giveCauseIf b k c s) := by
  unfold giveCauseIf
  split
  · exact takeCause_raises true s.cfg.own k c s
  · exact .refl s

theorem foldl_giveCauseIf_raises {α : Type} (b : α → Bool) (k : Cause) (c : Category) (xs : List α) (s : State) :
    s.Raises (xs.foldl (fun t x => giveCauseIf (b x) k c t) s) := by
  induction xs generalizing s with
  | nil => exact .refl s
  | cons x xs ih => exact (giveCauseIf_raises (b x) k c s).trans (ih _)

theorem setZones_raises (new : Vector ZoneState 8) (s : State) : s.Raises (setZones new s) :=
  (State.Raises.of_flags (t := { s with zones := new }) rfl).trans
    (foldl_giveCauseIf_raises (fun z : ZoneNo => new[z].breached && !s.zones[z].breached) .zoneBreach .brake allEight _)

theorem settleWord_raises (s : State) : s.Raises (settleWord s) := by
  unfold settleWord reformZones
  refine State.Raises.trans ?_ (setZones_raises _ _)
  exact .of_flags rfl

theorem settle_raises (n : Nat) (s : State) : s.Raises (settle n s) := by
  induction n generalizing s with
  | zero => exact .refl s
  | succ n ih =>
    unfold settle
    split
    · exact .refl s
    · exact (settleWord_raises s).trans (ih _)

theorem endEvent_raises (s : State) : s.Raises (endEvent s) := by
  unfold endEvent
  split
  · exact (State.Raises.of_flags (t := formOwners s) rfl).trans ((settle_raises 4 (formOwners s)).trans (.of_flags rfl))
  · exact .of_flags rfl

/-- A flag that an event has set stands at its end. -/
theorem endEvent_flag {k : Nat} (h : s.svp.flags.getLsbD k = true) : (endEvent s).svp.flags.getLsbD k = true :=
  endEvent_raises s k h

end

/-! ## An axis through owners and gates -/

/-- An axis without what owners, gates and caps are formed into. -/
def AxisState.still (a : AxisState) : AxisState :=
  { a with dsl := { a.dsl with owner := .hold, gate := .opened, latch := false }, cap := 0 }

/-- The zero-start latch is set and the gate is not OPEN. -/
def Dsl.shut (d : Dsl) : Prop := d.latch = true ∧ d.gate ≠ .opened

section
variable {s : State} {i : AxisNo}

theorem gateFor_latched {fresh : Nat} : s.gateFor i true fresh ≠ .opened := by
  unfold State.gateFor
  split
  · decide
  · split_ifs with _ _ _ hlatch
    · decide
    · decide
    · decide
    · decide
    · exact absurd rfl hlatch

theorem regate_shut {d : Dsl} (h : d.latch = true) : (s.regate i d).shut := by
  refine ⟨?_, ?_⟩
  · rw [State.regate, h, Bool.true_or]
  · show s.gateFor i d.latch d.fresh ≠ .opened
    rw [h]
    exact gateFor_latched

theorem ownAxis_shut (o : Owner) {a : AxisState} (h : a.dsl.shut) : (s.ownAxis i o a).dsl.shut := by
  obtain ⟨hlatch, hgate⟩ := h
  unfold State.ownAxis
  dsimp only
  split
  · exact regate_shut (by rw [hlatch, Bool.true_or])
  · exact ⟨by rw [hlatch, Bool.true_or], hgate⟩

/-- A MOTION axis that goes to LIVE has its latch set (R54). -/
theorem ownAxis_enters {a : AxisState} (hk : s.cfg.axes[i].kind = .motion) (ha : a.dsl.owner ≠ .live) :
    (s.ownAxis i .live a).dsl.shut := by
  unfold State.ownAxis
  dsimp only
  have henters : (decide (Owner.live = .live) && decide (a.dsl.owner ≠ .live)) = true := by simp [ha]
  rw [if_pos henters]
  exact regate_shut (by rw [henters, decide_eq_true hk, Bool.and_self, Bool.or_true])

theorem ownAxis_still (o : Owner) (a : AxisState) : (s.ownAxis i o a).still = a.still := by
  unfold State.ownAxis
  dsimp only
  split <;> rfl

/-- A latch that an owner leaves alone. -/
theorem ownAxis_latch (o : Owner) (a : AxisState) (hk : s.cfg.axes[i].kind ≠ .motion) :
    (s.ownAxis i o a).dsl.latch = a.dsl.latch := by
  unfold State.ownAxis
  dsimp only
  split <;> simp only [State.regate, decide_eq_false hk, Bool.and_false, Bool.false_and, Bool.or_false]

end

/-! ## Reactions that stop nothing -/

/-- A reaction without a stop: what stays as it is, beside the quiet part. -/
structure Eases (s t : State) : Prop where
  quiet : t.quiet = s.quiet
  stop : t.stop = s.stop
  driveOn : t.driveOn = s.driveOn
  tks : t.tks = s.tks
  tkq : t.tkq = s.tkq
  zones : t.zones = s.zones
  flags : t.svp.flags = s.svp.flags
  burst : t.lif.stop = s.lif.stop
  axis : ∀ i : AxisNo, t.axes[i].still = s.axes[i].still
  shut : ∀ i : AxisNo, s.axes[i].dsl.shut → t.axes[i].dsl.shut
  latch : ∀ i : AxisNo, s.cfg.axes[i].kind ≠ .motion → t.axes[i].dsl.latch = s.axes[i].dsl.latch

section
variable {s t u : State}

theorem Eases.refl (s : State) : Eases s s :=
  ⟨rfl, rfl, rfl, rfl, rfl, rfl, rfl, rfl, fun _ => rfl, fun _ h => h, fun _ _ => rfl⟩

theorem Eases.trans (h : Eases s t) (h' : Eases t u) : Eases s u where
  quiet := h'.quiet.trans h.quiet
  stop := h'.stop.trans h.stop
  driveOn := h'.driveOn.trans h.driveOn
  tks := h'.tks.trans h.tks
  tkq := h'.tkq.trans h.tkq
  zones := h'.zones.trans h.zones
  flags := h'.flags.trans h.flags
  burst := h'.burst.trans h.burst
  axis i := (h'.axis i).trans (h.axis i)
  shut i hi := h'.shut i (h.shut i hi)
  latch i hk := (h'.latch i (by rwa [cfg_of_quiet h.quiet])).trans (h.latch i hk)

theorem announce_eases (s : State) : Eases s (announce s) where
  quiet := announce_quiet s
  stop := rfl
  driveOn := rfl
  tks := rfl
  tkq := rfl
  zones := rfl
  flags := rfl
  burst := by
    unfold announce
    dsimp only
    split <;> rfl
  axis _ := rfl
  shut _ h := h
  latch _ _ := rfl

theorem reformGates_eases (f : AxisNo → Bool) (s : State) : Eases s (reformGates f s) where
  quiet := reformGates_quiet f s
  stop := rfl
  driveOn := rfl
  tks := rfl
  tkq := rfl
  zones := rfl
  flags := rfl
  burst := rfl
  axis i := by
    rw [reformGates, State.mapAxes, getElem_ofFn_fin]
    split <;> rfl
  shut i h := by
    rw [reformGates, State.mapAxes, getElem_ofFn_fin]
    split
    · exact regate_shut h.1
    · exact h
  latch i hk := by
    rw [reformGates, State.mapAxes, getElem_ofFn_fin]
    split
    · simp only [State.regate, decide_eq_false hk, Bool.false_and, Bool.or_false]
    · rfl

theorem formOwners_eases (s : State) : Eases s (formOwners s) where
  quiet := formOwners_quiet s
  stop := rfl
  driveOn := rfl
  tks := rfl
  tkq := rfl
  zones := rfl
  flags := rfl
  burst := rfl
  axis i := by
    rw [formOwners_axis]
    exact ownAxis_still (s.ownerOf i) s.axes[i]
  shut i h := by
    rw [formOwners_axis]
    exact ownAxis_shut (s.ownerOf i) h
  latch i hk := by
    rw [formOwners_axis]
    exact ownAxis_latch (s.ownerOf i) s.axes[i] hk

/-- A value that no axis, no stop and no take carries. -/
theorem eases_board (s : State) (w : Word16) (warn : Bool) (out : Vector Bool 8) :
    Eases s { s with word := w, crewWarn := warn, outputs := out } :=
  ⟨rfl, rfl, rfl, rfl, rfl, rfl, rfl, rfl, fun _ => rfl, fun _ h => h, fun _ _ => rfl⟩

theorem formAttention_eases (s : State) : Eases s (formAttention s) :=
  ⟨rfl, rfl, rfl, rfl, rfl, rfl, rfl, rfl, fun _ => rfl, fun _ h => h, fun _ _ => rfl⟩

theorem foldl_giveCauseIf_none {α : Type} {b : α → Bool} {xs : List α} (h : ∀ x, b x = false) (k : Cause) (c : Category)
    (s : State) : xs.foldl (fun t x => giveCauseIf (b x) k c t) s = s :=
  foldl_keeps id _ (fun t x => if_neg (by rw [h x]; exact Bool.false_ne_true)) xs s

/-- Zone records without a new breach give no cause. -/
theorem setZones_unbreached {new : Vector ZoneState 8} {s : State}
    (h : ∀ z : ZoneNo, (new[z].breached && !s.zones[z].breached) = false) : setZones new s = { s with zones := new } :=
  foldl_giveCauseIf_none h .zoneBreach .brake _

/-- Where no zone is selected, none changes. -/
theorem reformZones_none {f : ZoneNo → Bool} {s : State} (h : ∀ z, f z = false) : reformZones f s = s := by
  have hsame : (Vector.ofFn fun z => if f z then s.zoneNow z else s.zones[z]) = s.zones :=
    vector_ext fun z => by rw [getElem_ofFn_fin, h z]; rfl
  rw [reformZones, hsame]
  exact setZones_unbreached fun z => by cases s.zones[z].breached <;> rfl

theorem settleWord_eases (h : s.noOwnGates) : Eases s (settleWord s) := by
  have hnone : settleWord s = reformGates (announce { s with word := s.formWord }).gatesOfOwnWord
      (announce { s with word := s.formWord }) := reformZones_none (fun z => h z)
  rw [hnone]
  exact ((eases_board s s.formWord s.crewWarn s.outputs).trans (announce_eases _)).trans (reformGates_eases _ _)

theorem noOwnGates_congr (h : t.cfg = s.cfg) : t.noOwnGates ↔ s.noOwnGates := by
  unfold State.noOwnGates State.zonesOfOwnWord
  rw [h]

theorem settle_eases (n : Nat) (h : s.noOwnGates) : Eases s (settle n s) := by
  induction n generalizing s with
  | zero => exact .refl s
  | succ n ih =>
    unfold settle
    split
    · exact .refl s
    · have hword := settleWord_eases h
      exact hword.trans (ih ((noOwnGates_congr (cfg_of_quiet hword.quiet)).mpr h))

/-- The end of an event stops nothing where the line word is settled, or where no zone is gated by it. -/
theorem endEvent_eases (h : s.formWord = s.word ∨ s.noOwnGates) : Eases s (endEvent s) := by
  unfold endEvent
  split
  · refine (formOwners_eases s).trans (Eases.trans (t := settle 4 (formOwners s)) ?_ ?_)
    · rcases h with h | h
      · rw [settle_settled (s := formOwners s) 4 ((Feeds.formWord_eq (formOwners_feeds s)).trans h)]
        exact .refl _
      · exact settle_eases 4 h
    · exact ((eases_board _ _ _ _).trans (formOwners_eases _)).trans ((eases_board _ _ _ _).trans (formAttention_eases _))
  · exact formAttention_eases s

end

/-! ## Reactions of a stopped station -/

section
variable {a b c : AxisState}

theorem AxisState.Secures.refl (a : AxisState) : a.Secures a := ⟨id, id, id, id⟩

theorem AxisState.Secures.trans (h : a.Secures b) (h' : b.Secures c) : a.Secures c where
  enable hc := h.enable (h'.enable hc)
  released hc := h.released (h'.released hc)
  timer hc := h.timer (h'.timer hc)
  frameErrors ha := h'.frameErrors (h.frameErrors ha)

theorem AxisState.Secures.of_still (h : b.still = a.still) : a.Secures b := by
  have hdrive : b.drive = a.drive := congrArg (·.drive) h
  have htimer : b.releaseTimer = a.releaseTimer := congrArg (·.releaseTimer) h
  have hlink : b.link = a.link := congrArg (·.link) h
  exact ⟨fun hb => hdrive ▸ hb, fun hb => hdrive ▸ hb, fun hb => htimer ▸ hb, fun ha => hlink ▸ ha⟩

end

/-- A reaction of a stopped station: what stays as it is, beside the quiet part, while causes join and the category rises. -/
structure Rests (s t : State) : Prop where
  quiet : t.quiet = s.quiet
  grows : StopGrows s.stop t.stop
  driveOn : t.driveOn = s.driveOn
  tks : t.tks = s.tks
  tkq : t.tkq = s.tkq
  flags : t.svp.flags = s.svp.flags
  lens : ∀ i : AxisNo, t.axes[i].lens = s.axes[i].lens
  mpr : ∀ i : AxisNo, t.axes[i].mpr = s.axes[i].mpr
  secures : ∀ i : AxisNo, s.axes[i].Secures t.axes[i]

section
variable {s t u : State}

theorem Rests.trans (h : Rests s t) (h' : Rests t u) : Rests s u where
  quiet := h'.quiet.trans h.quiet
  grows := h.grows.trans h'.grows
  driveOn := h'.driveOn.trans h.driveOn
  tks := h'.tks.trans h.tks
  tkq := h'.tkq.trans h.tkq
  flags := h'.flags.trans h.flags
  lens i := (h'.lens i).trans (h.lens i)
  mpr i := (h'.mpr i).trans (h.mpr i)
  secures i := (h.secures i).trans (h'.secures i)

theorem Rests.refl (h : s.halted) : Rests s s :=
  ⟨rfl, .refl h, rfl, rfl, rfl, rfl, fun _ => rfl, fun _ => rfl, fun _ => .refl _⟩

/-- Without a stop a stopped station rests. -/
theorem Eases.rests (h : Eases s t) (hs : s.halted) : Rests s t where
  quiet := h.quiet
  grows := h.stop.symm ▸ .refl hs
  driveOn := h.driveOn
  tks := h.tks
  tkq := h.tkq
  flags := h.flags
  lens i := congrArg (·.lens) (h.axis i)
  mpr i := congrArg (·.mpr) (h.axis i)
  secures i := .of_still (h.axis i)

theorem AxisState.sequence_lens (category : Option Category) (c : AxisCfg) (a : AxisState) :
    (a.sequence category c).lens = a.lens ∧ (a.sequence category c).mpr = a.mpr
      ∧ (a.sequence category c).dsl = a.dsl ∧ (a.sequence category c).cap = a.cap
      ∧ (a.sequence category c).link = a.link := by
  unfold AxisState.sequence AxisState.brake AxisState.cut
  split
  · split_ifs <;> exact ⟨rfl, rfl, rfl, rfl, rfl⟩
  · exact ⟨rfl, rfl, rfl, rfl, rfl⟩
  · exact ⟨rfl, rfl, rfl, rfl, rfl⟩

theorem takeCause_rests (loc : Bool) (o : StationNo) (k : Cause) (c : Category) (h : s.halted) :
    Rests s (takeCause loc o k c s) := by
  refine ⟨takeCause_quiet loc o k c s, takeCause_grows loc o k c h, ?_, ?_, takeCause_tkq_halted loc o k c h, ?_, ?_, ?_,
    fun i => (takeCause_steady loc o k c s i).toSecures⟩
  all_goals
    rcases takeCause_cases loc o k c s with ⟨hn, -⟩ | ⟨-, -, ht⟩ | ⟨-, -, ht⟩
    · exact absurd h hn
  · rw [ht, escalateStop_driveOn]
  · rw [ht]
  · rw [ht, escalateStop_tks]
  · rw [ht]
  · rw [ht, escalateStop_svp]
  · rw [ht]
  · intro i
    rw [ht, escalateStop_axis]
    exact (s.axes[i].sequence_lens _ _).1
  · intro i
    rw [ht]
  · intro i
    rw [ht, escalateStop_axis]
    exact (s.axes[i].sequence_lens _ _).2.1
  · intro i
    rw [ht]

theorem giveCauseIf_rests (b : Bool) (k : Cause) (c : Category) (h : s.halted) : Rests s (giveCauseIf b k c s) := by
  unfold giveCauseIf
  split
  · exact takeCause_rests true s.cfg.own k c h
  · exact .refl h

theorem foldl_giveCauseIf_rests {α : Type} (b : α → Bool) (k : Cause) (c : Category) (xs : List α) (h : s.halted) :
    Rests s (xs.foldl (fun t x => giveCauseIf (b x) k c t) s) := by
  induction xs generalizing s with
  | nil => exact .refl h
  | cons x xs ih =>
    have hx := giveCauseIf_rests (b x) k c h
    exact hx.trans (ih hx.grows.halted)

theorem setZones_rests (new : Vector ZoneState 8) (h : s.halted) : Rests s (setZones new s) :=
  have hzones : Rests s { s with zones := new } :=
    ⟨rfl, .refl h, rfl, rfl, rfl, rfl, fun _ => rfl, fun _ => rfl, fun _ => .refl _⟩
  hzones.trans (foldl_giveCauseIf_rests (s := { s with zones := new })
    (fun z : ZoneNo => new[z].breached && !s.zones[z].breached) .zoneBreach .brake allEight h)

theorem settleWord_rests (h : s.halted) : Rests s (settleWord s) := by
  have hword : Eases s (reformGates (announce { s with word := s.formWord }).gatesOfOwnWord
      (announce { s with word := s.formWord })) :=
    ((eases_board s s.formWord s.crewWarn s.outputs).trans (announce_eases _)).trans (reformGates_eases _ _)
  exact (hword.rests h).trans (setZones_rests _ h)

theorem settle_rests (n : Nat) (h : s.halted) : Rests s (settle n s) := by
  induction n generalizing s with
  | zero => exact .refl h
  | succ n ih =>
    unfold settle
    split
    · exact .refl h
    · have hword := settleWord_rests h
      exact hword.trans (ih hword.grows.halted)

/-- The end of an event of a stopped station only adds causes. -/
theorem endEvent_rests (h : s.halted) : Rests s (endEvent s) := by
  unfold endEvent
  split
  · refine ((formOwners_eases s).rests h).trans ?_
    have hset := settle_rests (s := formOwners s) 4 h
    have hend := (eases_board (settle 4 (formOwners s)) (settle 4 (formOwners s)).word
        (settle 4 (formOwners s)).crewWarning (settle 4 (formOwners s)).outputs).trans (formOwners_eases (formCrew _))
    exact hset.trans ((hend.trans ((eases_board _ _ _ _).trans (formAttention_eases _))).rests hset.grows.halted)
  · exact (formAttention_eases s).rests h

end

/-! ## Sources that stand as they were -/

section
variable {s t : State}

/-- Where everything but attention stands as its sources give it, only attention is formed again. -/
theorem endEvent_unmoved (hop : s.operating = true) (hset : s.settled) (hown : s.owned) (hcap : s.capped) (hshow : s.shown) :
    endEvent s = formAttention s := by
  have hsettle : settle 4 s = s := settle_settled 4 (hset hop).symm
  unfold endEvent
  rw [hop, if_pos rfl, formOwners_owned (hown hop) (hcap hop).2, hsettle, formCrew_capped (hcap hop).1,
    formOwners_owned (hown hop) (hcap hop).2, formOutputs_shown (hshow hop)]

/-- An event that changes no source and nothing formed forms attention alone. -/
theorem endEvent_same (hfeeds : t.feeds = s.feeds) (hformed : t.formed = s.formed) (h : s.calm) :
    endEvent t = formAttention t := by
  obtain ⟨hop, hset, hown, hcap, hshow, -⟩ := h
  exact endEvent_unmoved ((Feeds.operating_eq hfeeds).trans hop) (settled_of_same hfeeds hformed hset)
    (owned_of_same hfeeds hformed hown) (capped_of_same hfeeds hformed hcap) (shown_of_same hfeeds hformed hshow)

end

end Sys2Proof.Machine
end

section
/-! PROOFS. Frames at their end: the receive judgement, frames that are only counted, and cues that are heard (R3, R7, R9, R36,
R37, R157, R165, R196): O34, O40, O47. -/

namespace Sys2Proof.Machine

/-! ## The rows of frames -/

theorem parseCue_kind {payload : List Byte} {m : CueMsg} (h : parseCue payload = some m) :
    cueKindOf (payloadByte payload 0) = some m.kind := by
  rw [parseCue, Option.bind_eq_some_iff] at h
  obtain ⟨kind, hkind, h⟩ := h
  split at h
  · exact absurd h nofun
  · obtain rfl := Option.some.inj h
    exact hkind

theorem cueStep_of_kind {kind : CueKind} {w : Wire} {s : State} (h : cueKindOf (payloadByte w.payload 0) = some kind) :
    cueStep kind w s = frameStep { cls := 2, wire := w } s := by
  refine if_neg ?_
  simp [State.otherCue, h]

theorem cueStep_of_refused {kind : CueKind} {w : Wire} {s : State}
    (h : ({ cls := 2, wire := w } : Frame).judge (some s.cfg.own) ≠ .received) :
    cueStep kind w s = frameStep { cls := 2, wire := w } s := by
  refine if_neg ?_
  simp [State.otherCue, h]

/-- A frame that is not handed on is carried out by the row of its frame. -/
theorem exec_frame {c : Instr} {f : Frame} {s : State} (hf : frameOf c = some f)
    (hj : f.judge (some s.cfg.own) ≠ .received) : exec c s = .next (frameStep f s) := by
  cases c with
  | stopFrame w | statusFrame urgent w | demandFrame w | axisFrame w | unknownClass seven w =>
    obtain rfl := Option.some.inj hf
    rfl
  | armRecord w | armPlay w | go w | halt w | disarm w | resume w | erase w | calibrate w =>
    obtain rfl := Option.some.inj hf
    exact congrArg Host.Outcome.next (cueStep_of_refused hj)
  | _ => exact absurd hf nofun

/-- A cue is carried out by the row of its kind. -/
theorem exec_cue {c : Instr} {w : Wire} {m : CueMsg} (s : State) (h : cueRow c w m) :
    exec c s = .next (frameStep { cls := 2, wire := w } s) := by
  obtain ⟨hm, hrow⟩ := h
  have hkind := parseCue_kind hm
  cases hk : m.kind <;> rw [hk] at hrow hkind <;> subst hrow <;>
    exact congrArg Host.Outcome.next (cueStep_of_kind hkind)

/-! ## The receive judgement (R9) -/

section
variable {f : Frame} {own : Option StationNo}

theorem Frame.judge_notWhole (h : f.whole = false) : f.judge own = .formatError := by
  rw [Frame.judge, h]
  rfl

theorem Frame.judge_failed (hw : f.whole = true) (hc : checkPasses f = false) : f.judge own = .checkFailure := by
  rw [Frame.judge, hw, hc]
  rfl

theorem Frame.judge_content (hw : f.whole = true) (hc : checkPasses f = true) : f.judge own = f.judgeContent own := by
  rw [Frame.judge, hw, hc]
  rfl

theorem Frame.whole_iff : f.whole = true ↔ f.wire.length.val ≤ 8 ∧ f.wire.idleInside = false := by
  rw [Frame.whole, Bool.and_eq_true, decide_eq_true_iff, Bool.not_eq_true']

theorem checkPasses_iff : checkPasses f = true
    ↔ lineCheck f.cls f.wire.sender f.wire.index f.wire.length.val f.wire.payload = f.wire.check := beq_iff_eq

/-- A frame that is received or a duplicate is whole, and its check has passed. -/
theorem Frame.judge_passed (h : f.judge own = .received ∨ f.judge own = .duplicate) :
    f.whole = true ∧ checkPasses f = true := by
  by_cases hw : f.whole = true
  · refine ⟨hw, ?_⟩
    by_contra hc
    rw [Frame.judge_failed hw (Bool.eq_false_of_not_eq_true hc)] at h
    exact h.elim nofun nofun
  · rw [Frame.judge_notWhole (Bool.eq_false_of_not_eq_true hw)] at h
    exact h.elim nofun nofun

theorem Frame.judgeContent_unknown (h : 6 ≤ f.cls.val) : f.judgeContent own = .unknownClass := by
  have hnone : classLength f.cls = none := by
    obtain ⟨cls, wire⟩ := f
    dsimp only at h ⊢
    revert h
    revert cls
    decide
  simp only [Frame.judgeContent, hnone]

theorem classLength_some {cls : Fin 8} (h : cls.val < 6) : ∃ n, classLength cls = some n :=
  Option.isSome_iff_exists.mp (by decide +revert)

theorem Frame.judgeContent_format (hk : f.cls.val < 6)
    (h : classLength f.cls ≠ some f.wire.length.val ∨ indexZeroOnly f.cls = true ∧ f.wire.index ≠ 0
      ∨ f.refusedContent = true) : f.judgeContent own = .formatError := by
  obtain ⟨n, hn⟩ := classLength_some hk
  rw [hn] at h
  simp only [Frame.judgeContent, hn]
  by_cases hlen : f.wire.length.val ≠ n
  · exact if_pos hlen
  · rw [if_neg hlen]
    rcases h with h | ⟨hzero, hindex⟩ | hcontent
    · exact absurd (congrArg some (not_not.mp hlen).symm) h
    · rw [hzero, decide_eq_true hindex]
      rfl
    · rw [hcontent]
      split <;> rfl

end

/-! ## Contents that R196 refuses -/

theorem payloadByte_lt (payload : List Byte) (k : Nat) : payloadByte payload k < 256 := (payload.getD k 0).isLt

theorem causeOf_none {n : Nat} (h : n = 0 ∨ 15 ≤ n) : causeOf n = none := by
  unfold causeOf
  split <;> first | omega | rfl

theorem takeStateOf_none {n : Nat} (h : 9 ≤ n) : takeStateOf n = none := by
  unfold takeStateOf
  split <;> first | omega | rfl

theorem parseStop_none {payload : List Byte} (h : payloadByte payload 0 / 64 = 0 ∨ payloadByte payload 0 % 32 = 0
    ∨ 15 ≤ payloadByte payload 0 % 32 ∨ payloadByte payload 1 % 4 = 3) : parseStop payload = none := by
  unfold parseStop
  split
  · next c k hc hk =>
    refine if_pos ?_
    have hcategory : payloadByte payload 0 / 64 ≠ 0 := fun h0 => by
      rw [field, show 2 ^ 6 = 64 from rfl, h0] at hc
      exact absurd hc nofun
    have hcause : ¬ (payloadByte payload 0 % 32 = 0 ∨ 15 ≤ payloadByte payload 0 % 32) := fun h0 => by
      rw [field, Nat.pow_zero, Nat.div_one] at hk
      exact absurd (hk.symm.trans (causeOf_none h0)) nofun
    rw [field, Nat.pow_zero, Nat.div_one]
    exact ((h.resolve_left hcategory).resolve_left fun h0 => hcause (.inl h0)).resolve_left fun h0 => hcause (.inr h0)
  · rfl

theorem parseStop_origin {payload : List Byte} {m : StopMsg} (h : parseStop payload = some m) :
    m.origin.val = payloadByte payload 1 / 32 := by
  unfold parseStop at h
  split at h
  · split at h
    · exact absurd h nofun
    · obtain rfl := Option.some.inj h
      have := payloadByte_lt payload 1
      show payloadByte payload 1 / 2 ^ 5 % 2 ^ 3 % 8 = _
      omega
  · exact absurd h nofun

theorem parseStatus_none {payload : List Byte} (h : 9 ≤ payloadByte payload 1 / 16) : parseStatus payload = none := by
  have hfield : field (payloadByte payload 1) 7 4 = payloadByte payload 1 / 16 := by
    have := payloadByte_lt payload 1
    show payloadByte payload 1 / 2 ^ 4 % 2 ^ 4 = _
    omega
  rw [parseStatus, hfield, takeStateOf_none h]
  rfl

theorem parseCue_none {payload : List Byte} (h : payloadByte payload 0 = 0 ∨ 9 ≤ payloadByte payload 0
    ∨ payloadByte payload 0 = 1 ∧ 3 ≤ payloadByte payload 4) : parseCue payload = none := by
  unfold parseCue
  rcases h with h | h | ⟨h1, h3⟩
  · rw [cueKindOf_none_iff.mpr (.inl (by omega))]
    rfl
  · rw [cueKindOf_none_iff.mpr (.inr (by omega))]
    rfl
  · rw [cueKindOf_armRecord_iff.mpr h1]
    exact if_pos ⟨rfl, h3⟩

/-- The contents that R196 names are refused. -/
theorem Frame.refusedContent_of {f : Frame} {byte : Nat → Nat} (hb : ∀ k, byte k = (f.wire.payload.getD k 0).toNat)
    (h : (f.cls = 0 ∧ (byte 0 / 64 = 0 ∨ byte 0 % 32 = 0 ∨ 15 ≤ byte 0 % 32 ∨ byte 1 % 4 = 3
        ∨ byte 1 / 32 ≠ f.wire.sender.val))
      ∨ ((f.cls = 1 ∨ f.cls = 5) ∧ 9 ≤ byte 1 / 16)
      ∨ (f.cls = 2 ∧ (byte 0 = 0 ∨ 9 ≤ byte 0 ∨ byte 0 = 1 ∧ 3 ≤ byte 4))) : f.refusedContent = true := by
  obtain rfl : byte = payloadByte f.wire.payload := funext hb
  obtain ⟨cls, w⟩ := f
  rcases h with ⟨rfl, h⟩ | ⟨rfl | rfl, h⟩ | ⟨rfl, h⟩
  · simp only [Frame.refusedContent]
    split
    · rfl
    · next m hm =>
      refine decide_eq_true fun horigin => ?_
      have hval := parseStop_origin hm
      rw [horigin] at hval
      have hnone := parseStop_none (payload := w.payload) (by tauto)
      exact absurd (hm.symm.trans hnone) nofun
  · simp only [Frame.refusedContent, parseStatus_none h, Option.isNone_none]
  · simp only [Frame.refusedContent, parseStatus_none h, Option.isNone_none]
  · simp only [Frame.refusedContent, parseCue_none h, Option.isNone_none]

/-! ## Frames that are only counted -/

theorem lif_calm {s : State} (l : Lif) (h : s.calm) : ({ s with lif := l } : State).calm := calm_of_same rfl rfl rfl rfl h

theorem frameStep_operating {f : Frame} {s : State} (h : s.operating = true) : frameStep f s
    = endEvent (carryOut f (f.judge (some s.cfg.own)) { s with lif := s.lif.buffer f true }) := by
  rw [frameStep, receiveFrame, if_pos h, if_pos h]

theorem carryOut_counted (f : Frame) {v : Verdict} (s : State) (hr : v ≠ .received) (hd : v ≠ .duplicate) : carryOut f v s
    = { s with
        lif := (s.lif.countVerdict v).countWindow s.cfg.checkThreshold (decide (v = .checkFailure))
        svp := s.svp.raiseIf (decide (v = .checkFailure) && s.lif.checkAlerts s.cfg.checkThreshold) flagCounterAlert } := by
  cases v <;> first | rfl | exact absurd rfl hr | exact absurd rfl hd

/-- The Line Interface once a frame has been counted under its verdict. -/
def Lif.counted (f : Frame) (v : Verdict) (threshold : Nat) (l : Lif) : Lif :=
  ((l.buffer f true).countVerdict v).countWindow threshold (decide (v = .checkFailure))

/-- A frame under a verdict that hands nothing on changes the Line Interface, and COUNTER-ALERT where a check alerts
(R9, R19, R20). -/
theorem frameStep_counted {f : Frame} {s : State} {v : Verdict} (h : s.calm) (hv : f.judge (some s.cfg.own) = v)
    (hr : v ≠ .received) (hd : v ≠ .duplicate) : frameStep f s = formAttention { s with
      lif := s.lif.counted f v s.cfg.checkThreshold
      svp := s.svp.raiseIf (decide (v = .checkFailure) && s.lif.checkAlerts s.cfg.checkThreshold) flagCounterAlert } := by
  rw [frameStep_operating h.1, hv, carryOut_counted f _ hr hd]
  exact endEvent_same (s := s) rfl rfl h

theorem formAttention_calm {s : State} (h : s.calm) : formAttention s = s :=
  (endEvent_same rfl rfl h).symm.trans (endEvent_calm h)

/-- Where no check alerts, that is all (R9, R19). -/
theorem frameStep_quietly {f : Frame} {s : State} {v : Verdict} (h : s.calm) (hv : f.judge (some s.cfg.own) = v)
    (hr : v ≠ .received) (hd : v ≠ .duplicate)
    (ha : v = .checkFailure → s.lif.checkAlerts s.cfg.checkThreshold = false) :
    frameStep f s = { s with lif := s.lif.counted f v s.cfg.checkThreshold } := by
  have hno : (decide (v = .checkFailure) && s.lif.checkAlerts s.cfg.checkThreshold) = false := by
    by_cases hc : v = .checkFailure
    · rw [ha hc, Bool.and_false]
    · rw [decide_eq_false hc, Bool.false_and]
  rw [frameStep_counted h hv hr hd, hno]
  exact formAttention_calm (lif_calm _ h)

section
variable {f : Frame} {l : Lif} {threshold : Nat}

theorem Lif.counted_notWhole (hw : f.whole = false) : l.counted f .formatError threshold
    = { l with rx := some f, idle := 0, ackDriven := false, formatErrors := min (l.formatErrors + 1) 65535 } := by
  simp [Lif.counted, Lif.buffer, Lif.countVerdict, Lif.countWindow, hw, satInc]

theorem Lif.counted_failed (hc : checkPasses f = false) : l.counted f .checkFailure threshold
    = { l with
        rx := some f, idle := 0, ackDriven := false, checkFailures := min (l.checkFailures + 1) 65535,
        windowCount := min (l.windowCount + 1) 65535, thresholdFlag := l.thresholdFlag || l.checkAlerts threshold } := by
  simp [Lif.counted, Lif.buffer, Lif.countVerdict, Lif.countWindow, hc, satInc]
  rfl

theorem Lif.counted_unknown (hw : f.whole = true) (hc : checkPasses f = true) : l.counted f .unknownClass threshold
    = { l with
        rx := some f, idle := 0, ackDriven := decide (l.mute ≠ .permanent),
        unknownClass := min (l.unknownClass + 1) 65535 } := by
  simp [Lif.counted, Lif.buffer, Lif.countVerdict, Lif.countWindow, hw, hc, satInc]

theorem Lif.counted_format (hw : f.whole = true) (hc : checkPasses f = true) : l.counted f .formatError threshold
    = { l with
        rx := some f, idle := 0, ackDriven := decide (l.mute ≠ .permanent),
        formatErrors := min (l.formatErrors + 1) 65535 } := by
  simp [Lif.counted, Lif.buffer, Lif.countVerdict, Lif.countWindow, hw, hc, satInc]

theorem Lif.checkAlerts_iff : l.checkAlerts threshold = true ↔ threshold ≠ 0 ∧ threshold ≤ min (l.windowCount + 1) 65535 := by
  rw [Lif.checkAlerts, Bool.and_eq_true, decide_eq_true_iff, decide_eq_true_iff]
  rfl

end

/-! ## Frames that are handed on -/

/-- A frame that is received stands in the buffer, acknowledged, when it is handed on (R7, R9). -/
theorem frameStep_received {f : Frame} {s : State} (h : s.hears f) :
    frameStep f s = endEvent (handFrame f { s with lif := s.lif.received f }) := by
  obtain ⟨hcalm, hj⟩ := h
  obtain ⟨hw, hc⟩ := Frame.judge_passed (.inl hj)
  rw [frameStep_operating hcalm.1, hj]
  have hlif : ((s.lif.buffer f true).countVerdict .received).countWindow s.cfg.checkThreshold false = s.lif.received f := by
    simp [Lif.buffer, Lif.countVerdict, Lif.countWindow, Lif.received, hw, hc]
  exact congrArg (fun l => endEvent (handFrame f { s with lif := l })) hlif

theorem handFrame_cue {w : Wire} {m : CueMsg} (s : State) (hm : parseCue w.payload = some m) :
    handFrame { cls := 2, wire := w } s = takeCue w.sender m s := by
  simp only [handFrame, hm]

theorem armContextAfter_eq (sender : StationNo) (m : CueMsg) (old : Option ArmContext) : armContextAfter sender m old
    = if m.kind = .armRecord then
        some { record := true, number := m.number, mask := m.mask, period := periodOf m.parameter.toNat, sender := sender }
      else if m.kind = .armPlay then
        some { record := false, number := m.number, mask := m.mask, period := none, sender := sender }
      else old := by
  unfold armContextAfter
  cases m.kind <;> rfl

/-- A cue heard is recorded, and acted on where it is new and names the own station (R36, R37, R165). -/
theorem takeCue_heard (w : Wire) (m : CueMsg) (s : State) :
    takeCue w.sender m { s with lif := s.lif.received { cls := 2, wire := w } }
      = if (!decide (s.peers[w.sender].cueSeq = some m.seq) && names m.mask s.cfg.own.val) = true then
          dispatchCue m (s.heardCue w m)
        else s.heardCue w m := by
  unfold takeCue State.heardCue
  rw [armContextAfter_eq]

theorem heardCue_feeds (s : State) (w : Wire) (m : CueMsg) : (s.heardCue w m).feeds = s.feeds :=
  (feeds_peers (s := s) (ps := (s.heardCue w m).peers) (fun st => by
    rw [State.heardCue, getElem_set_fin]
    split
    · next h => exact h ▸ rfl
    · rfl) fun st _ => by
    rw [State.heardCue, getElem_set_fin]
    split
    · next h => exact h ▸ rfl
    · rfl)

theorem heardCue_calm {s : State} (w : Wire) (m : CueMsg) (h : s.calm) : (s.heardCue w m).calm :=
  calm_of_same (heardCue_feeds s w m) rfl rfl rfl h

/-- A new cue is acted on by its owner, and the event ends. -/
theorem exec_hearsCue {c : Instr} {w : Wire} {m : CueMsg} {s : State} (h : s.hearsCue c w m) :
    exec c s = .next (endEvent (dispatchCue m (s.heardCue w m))) := by
  obtain ⟨hhears, hrow, hnew, hnamed⟩ := h
  rw [exec_cue s hrow, frameStep_received hhears, handFrame_cue _ hrow.1, takeCue_heard, if_pos]
  rw [decide_eq_false hnew, hnamed]
  rfl

/-- A new cue that its owner leaves alone is recorded only. -/
theorem exec_ignored {c : Instr} {w : Wire} {m : CueMsg} {s t : State} (h : s.hearsCue c w m)
    (ht : dispatchCue m (s.heardCue w m) = t) (hc : t.calm) : exec c s = .next t := by
  rw [exec_hearsCue h, ht, endEvent_calm hc]

/-! ## ERASE (R157) -/

theorem dispatchCue_erase {m : CueMsg} (s : State) (h : m.kind = .erase) : dispatchCue m s = eraseCue m s := by
  simp only [dispatchCue, h]

theorem eraseCue_none {m : CueMsg} {s : State} (h : s.erasable m.number = none) : eraseCue m s = s := by
  simp only [eraseCue, h]

theorem eraseCue_busy {m : CueMsg} {s : State} {i : EntryNo} (h : s.erasable m.number = some i)
    (hu : s.inUse m.number = true) :
    eraseCue m s = { s with tks := { s.tks with eraseIgnored := min (s.tks.eraseIgnored + 1) 65535 } } := by
  simp only [eraseCue, h, hu, if_true, satInc]

theorem eraseCue_some {m : CueMsg} {s : State} {i : EntryNo} (h : s.erasable m.number = some i)
    (hu : ¬ s.inUse m.number = true) : eraseCue m s = setStore (s.tks.eraseEntry i) s := by
  simp only [eraseCue, h, if_neg hu]

end Sys2Proof.Machine

open Sys2Proof Sys2Proof.Machine

/-- Settles O34: each judgement of R9 that hands nothing on counts the frame and leaves the sources as they are. -/
theorem discardedFramesOnlyCount : Obligations.DiscardedFramesOnlyCount := by
  intro c f s h hf
  refine ⟨fun hbad => ?_, fun hlen hidle hcheck => ?_, fun hlen hidle hcheck => ?_⟩
  · have hw : f.whole = false := by
      rw [← Bool.not_eq_true, Frame.whole_iff]
      rintro ⟨hlen, hidle⟩
      rcases hbad with hbad | hbad
      · exact absurd hlen (Nat.not_le.mpr hbad)
      · exact absurd (hbad.symm.trans hidle) nofun
    have hj := Frame.judge_notWhole (own := some s.cfg.own) hw
    rw [exec_frame hf (by rw [hj]; decide), frameStep_quietly h hj nofun nofun nofun, Lif.counted_notWhole hw]
  · have hw := Frame.whole_iff.mpr ⟨hlen, hidle⟩
    have hc : checkPasses f = false := Bool.eq_false_of_not_eq_true fun hp => hcheck (checkPasses_iff.mp hp)
    have hj := Frame.judge_failed (own := some s.cfg.own) hw hc
    refine ⟨fun hfew => ?_, fun harmed hmany => ?_⟩
    · have ha : s.lif.checkAlerts s.cfg.checkThreshold = false :=
        Bool.eq_false_of_not_eq_true fun ha => by
          obtain ⟨hne, hle⟩ := Lif.checkAlerts_iff.mp ha
          exact hfew.elim hne fun hlt => absurd hle (Nat.not_le.mpr hlt)
      rw [exec_frame hf (by rw [hj]; decide), frameStep_quietly h hj nofun nofun fun _ => ha, Lif.counted_failed hc, ha,
        Bool.or_false]
    · have ha := Lif.checkAlerts_iff.mpr ⟨harmed, hmany⟩
      rw [exec_frame hf (by rw [hj]; decide), frameStep_counted h hj nofun nofun, Lif.counted_failed hc, ha, Bool.or_true]
      exact ⟨_, rfl, rfl, rfl⟩
  · have hw := Frame.whole_iff.mpr ⟨hlen, hidle⟩
    have hc := checkPasses_iff.mpr hcheck
    have hjudge := Frame.judge_content (own := some s.cfg.own) hw hc
    refine ⟨fun hclass => ?_, fun byte hb hbad => ?_⟩
    · have hj := hjudge.trans (Frame.judgeContent_unknown hclass)
      rw [exec_frame hf (by rw [hj]; decide), frameStep_quietly h hj nofun nofun nofun, Lif.counted_unknown hw hc]
    · have hj : f.judge (some s.cfg.own) = .formatError := by
        refine hjudge.trans ?_
        rcases hbad with ⟨hk, hlength⟩ | ⟨hk, hindex⟩ | hcontent
        · exact Frame.judgeContent_format hk (.inl hlength)
        · have hzero : f.cls.val < 6 ∧ indexZeroOnly f.cls = true := by
            rcases hk with hk | hk | hk | hk <;> rw [hk] <;> decide
          exact Frame.judgeContent_format hzero.1 (.inr (.inl ⟨hzero.2, hindex⟩))
        · have hk : f.cls.val < 6 := by
            rcases hcontent with ⟨hk, -⟩ | ⟨hk | hk, -⟩ | ⟨hk, -⟩ <;> rw [hk] <;> decide
          exact Frame.judgeContent_format hk (.inr (.inr (Frame.refusedContent_of hb hcontent)))
      rw [exec_frame hf (by rw [hj]; decide), frameStep_quietly h hj nofun nofun nofun, Lif.counted_format hw hc]

/-- Settles O40: the cue is recorded, and no source of the station changes. -/
theorem repeatsAreOnlyRecorded : Obligations.RepeatsAreOnlyRecorded := by
  intro c w m s hhears hrow hold
  have hno : ¬ (!decide (s.peers[w.sender].cueSeq = some m.seq) && names m.mask s.cfg.own.val) = true := by
    rcases hold with h | h
    · rw [decide_eq_true h, Bool.not_true, Bool.false_and]
      exact Bool.false_ne_true
    · rw [h, Bool.and_false]
      exact Bool.false_ne_true
  rw [exec_cue s hrow, frameStep_received hhears, handFrame_cue _ hrow.1, takeCue_heard, if_neg hno,
    endEvent_calm (heardCue_calm w m hhears.1)]

/-- Settles O47: an erase is one operation of the store, which no reaction reads. -/
theorem eraseFreesTheTake : Obligations.EraseFreesTheTake := by
  intro c w m s h hk
  have hcalm := heardCue_calm w m h.1.1
  have hdispatch := dispatchCue_erase (s.heardCue w m) hk
  refine ⟨fun hnone => exec_ignored h (hdispatch.trans (eraseCue_none (erasable_none hnone))) hcalm,
    fun i h1 h250 hi => ⟨fun hnum hidle href => ?_, fun hfree => ?_⟩⟩
  · exact exec_ignored h (hdispatch.trans (eraseCue_busy (erasable_some h1 h250 hi) (inUse_iff.mpr ⟨hnum, hidle, href⟩)))
      (calm_of_same rfl rfl rfl rfl hcalm)
  · have huse : ¬ (s.heardCue w m).inUse m.number = true := fun hu => by
      obtain ⟨hnum, hidle, href⟩ := inUse_iff.mp hu
      rcases hfree with hfree | hfree | hfree
      · exact hfree hnum
      · exact hidle hfree
      · exact href hfree
    have hsome : (s.heardCue w m).erasable m.number = some i := erasable_some h1 h250 hi
    have hend : endEvent (setStore (s.tks.eraseEntry i) (s.heardCue w m))
        = formAttention (setStore (s.tks.eraseEntry i) (s.heardCue w m)) :=
      endEvent_same (s := s.heardCue w m) rfl rfl hcalm
    rw [exec_hearsCue h, hdispatch, eraseCue_some hsome huse]
    refine ⟨_, congrArg Host.Outcome.next hend, ?_⟩
    have hupload : (s.tks.eraseEntry i).upload = if s.tks.upload.map Prod.fst = some m.number then none else s.tks.upload :=
      congrArg (fun n => if s.tks.upload.map Prod.fst = some n then none else s.tks.upload) (Tks.find_number hi)
    refine ⟨rfl, rfl, rfl, Tks.eraseEntry_look s.tks i, rfl, fun written hw =>
      hupload.trans (if_pos (congrArg (Option.map Prod.fst) hw)), fun hw => hupload.trans ?_, rfl, rfl,
      setStore_takeChange (i := i) ?_⟩
    · refine if_neg fun hmap => ?_
      obtain ⟨⟨number, written⟩, hu, rfl⟩ := Option.map_eq_some_iff.mp hmap
      exact hw written hu
    · rw [Tks.eraseEntry_state]
      exact (Tks.find_state (t := s.tks) hi).symm
end

section
/-! PROOFS. What a stop leaves at the end of its event; STOP frames and the duplicate station (R23, R112, R132 to R135, R180):
O35, O39. -/

namespace Sys2Proof.Machine

/-! ## A stopped station at the end of an event -/

section
variable {s t : State}

theorem operating_of_quiet (h : t.quiet = s.quiet) : t.operating = s.operating := by
  rw [State.operating, State.operating, cfl_of_quiet h, inReset_congr (hold_of_quiet h)]

/-- Under a stop every axis is given to STOP (R51). -/
theorem endEvent_owner_stop (hop : s.operating = true) (h : s.halted) (i : AxisNo) :
    (endEvent s).axes[i].dsl.owner = .stop := by
  obtain ⟨-, hown, -⟩ := endEvent_formed s
  exact (hown ((operating_of_quiet (endEvent_quiet s)).trans hop) i).trans (if_pos (endEvent_grows h).halted.1)

theorem category_cut {c : Option Category} (h : categoryRank (some .cut) ≤ categoryRank c) : c = some .cut := by
  revert h
  cases c with
  | none => decide
  | some c => cases c <;> decide

/-- Cause with category CUT secures a station that is not under CUT already (R139). -/
theorem takeCause_cut_secured (loc : Bool) (o : StationNo) (k : Cause) (h : s.stop.category ≠ some .cut) :
    (takeCause loc o k .cut s).secured = true := by
  rw [State.secured, List.all_eq_true]
  rintro i -
  rcases takeCause_cases loc o k .cut s with ⟨-, ht⟩ | ⟨-, -, ht⟩ | ⟨-, hr, -⟩
  · rw [ht, beginStop_axis]
    exact AxisState.cut_secured _
  · rw [ht, escalateStop_axis]
    exact AxisState.cut_secured _
  · exact absurd (category_cut hr) h

/-- A cause with category CUT at the end of its event. -/
theorem endEvent_takeCause_cut (loc : Bool) (o : StationNo) (k : Cause) (s : State) :
    (endEvent (takeCause loc o k .cut s)).stop.category = some .cut
      ∧ (s.stop.category ≠ some .cut → (endEvent (takeCause loc o k .cut s)).secured = true) :=
  ⟨category_cut (endEvent_takeCause loc o k .cut s).2.1, fun h =>
    secured_of_secures (endEvent_rests (takeCause_stops loc o k .cut s).1).secures (takeCause_cut_secured loc o k h)⟩

theorem Lens.cancel_seeking {a : AxisState} (h : a.seeking = true) : a.lens.cancel = { a.lens with
    stall := 0, blocked := 0
    cal := { a.lens.cal with state := .uncalibrated, low := none, high := none, span := none, seekStart := none } } :=
  if_pos (by simpa [AxisState.seeking] using h)

theorem Lens.cancel_resting {a : AxisState} (h : a.seeking = false) : a.lens.cancel = a.lens :=
  if_neg (by simpa [AxisState.seeking] using h)

theorem AxisState.stopBegun_lens (c : Category) (cfg : AxisCfg) (a : AxisState) : (a.stopBegun c cfg).lens = a.lens.cancel :=
  (AxisState.sequence_lens (some c) cfg (({ a with releaseTimer := none } : AxisState).withLens a.lens.cancel)).1

theorem AxisState.stopBegun_reseed (c : Category) (cfg : AxisCfg) {a : AxisState} (h : a.seeking = true) :
    (a.stopBegun c cfg).mpr.reseed = true := by
  have hm := (AxisState.sequence_lens (some c) cfg (({ a with releaseTimer := none } : AxisState).withLens a.lens.cancel)).2.1
  rw [AxisState.stopBegun, hm]
  simp only [AxisState.withLens, Lens.cancel_seeking h]
  exact Bool.or_eq_true_iff.mpr (.inr (Bool.and_eq_true_iff.mpr ⟨h, rfl⟩))

end

/-! ## STOP frames (R135) -/

theorem Frame.judge_received {own : Option StationNo} {f : Frame} (h : f.judge own = .received) :
    f.refusedContent = false ∧ own ≠ some f.wire.sender := by
  obtain ⟨hw, hc⟩ := Frame.judge_passed (.inl h)
  rw [Frame.judge_content hw hc, Frame.judgeContent] at h
  split at h
  · exact absurd h nofun
  · split_ifs at h with _ _ href hown
    exact ⟨Bool.eq_false_of_not_eq_true href, hown⟩

/-- A STOP frame that is received is another station's. -/
theorem stop_origin_foreign {s : State} {w : Wire} {m : StopMsg} (h : s.hears { cls := 0, wire := w })
    (hm : parseStop w.payload = some m) : m.origin ≠ s.cfg.own := by
  obtain ⟨href, hown⟩ := Frame.judge_received h.2
  simp only [Frame.refusedContent, hm, decide_eq_false_iff_not, not_not] at href
  exact fun h => hown (congrArg some (h.symm.trans href))

theorem exec_stopFrame {s : State} {w : Wire} {m : StopMsg} (h : s.hears { cls := 0, wire := w })
    (hm : parseStop w.payload = some m) :
    exec (.stopFrame w) s = .next (endEvent (receiveStop m { s with lif := s.lif.received { cls := 0, wire := w } })) := by
  refine congrArg Host.Outcome.next ((frameStep_received h).trans (congrArg endEvent ?_))
  simp only [handFrame, hm]

theorem stopRepeat_iff {s : State} {m : StopMsg} : s.stopRepeat m = true ↔ m.copy ≠ 0 ∧ s.stopSeen[m.origin] = some m.seq := by
  rw [State.stopRepeat, Bool.and_eq_true, decide_eq_true_iff, decide_eq_true_iff]

/-! ## Nothing is placed in permanent mute (R23) -/

/-- A reaction that permanent mute keeps off the line interface. -/
def Lif.Hushes (l q : Lif) : Prop := l.mute = .permanent → q = l

theorem Lif.Hushes.refl (l : Lif) : l.Hushes l := fun _ => rfl

theorem Lif.Hushes.trans {a b c : Lif} (h : a.Hushes b) (h' : b.Hushes c) : a.Hushes c := fun hm =>
  (h' ((congrArg Lif.mute (h hm)).trans hm)).trans (h hm)

theorem Lif.placeStatus_hushes (m : StatusMsg) (l : Lif) : l.Hushes (l.placeStatus m) := fun h => by
  rw [Lif.placeStatus, if_pos h, if_pos h, if_pos h]

theorem Lif.placeStop_hushes (c : Category) (k : Cause) (q : Byte) (l : Lif) : l.Hushes (l.placeStop c k q) := fun h => by
  rw [Lif.placeStop, if_pos h, if_pos h]

section
variable (loc : Bool) (o : StationNo) (k : Cause) (c : Category) (s : State)

theorem announce_hushes {l : Lif} {s : State} (h : s.lif = l) : l.Hushes (announce s).lif := by
  subst h
  unfold announce
  split
  · exact s.lif.placeStatus_hushes _
  · exact .refl _

theorem requestBurstIf_hushes {l : Lif} {s : State} (h : s.lif = l) : l.Hushes (requestBurstIf loc k s).lif := by
  subst h
  unfold requestBurstIf requestBurst
  split
  · split
    · exact s.lif.placeStop_hushes _ _ _
    · exact .refl _
  · exact .refl _

theorem judgeStopped_hushes : s.lif.Hushes (judgeStopped s).lif := by
  unfold judgeStopped
  exact announce_hushes rfl

theorem abortByStop_hushes : s.lif.Hushes (abortByStop s).lif := by
  unfold abortByStop setTake
  exact announce_hushes rfl

theorem beginStop_hushes : s.lif.Hushes (beginStop loc o k c s).lif := by
  unfold beginStop
  refine Lif.Hushes.trans ?_ (judgeStopped_hushes _)
  rw [applySequence_lif]
  refine Lif.Hushes.trans ?_ (abortByStop_hushes _)
  refine Lif.Hushes.trans ?_ (announce_hushes rfl)
  rw [cancelSeeks_lif]
  exact requestBurstIf_hushes loc k rfl

theorem takeCause_hushes : s.lif.Hushes (takeCause loc o k c s).lif := by
  rcases takeCause_cases loc o k c s with ⟨-, ht⟩ | ⟨-, -, ht⟩ | ⟨-, -, ht⟩ <;> rw [ht]
  · exact beginStop_hushes loc o k c s
  · unfold escalateStop
    refine Lif.Hushes.trans ?_ (announce_hushes rfl)
    exact requestBurstIf_hushes loc k rfl
  · exact .refl _

theorem giveCauseIf_hushes (b : Bool) : s.lif.Hushes (giveCauseIf b k c s).lif := by
  unfold giveCauseIf
  split
  · exact takeCause_hushes true s.cfg.own k c s
  · exact .refl _

theorem foldl_giveCauseIf_hushes {α : Type} (b : α → Bool) (xs : List α) :
    s.lif.Hushes (xs.foldl (fun t x => giveCauseIf (b x) k c t) s).lif := by
  induction xs generalizing s with
  | nil => exact .refl _
  | cons x xs ih => exact (giveCauseIf_hushes k c s (b x)).trans (ih _)

theorem setZones_hushes (new : Vector ZoneState 8) : s.lif.Hushes (setZones new s).lif :=
  foldl_giveCauseIf_hushes .zoneBreach .brake { s with zones := new }
    (fun z : ZoneNo => new[z].breached && !s.zones[z].breached) allEight

theorem settleWord_hushes : s.lif.Hushes (settleWord s).lif := by
  unfold settleWord reformZones
  refine Lif.Hushes.trans ?_ (setZones_hushes _ _)
  exact announce_hushes rfl

theorem settle_hushes (n : Nat) : s.lif.Hushes (settle n s).lif := by
  induction n generalizing s with
  | zero => exact .refl _
  | succ n ih =>
    unfold settle
    split
    · exact .refl _
    · exact (settleWord_hushes s).trans (ih _)

theorem endEvent_hushes : s.lif.Hushes (endEvent s).lif := by
  unfold endEvent
  rw [formAttention_lif]
  split
  · rw [formOutputs_lif, formOwners_lif, formCrew_lif]
    exact settle_hushes (formOwners s) 4
  · exact .refl _

end

theorem Lif.pendingIds_muted (own : StationNo) (l : Lif) : l.enterPermanentMute.pendingIds own = [] := by
  simp [Lif.enterPermanentMute, Lif.pendingIds, allAxes]

end Sys2Proof.Machine

open Sys2Proof Sys2Proof.Machine

/-- Settles O35: a repeat changes no source; any other STOP frame takes its cause, and the end of the event only adds to it. -/
theorem stopFramesStop : Obligations.StopFramesStop := by
  intro w m s h hm
  have hforeign := stop_origin_foreign h hm
  refine ⟨fun hcopy hseen => ?_, fun hnew => ?_⟩
  · rw [exec_stopFrame h hm, receiveStop, if_pos (.inr (stopRepeat_iff.mpr ⟨hcopy, hseen⟩)), endEvent_calm (lif_calm _ h.1)]
  · obtain ⟨u, hu⟩ : ∃ u : State, u = { s with
        lif := s.lif.received { cls := 0, wire := w }, stopSeen := s.stopSeen.set m.origin (some m.seq) } := ⟨_, rfl⟩
    have hexec : exec (.stopFrame w) s = .next (endEvent (takeCause false m.origin m.cause m.category u)) := by
      rw [exec_stopFrame h hm, receiveStop, if_neg, hu]
      rintro (hown | hrep)
      · exact hforeign hown
      · obtain ⟨hcopy, hseen⟩ := stopRepeat_iff.mp hrep
        exact hnew.elim hcopy fun hne => hne hseen
    have hop : u.operating = true := hu ▸ h.1.1
    have hstop : u.stop = s.stop := hu ▸ rfl
    have htkq : u.tkq = s.tkq := hu ▸ rfl
    have haxes : u.axes = s.axes := hu ▸ rfl
    have htime : u.time = s.time := hu ▸ rfl
    have hq := takeCause_quiet false m.origin m.cause m.category u
    obtain ⟨hhalt, -⟩ := takeCause_stops false m.origin m.cause m.category u
    obtain ⟨⟨hrun, hres⟩, hrank, -, hremote⟩ := endEvent_takeCause false m.origin m.cause m.category u
    have hrest := endEvent_rests hhalt
    refine ⟨_, hexec, ?_, hremote rfl, hrun, hres, hrank,
      endEvent_owner_stop ((operating_of_quiet hq).trans hop) hhalt, fun hfirst => ?_, fun hlater => ?_⟩
    · have hseen : u.stopSeen = s.stopSeen.set m.origin (some m.seq) := hu ▸ rfl
      exact (congrArg (·.stopSeen) (hrest.quiet.trans hq)).trans hseen
    · have hnot : ¬ u.halted := fun hh => hfirst.elim (hstop ▸ hh.1) (hstop ▸ hh.2)
      have ht : takeCause false m.origin m.cause m.category u = beginStop false m.origin m.cause m.category u := by
        rcases takeCause_cases false m.origin m.cause m.category u with ⟨-, ht⟩ | ⟨hh, -⟩ | ⟨hh, -⟩
        · exact ht
        · exact absurd hh hnot
        · exact absurd hh hnot
      rw [ht] at hrest ⊢
      have hraises := beginStop_raises_both false m.origin m.cause m.category u
      obtain ⟨hcategory, -, -, hrecord, -⟩ := beginStop_stop false m.origin m.cause m.category u
      refine ⟨?_, ?_, fun hbusy => ?_, fun hcut => ?_, fun i => ⟨fun hseek => ⟨?_, ?_, ?_⟩, fun hseek => ?_⟩⟩
      · rw [hrest.grows.first, hrecord, htime]
      · exact endEvent_flag (hraises _ (State.Raises.raiseIf (s := { s with svp := u.svp.raise flagStopEnter }) rfl _
          (Svp.raise_set (by decide) u.svp)))
      · rw [hrest.tkq, beginStop_tkq, htkq, if_neg hbusy]
        exact ⟨rfl, rfl, rfl⟩
      · refine secured_of_secures hrest.secures ?_
        rw [State.secured, List.all_eq_true]
        rintro i -
        rw [beginStop_axis, hcut]
        exact AxisState.cut_secured _
      · refine endEvent_flag (hraises _ (Svp.raiseIf_set ?_ (by decide) _))
        exact List.any_eq_true.mpr ⟨i, mem_allAxes i, haxes ▸ hseek⟩
      · rw [hrest.mpr, beginStop_axis, haxes]
        exact AxisState.stopBegun_reseed _ _ hseek
      · rw [hrest.lens, beginStop_axis, haxes, AxisState.stopBegun_lens, Lens.cancel_seeking hseek]
      · rw [hrest.lens, beginStop_axis, haxes, AxisState.stopBegun_lens, Lens.cancel_resting hseek]
    · have hhalted : u.halted := by
        rw [State.halted, hstop]
        rcases hlater with h | h <;> rw [h] <;> exact ⟨nofun, nofun⟩
      have hgrows := (takeCause_grows false m.origin m.cause m.category hhalted).trans hrest.grows
      rw [hstop] at hgrows
      exact ⟨hgrows.first, hgrows.rank, hgrows.remotes⟩

/-- Settles O39: the slots are emptied before the cause is taken, and permanent mute keeps every reaction off the line. -/
theorem duplicateMutesForGood : Obligations.DuplicateMutesForGood := by
  intro c f s h hf hj
  obtain ⟨hw, hc⟩ := Frame.judge_passed (.inr hj)
  have hlif : ((s.lif.buffer f true).countVerdict .duplicate).countWindow s.cfg.checkThreshold false = s.lif.received f := by
    simp [Lif.buffer, Lif.countVerdict, Lif.countWindow, Lif.received, hw, hc]
  have hexec : exec c s = .next (endEvent (findDuplicate { s with lif := s.lif.received f })) := by
    rw [exec_frame hf (by rw [hj]; decide), frameStep_operating h.1, hj]
    exact congrArg (fun l => Host.Outcome.next (endEvent (findDuplicate { s with lif := l }))) hlif
  refine ⟨fun hmute => ?_, fun hmute => ?_⟩
  · obtain ⟨u, hu⟩ : ∃ u : State, u = { s with
        lif := (s.lif.received f).enterPermanentMute, svp := s.svp.raiseIf (!s.lif.cues.isEmpty) flagCueFail } := ⟨_, rfl⟩
    have hgive : findDuplicate { s with lif := s.lif.received f } = takeCause true s.cfg.own .duplicate .cut u := by
      rw [findDuplicate, hu]
      exact if_neg hmute
    obtain ⟨hcategory, hsecured⟩ := endEvent_takeCause_cut true s.cfg.own .duplicate u
    obtain ⟨-, -, hmark, -⟩ := endEvent_takeCause true s.cfg.own .duplicate .cut u
    have hul : u.lif = (s.lif.received f).enterPermanentMute := hu ▸ rfl
    have hl : (endEvent (takeCause true s.cfg.own .duplicate .cut u)).lif = (s.lif.received f).enterPermanentMute :=
      (((takeCause_hushes true s.cfg.own .duplicate .cut u).trans (endEvent_hushes _)) (hul ▸ rfl)).trans hul
    refine ⟨_, hexec.trans (congrArg (fun v => Host.Outcome.next (endEvent v)) hgive), ?_, ?_, ?_, ?_, fun hcues => ?_,
      hmark rfl, hcategory, fun hn => hsecured (hu ▸ hn)⟩
    · rw [hl]
      rfl
    · rw [hl]
      exact Lif.pendingIds_muted _ _
    · rw [hl]
      rfl
    · rw [hl]
      rfl
    · refine endEvent_flag (takeCause_raises true s.cfg.own .duplicate .cut u _ ?_)
      have hflags : u.svp = s.svp.raiseIf (!s.lif.cues.isEmpty) flagCueFail := hu ▸ rfl
      rw [hflags]
      exact Svp.raiseIf_set (by simpa using hcues) (by decide) _
  · have hgive : findDuplicate { s with lif := s.lif.received f } = { s with lif := s.lif.received f } := if_pos hmute
    rw [hexec, hgive, endEvent_calm (lif_calm _ h)]
end

section
/-! PROOFS. DEMAND frames (R36, R55, R56, R64, R65): O37. -/

namespace Sys2Proof.Machine

/-! ## The live gate (R55) -/

section
variable {s t : State} {i : AxisNo} {st : StationNo} {latch : Bool} {fresh : Nat}

theorem Feeds.enableOpen_eq (h : t.feeds = s.feeds) (hw : t.word = s.word) (i : AxisNo) : t.enableOpen i = s.enableOpen i := by
  rw [State.enableOpen, State.enableOpen, Feeds.cfg_eq h]
  split
  · rfl
  · rw [Feeds.readSlot_eq h hw]

theorem gateFor_away (hsrc : s.cfg.axes[i].liveSource = some st) (hp : s.present st = false) :
    s.gateFor i latch fresh = .closedSource := by
  simp only [State.gateFor, hsrc, hp, Bool.not_false, if_true]

theorem gateFor_disabled (hsrc : s.cfg.axes[i].liveSource = some st) (hp : s.present st = true)
    (he : s.enableOpen i = true) : s.gateFor i latch fresh = .closedEnable := by
  simp only [State.gateFor, hsrc, hp, he, Bool.not_true, Bool.false_eq_true, if_false, if_true]

theorem gateFor_stale (hsrc : s.cfg.axes[i].liveSource = some st) (hp : s.present st = true)
    (he : s.enableOpen i = false) (hf : s.cfg.axes[i].demandTimeout < fresh) : s.gateFor i latch fresh = .closedStale := by
  simp only [State.gateFor, hsrc, hp, he, Bool.not_true, Bool.false_eq_true, if_false, gt_iff_lt, hf, if_true]

theorem gateFor_enabled (hsrc : s.cfg.axes[i].liveSource = some st) (hp : s.present st = true)
    (he : s.enableOpen i = false) (hf : fresh ≤ s.cfg.axes[i].demandTimeout) :
    s.gateFor i latch fresh = if latch then .zeroWait else .opened := by
  simp only [State.gateFor, hsrc, hp, he, Bool.not_true, Bool.false_eq_true, if_false, gt_iff_lt, Nat.not_lt.mpr hf]

end

/-! ## A DEMAND taken (R65) -/

/-- The demand's kind is the one of its target axis (R64). -/
theorem kindMatches_iff {k : AxisKind} {lens : Bool} :
    kindMatches k lens = true ↔ (k = .motion ∧ lens = false) ∨ (k = .lens ∧ lens = true) := by
  cases k <;> cases lens <;> decide

section
variable {s : State} {i : AxisNo} {st : StationNo} {v : Int} {d : Dsl}

theorem takeDemandOn_fields : (s.takeDemandOn i v d).owner = d.owner ∧ (s.takeDemandOn i v d).held = d.held
    ∧ (s.takeDemandOn i v d).fresh = 0 := ⟨rfl, rfl, rfl⟩

theorem takeDemandOn_liveVel (hk : s.cfg.axes[i].kind = .motion) :
    (s.takeDemandOn i v d).liveVel = max (-(s.cfg.axes[i].vmax : Int)) (min v s.cfg.axes[i].vmax) := if_pos hk

theorem takeDemandOn_liveUnit (hk : s.cfg.axes[i].kind = .lens) :
    (s.takeDemandOn i v d).liveUnit = some (max 0 (min v 65535)).toNat := if_pos hk

theorem takeDemandOn_gate : (s.takeDemandOn i v d).gate
    = s.gateFor i (latchAfter s.cfg.axes[i] (s.gateFor i false 0).closed v d.latch) 0 := rfl

/-- Where the source is PRESENT and the enable line reads 1, the gate follows the latch that the demand leaves (R55, R56). -/
theorem takeDemandOn_enabled (hsrc : s.cfg.axes[i].liveSource = some st) (hp : s.present st = true)
    (he : s.enableOpen i = false) :
    (s.takeDemandOn i v d).latch = latchAfter s.cfg.axes[i] false v d.latch
      ∧ (s.takeDemandOn i v d).gate = if latchAfter s.cfg.axes[i] false v d.latch then .zeroWait else .opened := by
  have hclosed : (s.gateFor i false 0).closed = false := by
    rw [gateFor_enabled hsrc hp he (Nat.zero_le _)]
    rfl
  have hgate := gateFor_enabled (latch := latchAfter s.cfg.axes[i] false v d.latch) hsrc hp he (Nat.zero_le _)
  refine ⟨?_, ?_⟩
  · show ((latchAfter s.cfg.axes[i] (s.gateFor i false 0).closed v d.latch)
      || (decide (s.cfg.axes[i].kind = .motion)
        && (s.gateFor i (latchAfter s.cfg.axes[i] (s.gateFor i false 0).closed v d.latch) 0).closed && !d.gate.closed)) = _
    rw [hclosed, hgate]
    cases latchAfter s.cfg.axes[i] false v d.latch <;> simp [Gate.closed]
  · rw [takeDemandOn_gate, hclosed, hgate]

theorem latchAfter_clears {c : AxisCfg} {latch : Bool} (h : c.kind = .lens ∨ v.natAbs ≤ c.deadband) :
    latchAfter c false v latch = false := by
  rcases h with h | h
  · simp [latchAfter, h]
  · simp [latchAfter, Nat.not_lt.mpr h]

theorem latchAfter_stays {c : AxisCfg} (hk : c.kind = .motion) (h : c.deadband < v.natAbs) :
    latchAfter c false v true = true := by
  simp [latchAfter, hk, h]

end

/-! ## A DEMAND judged (R36, R64) -/

theorem hearDemand_gaps_next {i : Fin 4} {seq : BitVec 4} {e : PeerEntry}
    (h : e.demandSeq[i] = none ∨ e.demandSeq[i] = some (seq - 1)) : (e.hearDemand i seq).gaps = e.gaps := by
  rcases h with h | h
  · simp only [PeerEntry.hearDemand, h]
  · simp only [PeerEntry.hearDemand, h, BitVec.sub_add_cancel, if_true]

theorem hearDemand_gaps_skip {i : Fin 4} {seq old : BitVec 4} {e : PeerEntry} (h : e.demandSeq[i] = some old)
    (hne : seq ≠ old + 1) : (e.hearDemand i seq).gaps = e.gaps.set i (min (e.gaps[i] + 1) 65535) := by
  simp only [PeerEntry.hearDemand, h, if_neg hne]
  rfl

section
variable {sender : StationNo} {m : DemandMsg} {s : State}

theorem receiveDemand_foreignStation (h : m.station ≠ s.cfg.own) : receiveDemand sender m s = s := if_pos h

theorem receiveDemand_mismatched (h : m.station = s.cfg.own) (hk : kindMatches s.cfg.axes[m.axis].kind m.lens = false) :
    receiveDemand sender m s = { s with mismatched := satInc s.mismatched } := by
  rw [receiveDemand, if_neg (not_not.mpr h), hk]
  rfl

theorem receiveDemand_foreign (h : m.station = s.cfg.own) (hk : kindMatches s.cfg.axes[m.axis].kind m.lens = true)
    (hs : s.cfg.axes[m.axis].liveSource ≠ some sender) :
    receiveDemand sender m s = { s with foreign := satInc s.foreign } := by
  rw [receiveDemand, if_neg (not_not.mpr h), hk]
  exact if_pos hs

theorem receiveDemand_taken (h : m.station = s.cfg.own) (hk : kindMatches s.cfg.axes[m.axis].kind m.lens = true)
    (hs : s.cfg.axes[m.axis].liveSource = some sender) :
    receiveDemand sender m s = s.modAxis m.axis fun a => { a with dsl := s.takeDemandOn m.axis m.value a.dsl } := by
  rw [receiveDemand, if_neg (not_not.mpr h), hk]
  exact if_neg (not_not.mpr hs)

/-- A demand takes its place in one axis, or only counts. -/
theorem receiveDemand_frame : receiveDemand sender m s = { s with
    mismatched := (receiveDemand sender m s).mismatched, foreign := (receiveDemand sender m s).foreign
    axes := (receiveDemand sender m s).axes }
    ∧ (∀ i : AxisNo, i ≠ m.axis → (receiveDemand sender m s).axes[i] = s.axes[i])
    ∧ Stays s (receiveDemand sender m s) := by
  unfold receiveDemand
  split_ifs
  · exact ⟨rfl, fun _ _ => rfl, .refl s⟩
  · exact ⟨rfl, fun _ _ => rfl, rfl, rfl⟩
  · exact ⟨rfl, fun _ _ => rfl, rfl, rfl⟩
  · refine ⟨rfl, fun i hi => (getElem_set_fin ..).trans (if_neg hi.symm), stays_axes fun i => ?_⟩
    rw [getElem_set_fin]
    split
    · next hi =>
      subst hi
      exact ⟨rfl, rfl, rfl, rfl⟩
    · exact ⟨rfl, rfl, rfl, rfl⟩

end

end Sys2Proof.Machine

open Sys2Proof Sys2Proof.Machine

/-- Settles O37: a demand changes no source, so the event ends with the axis as the demand leaves it. -/
theorem demandFramesAreJudged : Obligations.DemandFramesAreJudged := by
  rintro w m s ⟨hcalm, hj⟩ rfl
  obtain ⟨m, hm⟩ : ∃ m, m = parseDemand w.payload := ⟨_, rfl⟩
  obtain ⟨e, he⟩ : ∃ e, e = s.peers[w.sender].hearDemand w.index m.seq := ⟨_, rfl⟩
  obtain ⟨u, hu⟩ : ∃ u : State, u = { s with
      lif := s.lif.received { cls := 3, wire := w }, peers := s.peers.set w.sender e } := ⟨_, rfl⟩
  have hfeeds : u.feeds = s.feeds := by
    rw [hu]
    refine (feeds_peers (s := { s with lif := s.lif.received { cls := 3, wire := w } }) (fun st => ?_) fun st _ => ?_).trans rfl
    all_goals
      rw [getElem_set_fin]
      split
      · next h => exact h ▸ he ▸ rfl
      · rfl
  have hucalm : u.calm := calm_of_same hfeeds (hu ▸ rfl) (hu ▸ rfl) (hu ▸ rfl) hcalm
  obtain ⟨hframe, hother, hstays⟩ := receiveDemand_frame (sender := w.sender) (m := m) (s := u)
  have htcalm : (receiveDemand w.sender m u).calm :=
    calm_of_same hstays.1 hstays.2 (congrArg (·.svp.calling) hframe) (congrArg (·.svp.attention) hframe) hucalm
  have hexec : exec (.demandFrame w) s = .next (receiveDemand w.sender m u) := by
    have hstep : exec (.demandFrame w) s = .next (frameStep { cls := 3, wire := w } s) := rfl
    rw [hstep, frameStep_received ⟨hcalm, hj⟩]
    refine congrArg Host.Outcome.next (Eq.trans (congrArg endEvent ?_) (endEvent_calm htcalm))
    rw [hu, he, hm]
    rfl
  rw [← hm]
  have hcfg : u.cfg = s.cfg := hu ▸ rfl
  have hpresent := Feeds.present_eq hfeeds w.sender
  have henable := Feeds.enableOpen_eq hfeeds (hu ▸ rfl : u.word = s.word) m.axis
  refine ⟨_, e, hexec, he ▸ rfl, fun h => he ▸ hearDemand_gaps_next h, fun old h hne => he ▸ hearDemand_gaps_skip h hne,
    he ▸ rfl, hframe.trans ?_, fun i hi => (hother i hi).trans (hu ▸ rfl), fun h => ?_, fun hown fits hfits =>
    ⟨fun hno => ?_, fun hyes hsrc => ?_, fun hyes hsrc => ?_⟩⟩
  · rw [hu]
  · rw [receiveDemand_foreignStation (hcfg.symm ▸ h), hu]
    exact ⟨rfl, rfl, rfl⟩
  · have hk : kindMatches u.cfg.axes[m.axis].kind m.lens = false := by
      rw [hcfg]
      exact Bool.eq_false_of_not_eq_true fun h => hno (hfits.mpr (kindMatches_iff.mp h))
    rw [receiveDemand_mismatched (hcfg.symm ▸ hown) hk, hu]
    exact ⟨rfl, rfl, rfl⟩
  · have hk : kindMatches u.cfg.axes[m.axis].kind m.lens = true := by
      rw [hcfg]
      exact kindMatches_iff.mpr (hfits.mp hyes)
    rw [receiveDemand_foreign (hcfg.symm ▸ hown) hk (by rw [hcfg]; exact hsrc), hu]
    exact ⟨rfl, rfl, rfl⟩
  · have hk : kindMatches u.cfg.axes[m.axis].kind m.lens = true := by
      rw [hcfg]
      exact kindMatches_iff.mpr (hfits.mp hyes)
    have hsrc' : u.cfg.axes[m.axis].liveSource = some w.sender := by
      rw [hcfg]
      exact hsrc
    have haxis : (receiveDemand w.sender m u).axes[m.axis]
        = { s.axes[m.axis] with dsl := u.takeDemandOn m.axis m.value s.axes[m.axis].dsl } := by
      rw [receiveDemand_taken (hcfg.symm ▸ hown) hk hsrc', State.modAxis, getElem_set_fin, if_pos rfl, hu]
    have hdsl := congrArg AxisState.dsl haxis
    obtain ⟨howner, hheld, hfresh⟩ := takeDemandOn_fields (s := u) (i := m.axis) (v := m.value) (d := s.axes[m.axis].dsl)
    refine ⟨?_, ?_, haxis.trans (hdsl ▸ rfl), ?_⟩
    · rw [receiveDemand_taken (hcfg.symm ▸ hown) hk hsrc', hu]
      rfl
    · rw [receiveDemand_taken (hcfg.symm ▸ hown) hk hsrc', hu]
      rfl
    rw [hdsl]
    have hkind := kindMatches_iff.mp hk
    have hmotion (h : m.lens = false) : u.cfg.axes[m.axis].kind = .motion :=
      (hkind.resolve_right fun hl => absurd (h.symm.trans hl.2) nofun).1
    have hlenses (h : m.lens = true) : u.cfg.axes[m.axis].kind = .lens :=
      (hkind.resolve_left fun hl => absurd (h.symm.trans hl.2) nofun).1
    refine ⟨howner, hheld, hfresh, fun hlens => ?_, fun hlens => ?_, fun hp hen hin => ?_, fun hp hen hlens hout hlatch => ?_,
      fun hp => ?_, fun hp hen => ?_⟩
    · rw [takeDemandOn_liveVel (hmotion hlens), hcfg]
    · exact takeDemandOn_liveUnit (hlenses hlens)
    · obtain ⟨hl, hg⟩ := takeDemandOn_enabled (v := m.value) (d := s.axes[m.axis].dsl) hsrc' (hpresent.trans hp)
        (henable.trans hen)
      rw [hl, hg, latchAfter_clears (hin.imp hlenses fun hin => hcfg ▸ hin)]
      exact ⟨rfl, rfl⟩
    · obtain ⟨hl, hg⟩ := takeDemandOn_enabled (v := m.value) (d := s.axes[m.axis].dsl) hsrc' (hpresent.trans hp)
        (henable.trans hen)
      rw [hl, hg, hlatch, latchAfter_stays (hmotion hlens) (hcfg ▸ hout)]
      exact ⟨rfl, rfl⟩
    · rw [takeDemandOn_gate, gateFor_away hsrc' (hpresent.trans hp)]
    · rw [takeDemandOn_gate, gateFor_disabled hsrc' (hpresent.trans hp) (henable.trans hen)]
end

section
/-! PROOFS. Zones through the reactions of an event, and AXIS frames (R27, R115, R117, R119, R120): O38. -/

namespace Sys2Proof.Machine

/-! ## Readings (R115) -/

section
variable {s t : State}

theorem reports_of_quiet (h : t.quiet = s.quiet) (st : StationNo) : t.peers[st].reports = s.peers[st].reports :=
  congrArg (·.reports) (peerQuiet_of_quiet h st)

theorem link_of_quiet (h : t.quiet = s.quiet) (i : AxisNo) : t.axes[i].link = s.axes[i].link :=
  congrArg (·.link) (axisQuiet_of_quiet h i)

theorem time_of_quiet (h : t.quiet = s.quiet) : t.time = s.time := congrArg (·.time) h

theorem present_of_quiet (h : t.quiet = s.quiet) (st : StationNo) : t.present st = s.present st := by
  rw [State.present, State.present, presence_of_quiet h]

theorem reportUsable_of_quiet (h : t.quiet = s.quiet) (st : StationNo) (i : AxisNo) :
    t.reportUsable st i = s.reportUsable st i := by
  rw [State.reportUsable, State.reportUsable, State.reportAge, State.reportAge, present_of_quiet h, reports_of_quiet h,
    cfg_of_quiet h, time_of_quiet h]

/-- What a qualifier reads is not what a reaction changes. -/
theorem qualReading_of_quiet (h : t.quiet = s.quiet) (c : ZoneCfg) : t.qualReading c = s.qualReading c := by
  unfold State.qualReading
  cases c.qualifier with
  | none => rfl
  | some q =>
    dsimp only
    rw [cfg_of_quiet h, link_of_quiet h, reportUsable_of_quiet h, reports_of_quiet h]

theorem gateReading_ungated {c : ZoneCfg} (h : c.gateLine = none) : s.gateReading c = none := by
  rw [State.gateReading, h, Option.map_none]

end

/-! ## Evaluation (R117, R119) -/

section
variable (c : ZoneCfg) (q : QualReading) (gate : Option Bool) (position : Option Int) (z : ZoneState)

theorem ZoneState.evaluate_qualifier : (z.evaluate c q gate position).qualifier = q := by
  unfold ZoneState.evaluate
  dsimp only
  split <;> rfl

theorem ZoneState.evaluate_active :
    (z.evaluate c q gate position).active = (decide (q ≠ .outside) && decide (gate ≠ some false)) := by
  unfold ZoneState.evaluate
  dsimp only
  split <;> rfl

theorem breachTest_iff (x : Int) : breachTest c x = true
    ↔ c.lo ≤ x ∧ x ≤ c.hi ∧ (c.tolerance : Int) < min (x - c.lo) (c.hi - x) := decide_eq_true_iff

/-- A zone that an evaluation makes active is tested at once. -/
theorem ZoneState.evaluate_breached {x : Int} (ha : z.active = false) (hb : z.breached = false) :
    (z.evaluate c q gate (some x)).breached = true
      ↔ (z.evaluate c q gate (some x)).active = true ∧ breachTest c x = true := by
  rw [ZoneState.evaluate_active]
  unfold ZoneState.evaluate ZoneState.test
  rw [ha, hb]
  cases hact : decide (q ≠ .outside) && decide (gate ≠ some false) <;> simp

end

theorem zoneNow_used {s : State} {z : ZoneNo} (h : s.cfg.zones[z].inUse = true) : s.zoneNow z
    = s.zones[z].evaluate s.cfg.zones[z] (s.qualReading s.cfg.zones[z]) (s.gateReading s.cfg.zones[z])
      s.axes[s.cfg.zones[z].axis].link.validPosition := if_pos h

/-! ## Zones at the end of an event -/

/-- A zone shows what its qualifier reads. -/
def State.zoneRead (s : State) (z : ZoneNo) : Prop := s.zones[z].qualifier = s.qualReading s.cfg.zones[z]

section
variable {s t : State} {z : ZoneNo}

theorem setZones_zone (new : Vector ZoneState 8) (s : State) (z : ZoneNo) : (setZones new s).zones[z] = new[z] :=
  congrArg (fun v : Vector ZoneState 8 => v[z]) (setZones_board new s).2.2.1

theorem reformZones_zone (f : ZoneNo → Bool) (s : State) (z : ZoneNo) :
    (reformZones f s).zones[z] = if f z then s.zoneNow z else s.zones[z] :=
  (setZones_zone _ s z).trans (getElem_ofFn_fin _ z)

theorem zoneRead_of_quiet (h : t.quiet = s.quiet) (hz : t.zones[z] = s.zones[z]) (hr : s.zoneRead z) : t.zoneRead z := by
  rw [State.zoneRead, hz, qualReading_of_quiet h, cfg_of_quiet h]
  exact hr

/-- A zone that is re-formed shows what its qualifier reads. -/
theorem reformZones_zoneRead {f : ZoneNo → Bool} (hu : s.cfg.zones[z].inUse = true) (h : f z = true ∨ s.zoneRead z) :
    (reformZones f s).zoneRead z := by
  have hq := reformZones_quiet f s
  rw [State.zoneRead, qualReading_of_quiet hq, cfg_of_quiet hq, reformZones_zone]
  split
  · rw [zoneNow_used hu, ZoneState.evaluate_qualifier]
  · next hf => exact h.resolve_left hf

theorem settleWord_zoneRead (hu : s.cfg.zones[z].inUse = true) (h : s.zoneRead z) : (settleWord s).zoneRead z := by
  have hq : (reformGates (announce { s with word := s.formWord }).gatesOfOwnWord
      (announce { s with word := s.formWord })).quiet = s.quiet :=
    (reformGates_quiet _ _).trans (announce_quiet { s with word := s.formWord })
  exact reformZones_zoneRead hu (.inr (zoneRead_of_quiet hq rfl h))

theorem settle_zoneRead (n : Nat) (hu : s.cfg.zones[z].inUse = true) (h : s.zoneRead z) : (settle n s).zoneRead z := by
  induction n generalizing s with
  | zero => exact h
  | succ n ih =>
    unfold settle
    split
    · exact h
    · exact ih (by rw [cfg_of_quiet (settleWord_quiet s)]; exact hu) (settleWord_zoneRead hu h)

theorem endEvent_zones (hop : s.operating = true) : (endEvent s).zones = (settle 4 (formOwners s)).zones := by
  rw [endEvent, if_pos hop, formAttention_zones, formOutputs_zones, formOwners_zones, formCrew_zones]

/-- A zone that shows what its qualifier reads still does at the end of the event. -/
theorem endEvent_zoneRead (hop : s.operating = true) (hu : s.cfg.zones[z].inUse = true) (h : s.zoneRead z) :
    (endEvent s).zones[z].qualifier = s.qualReading s.cfg.zones[z] := by
  have hread : (settle 4 (formOwners s)).zoneRead z :=
    settle_zoneRead 4 hu (zoneRead_of_quiet (formOwners_quiet s) rfl h)
  have hq := (settle_quiet 4 (formOwners s)).trans (formOwners_quiet s)
  rw [State.zoneRead, qualReading_of_quiet hq, cfg_of_quiet hq] at hread
  rw [← hread]
  exact congrArg (fun v : Vector ZoneState 8 => v[z].qualifier) (endEvent_zones hop)

theorem zonesOfOwnWord_congr (h : t.cfg = s.cfg) (z : ZoneNo) : t.zonesOfOwnWord z = s.zonesOfOwnWord z := by
  rw [State.zonesOfOwnWord, State.zonesOfOwnWord, h]

theorem zonesOfOwnWord_ungated (h : s.cfg.zones[z].gateLine = none) : s.zonesOfOwnWord z = false := by
  rw [State.zonesOfOwnWord, h]
  rfl

theorem settleWord_zone (h : s.zonesOfOwnWord z = false) : (settleWord s).zones[z] = s.zones[z] :=
  (reformZones_zone _ _ z).trans (if_neg (ne_true_of_eq_false h))

theorem settle_zone (n : Nat) (h : s.zonesOfOwnWord z = false) : (settle n s).zones[z] = s.zones[z] := by
  induction n generalizing s with
  | zero => rfl
  | succ n ih =>
    unfold settle
    split
    · rfl
    · exact (ih ((zonesOfOwnWord_congr (cfg_of_quiet (settleWord_quiet s)) z).trans h)).trans (settleWord_zone h)

/-- A zone that is not gated by the own line word is left alone by the end of an event. -/
theorem endEvent_zone (hop : s.operating = true) (h : s.zonesOfOwnWord z = false) : (endEvent s).zones[z] = s.zones[z] :=
  (congrArg (fun v : Vector ZoneState 8 => v[z]) (endEvent_zones hop)).trans (settle_zone (s := formOwners s) 4 h)

end

/-! ## New breaches (R120) -/

/-- A station stopped by a local cause, with at least a category. -/
def State.stoppedBy (s : State) (k : Cause) (c : Category) : Prop :=
  k ∈ s.stop.localMarks ∧ s.halted ∧ categoryRank (some c) ≤ categoryRank s.stop.category

section
variable {s t : State} {k : Cause} {c : Category}

theorem State.stoppedBy.grows (h : s.stoppedBy k c) (hg : s.halted → StopGrows s.stop t.stop) : t.stoppedBy k c := by
  obtain ⟨hk, hh, hr⟩ := h
  have hgrows := hg hh
  exact ⟨hgrows.locals k hk, hgrows.halted, hr.trans hgrows.rank⟩

theorem takeCause_stoppedBy (o : StationNo) (k : Cause) (c : Category) (s : State) :
    (takeCause true o k c s).stoppedBy k c := by
  obtain ⟨hh, hr, hk, -⟩ := takeCause_stops true o k c s
  exact ⟨hk rfl, hh, hr⟩

theorem giveCauseIf_stoppedBy {b : Bool} (h : b = true) (k : Cause) (c : Category) (s : State) :
    (giveCauseIf b k c s).stoppedBy k c := by
  rw [giveCauseIf, if_pos h]
  exact takeCause_stoppedBy s.cfg.own k c s

theorem endEvent_stoppedBy (h : s.stoppedBy k c) : (endEvent s).stoppedBy k c := h.grows endEvent_grows

theorem foldl_giveCauseIf_stoppedBy {α : Type} {b : α → Bool} {x : α} {xs : List α} (hx : x ∈ xs) (hb : b x = true)
    (k : Cause) (c : Category) (s : State) : (xs.foldl (fun t x => giveCauseIf (b x) k c t) s).stoppedBy k c := by
  induction xs generalizing s with
  | nil => exact absurd hx List.not_mem_nil
  | cons y ys ih =>
    rcases List.mem_cons.mp hx with rfl | hx
    · exact (giveCauseIf_stoppedBy hb k c s).grows fun hh => (foldl_giveCauseIf_rests b k c ys hh).grows
    · exact ih hx _

/-- A zone whose breached flag a new record sets gives cause ZONE-BREACH. -/
theorem setZones_stoppedBy {new : Vector ZoneState 8} {z : ZoneNo} (hnew : new[z].breached = true)
    (hold : s.zones[z].breached = false) : (setZones new s).stoppedBy .zoneBreach .brake :=
  foldl_giveCauseIf_stoppedBy (b := fun z : ZoneNo => new[z].breached && !s.zones[z].breached) (mem_allEight z)
    (by rw [hnew, hold]; rfl) .zoneBreach .brake _

end

/-! ## AXIS frames (R27) -/

theorem exec_axisFrame {s : State} {w : Wire} (h : s.hears { cls := 4, wire := w }) :
    exec (.axisFrame w) s = .next (endEvent (receiveAxis w.sender w.index (parseAxis w.payload)
      { s with lif := s.lif.received { cls := 4, wire := w } })) := by
  refine congrArg Host.Outcome.next ((frameStep_received h).trans (congrArg endEvent ?_))
  exact if_neg fun hown => (Frame.judge_received h.2).2 (congrArg some hown.symm)

end Sys2Proof.Machine

open Sys2Proof Sys2Proof.Machine

/-- Settles O38: the zones that qualify on the axis read the new report, and the end of the event leaves what they read. -/
theorem axisFramesUpdateReports : Obligations.AxisFramesUpdateReports := by
  rintro w m s h rfl
  have hown : w.sender ≠ s.cfg.own := fun hs => (Frame.judge_received h.2).2 (congrArg some hs.symm)
  obtain ⟨m, hm⟩ : ∃ m, m = parseAxis w.payload := ⟨_, rfl⟩
  obtain ⟨u, hu⟩ : ∃ u : State, u = { s with
      lif := s.lif.received { cls := 4, wire := w }
      peers := s.peers.set w.sender { s.peers[w.sender] with
        reports := s.peers[w.sender].reports.set w.index (.of m s.time) } } := ⟨_, rfl⟩
  have hrecv : receiveAxis w.sender w.index (parseAxis w.payload) { s with lif := s.lif.received { cls := 4, wire := w } }
      = reformZones (u.zonesOfAxis w.sender w.index) u := by
    rw [hu, hm]
    rfl
  have hexec := exec_axisFrame h
  rw [hrecv] at hexec
  obtain ⟨v, hv⟩ : ∃ v, v = reformZones (u.zonesOfAxis w.sender w.index) u := ⟨_, rfl⟩
  rw [← hv] at hexec
  have hvq : v.quiet = u.quiet := hv ▸ reformZones_quiet _ u
  have hq := (endEvent_quiet v).trans hvq
  have hop : v.operating = true := (operating_of_quiet hvq).trans (hu ▸ h.1.1)
  have hcfg : u.cfg = s.cfg := hu ▸ rfl
  have htime : u.time = s.time := hu ▸ rfl
  have hpeer (st : StationNo) : u.peers[st] = if w.sender = st then { s.peers[w.sender] with
      reports := s.peers[w.sender].reports.set w.index (.of m s.time) } else s.peers[st] := by
    rw [hu]
    exact getElem_set_fin ..
  have hpeers (st : StationNo) (hst : st ≠ s.cfg.own) : (endEvent v).peers[st] = u.peers[st] :=
    peer_of_quiet hq (by rw [hcfg]; exact hst)
  refine ⟨_, hexec, ?_, fun st hst hso => ?_, ?_, fun z c q hc huse hqual hqs hqa => ?_⟩
  · rw [hpeers _ hown, hpeer, if_pos rfl, hm]
    rfl
  · rw [hpeers _ hso, hpeer, if_neg hst.symm]
  · have hlast : u.lastArm = s.lastArm := hu ▸ rfl
    exact (congrArg (·.lastArm) hq).trans hlast
  · subst hc
    obtain ⟨st, axis, qlo, qhi⟩ := q
    obtain rfl : st = w.sender := hqs
    obtain rfl : axis = w.index := hqa
    have hsel : u.zonesOfAxis w.sender w.index z = true := by
      simp only [State.zonesOfAxis, hcfg, hqual, Option.map_some, decide_true]
    have huse' : u.cfg.zones[z].inUse = true := by
      rw [hcfg]
      exact huse
    have hvcfg := cfg_of_quiet hvq
    have hread := endEvent_zoneRead hop (z := z) (by rw [hvcfg]; exact huse')
      (hv ▸ reformZones_zoneRead huse' (.inl hsel))
    rw [qualReading_of_quiet hvq, hvcfg] at hread
    have husable : u.reportUsable w.sender w.index = (s.present w.sender && m.valid) := by
      have hreport : u.peers[w.sender].reports[w.index] = AxisReport.of m s.time := by
        rw [hpeer, if_pos rfl]
        exact (getElem_set_fin ..).trans (if_pos rfl)
      have hpresent : u.present w.sender = s.present w.sender := by
        rw [State.present, State.present, hpeer, if_pos rfl]
      have hage : u.reportAge w.sender w.index = 0 := by
        simp only [State.reportAge, hreport, AxisReport.of, htime, Nat.sub_self, Nat.zero_min]
      rw [State.reportUsable, hpresent, hage, hreport, decide_eq_true (Nat.zero_le _), Bool.and_true]
      rfl
    have hposition : u.peers[w.sender].reports[w.index].position = m.position := by
      rw [hpeer, if_pos rfl]
      exact congrArg AxisReport.position ((getElem_set_fin ..).trans (if_pos rfl))
    have hqualReading : u.qualReading u.cfg.zones[z]
        = if (s.present w.sender && m.valid) = true then Qualifier.judge ⟨w.sender, w.index, qlo, qhi⟩ m.position else .unknown := by
      have hqual' : u.cfg.zones[z].qualifier = some ⟨w.sender, w.index, qlo, qhi⟩ := by
        rw [hcfg]
        exact hqual
      have hqown : w.sender ≠ u.cfg.own := by
        rw [hcfg]
        exact hown
      rw [State.qualReading, hqual']
      dsimp only
      rw [if_neg hqown, husable, hposition]
    rw [← hm]
    refine ⟨fun hp hvalid => ?_, fun hbad => ?_, fun x hgate hact hbre hlock hx => ?_⟩
    · rw [hread, hqualReading, hp, hvalid]
      rfl
    · rw [hread, hqualReading, if_neg]
      rcases hbad with hp | hvalid
      · rw [hp]
        exact Bool.false_ne_true
      · rw [hvalid, Bool.and_false]
        exact Bool.false_ne_true
    · have hungated : v.zonesOfOwnWord z = false := by
        rw [zonesOfOwnWord_congr (hvcfg.trans hcfg)]
        exact zonesOfOwnWord_ungated hgate
      have hzones : u.zones = s.zones := hu ▸ rfl
      have hzone : (endEvent v).zones[z] = s.zones[z].evaluate s.cfg.zones[z] (u.qualReading u.cfg.zones[z]) none (some x) := by
        have hvalid : s.axes[s.cfg.zones[z].axis].link.validPosition = some x := (if_pos hlock).trans hx
        rw [endEvent_zone hop hungated, hv, reformZones_zone, if_pos hsel, zoneNow_used huse']
        subst hu
        exact congrArg₂ (fun gate position => s.zones[z].evaluate s.cfg.zones[z] _ gate position)
          (gateReading_ungated hgate) hvalid
      rw [hzone]
      refine ⟨?_, ?_, fun hb => ?_⟩
      · rw [ZoneState.evaluate_active, ZoneState.evaluate_qualifier]
        simp
      · rw [ZoneState.evaluate_breached _ _ _ _ hact hbre, breachTest_iff]
      · have hstopped : (endEvent v).stoppedBy .zoneBreach .brake := by
          refine endEvent_stoppedBy ?_
          rw [hv]
          refine setZones_stoppedBy (z := z) ?_ ((congrArg (fun zs : Vector ZoneState 8 => zs[z].breached) hzones).trans hbre)
          have := congrArg ZoneState.breached ((endEvent_zone hop hungated).symm.trans hzone)
          rw [hv, reformZones, setZones_zone] at this
          exact this.trans hb
        obtain ⟨hmark, ⟨hrun, hres⟩, hrank⟩ := hstopped
        exact ⟨hmark, hrun, hres, hrank⟩
end

section
/-! PROOFS. Ends of takes, and STATUS frames (R29 to R31, R155, R171, R177): O36. -/

namespace Sys2Proof.Machine

/-! ## The end of a recording (R155) -/

section
variable {s t : State} {i : EntryNo} {complete : Bool}

theorem Tks.endRecording_found {number : Byte} {tk : Tks} (hi : tk.find number = some i)
    (hs : tk.dir[i].state = .recording) (hu : tk.dir[i].uploaded = false) (complete : Bool) :
    tk.endRecording number complete
      = { tk with dir := tk.dir.set i { tk.dir[i] with state := if complete then .complete else .truncated } } := by
  simp only [Tks.endRecording, hi]
  exact if_pos ⟨hs, hu⟩

theorem Tkq.recording_iff {q : Tkq} : q.recording = true ↔ q.mode = some .record ∧ q.state = .running := by
  rw [Tkq.recording, Bool.and_eq_true, decide_eq_true_iff, decide_eq_true_iff]

theorem Tkq.recording_of_play {q : Tkq} (h : q.mode = some .play) : q.recording = false :=
  Bool.eq_false_of_not_eq_true fun hr => absurd (h.symm.trans (Tkq.recording_iff.mp hr).1) nofun

theorem endRecordingNow_other (h : s.tkq.recording = false) (complete : Bool) :
    (endRecordingNow complete s).tks = s.tks := if_neg (ne_true_of_eq_false h)

theorem endRecordingNow_found (hm : s.tkq.mode = some .record) (hr : s.tkq.state = .running)
    (hi : s.tks.find s.tkq.number = some i) (hs : s.tks.dir[i].state = .recording) (hu : s.tks.dir[i].uploaded = false)
    (complete : Bool) : (endRecordingNow complete s).tks
      = { s.tks with dir := s.tks.dir.set i { s.tks.dir[i] with state := if complete then .complete else .truncated } } :=
  (if_pos (Tkq.recording_iff.mpr ⟨hm, hr⟩)).trans (Tks.endRecording_found hi hs hu complete)

/-! ## A change of the take record -/

theorem setTake_takeChange {q : Tkq} (h : q.state ≠ s.tkq.state) :
    (setTake q s).svp.flags.getLsbD flagTakeChange = true :=
  Svp.raiseIf_set (decide_eq_true h) (by decide) s.svp

theorem setTake_peers (q : Tkq) {st : StationNo} (h : st ≠ s.cfg.own) : (setTake q s).peers[st] = s.peers[st] :=
  peer_of_quiet (s := { s with tkq := q, svp := s.svp.raiseIf (decide (q.state ≠ s.tkq.state)) flagTakeChange })
    (announce_quiet _) h

end

/-! ## What a participant's STATUS does to the take (R171, R177) -/

/-- An operation of the Take Sequencer: it changes the take, the store and the flags, and announces the change. -/
structure TakesOnly (s t : State) : Prop where
  cfg : t.cfg = s.cfg
  stop : t.stop = s.stop
  axes : t.axes = s.axes
  peers : ∀ st : StationNo, st ≠ s.cfg.own → t.peers[st] = s.peers[st]
  operating : t.operating = s.operating
  raises : s.Raises t

section
variable {s t u : State}

theorem TakesOnly.refl (s : State) : TakesOnly s s := ⟨rfl, rfl, rfl, fun _ _ => rfl, rfl, .refl s⟩

theorem TakesOnly.trans (h : TakesOnly s t) (h' : TakesOnly t u) : TakesOnly s u where
  cfg := h'.cfg.trans h.cfg
  stop := h'.stop.trans h.stop
  axes := h'.axes.trans h.axes
  peers st hst := (h'.peers st (by rwa [h.cfg])).trans (h.peers st hst)
  operating := h'.operating.trans h.operating
  raises := h.raises.trans h'.raises

theorem setTake_only (q : Tkq) (s : State) : TakesOnly s (setTake q s) :=
  ⟨rfl, rfl, rfl, fun _ h => setTake_peers q h, rfl, setTake_raises q s⟩

theorem setStore_only (x : Tks) (s : State) : TakesOnly s (setStore x s) :=
  ⟨rfl, rfl, rfl, fun _ _ => rfl, rfl, setStore_raises x s⟩

theorem endRecordingNow_only (complete : Bool) (s : State) : TakesOnly s (endRecordingNow complete s) := setStore_only _ s

theorem abortWithoutStop_only (s : State) : TakesOnly s (abortWithoutStop s) :=
  (endRecordingNow_only false s).trans (setTake_only _ _)

theorem participantSeen_only (st : StationNo) (m : StatusMsg) (s : State) : TakesOnly s (participantSeen st m s) := by
  unfold participantSeen
  split
  · split
    · split
      · exact setTake_only _ s
      · exact .refl s
    · split
      · exact setTake_only _ s
      · exact .refl s
    · split
      · exact setTake_only _ s
      · exact .refl s
    · split
      · exact abortWithoutStop_only s
      · exact .refl s
    · split
      · exact abortWithoutStop_only s
      · exact .refl s
    · exact .refl s
  · exact .refl s

/-- A participant's STATUS returns an armed take to IDLE (R171). -/
def State.disarmedBy (s : State) (st : StationNo) (m : StatusMsg) : Prop :=
  names s.tkq.mask st.val = true ∧ m.number = s.tkq.number ∧ (m.take = .refused ∨ m.take = .aborted)
    ∧ (s.tkq.state = .armed ∨ s.tkq.state = .preroll ∨ s.tkq.state = .ready)

/-- A participant's STATUS aborts a take under way (R177). -/
def State.abortedBy (s : State) (st : StationNo) (m : StatusMsg) : Prop :=
  names s.tkq.mask st.val = true ∧ m.number = s.tkq.number ∧ m.take = .aborted
    ∧ (s.tkq.state = .running ∨ s.tkq.state = .waiting)

variable {st : StationNo} {m : StatusMsg}

theorem participantSeen_disarms (hst : st ≠ s.cfg.own) (h : s.disarmedBy st m) : participantSeen st m s = idleTake s := by
  obtain ⟨hmask, hnumber, htake, hstate⟩ := h
  unfold participantSeen
  rw [if_pos (by simp [hmask, hst, hnumber])]
  rcases hstate with hs | hs | hs <;> rw [hs] <;> exact if_pos htake

theorem participantSeen_aborts (hst : st ≠ s.cfg.own) (h : s.abortedBy st m) :
    participantSeen st m s = abortWithoutStop s := by
  obtain ⟨hmask, hnumber, htake, hstate⟩ := h
  unfold participantSeen
  rw [if_pos (by simp [hmask, hst, hnumber])]
  rcases hstate with hs | hs <;> rw [hs] <;> exact if_pos htake

theorem participantSeen_leaves (hd : ¬ s.disarmedBy st m) (ha : ¬ s.abortedBy st m) : participantSeen st m s = s := by
  unfold participantSeen
  split
  · next hc =>
    simp only [Bool.and_eq_true, decide_eq_true_iff] at hc
    obtain ⟨⟨hmask, -⟩, hnumber⟩ := hc
    split
    · next hs => exact if_neg fun htake => hd ⟨hmask, hnumber, htake, .inl hs⟩
    · next hs => exact if_neg fun htake => hd ⟨hmask, hnumber, htake, .inr (.inl hs)⟩
    · next hs => exact if_neg fun htake => hd ⟨hmask, hnumber, htake, .inr (.inr hs)⟩
    · next hs => exact if_neg fun htake => ha ⟨hmask, hnumber, htake, .inl hs⟩
    · next hs => exact if_neg fun htake => ha ⟨hmask, hnumber, htake, .inr hs⟩
    · rfl
  · rfl

/-! ## Readers of an entry (R55, R117) -/

theorem peerReaders_raises (b : Bool) (st : StationNo) (s : State) : s.Raises (peerReaders b st s) :=
  State.Raises.trans (t := reformGates (s.gatesOfStation b st) s) (.of_flags rfl) (setZones_raises _ _)

theorem peerReaders_grows (b : Bool) (st : StationNo) (h : s.halted) : StopGrows s.stop (peerReaders b st s).stop :=
  reformZones_grows (s := reformGates (s.gatesOfStation b st) s) _ h

/-- Where no zone reads the entry, its gates are re-formed alone. -/
theorem peerReaders_ungated {b : Bool} (h : ∀ z, s.zonesOfStation b st z = false) :
    peerReaders b st s = reformGates (s.gatesOfStation b st) s :=
  reformZones_none (s := reformGates (s.gatesOfStation b st) s) h

theorem zonesOfStation_none {b : Bool} {z : ZoneNo} (hg : s.cfg.zones[z].gateLine.map Prod.fst ≠ some st)
    (hq : s.cfg.zones[z].qualifier.map Qualifier.station ≠ some st) : s.zonesOfStation b st z = false := by
  rw [State.zonesOfStation, decide_eq_false hg, decide_eq_false hq, Bool.and_false, Bool.or_false]

end

/-! ## Presence (R28 to R31) -/

section
variable {m : StatusMsg} {late : Bool} {e : PeerEntry}

theorem PeerEntry.restarts_iff : e.restarts m = true ↔ m.startFlag = true ∧ e.presence = .present ∧ e.marker = false := by
  rw [PeerEntry.restarts, Bool.and_eq_true, Bool.and_eq_true, decide_eq_true_iff, Bool.not_eq_true', and_assoc]

theorem PeerEntry.heard_restart (h : e.restarts m = true) : e.heard m late
    = { e with presence := .joining, count := 1, cueSeq := none, demandSeq := Vector.replicate 4 none } := if_pos h

theorem PeerEntry.restarts_absent (h : e.presence ≠ .present) : e.restarts m = false :=
  Bool.eq_false_of_not_eq_true fun hr => h (PeerEntry.restarts_iff.mp hr).2.1

theorem PeerEntry.heard_absent (h : e.presence = .absent) : e.heard m late = { e with presence := .joining, count := 1 } := by
  rw [PeerEntry.heard, PeerEntry.restarts_absent (by rw [h]; decide), h]
  rfl

theorem PeerEntry.heard_lost (h : e.presence = .lost) : e.heard m late
    = { e with presence := .joining, count := 1, cueSeq := none, demandSeq := Vector.replicate 4 none } := by
  rw [PeerEntry.heard, PeerEntry.restarts_absent (by rw [h]; decide), h]
  rfl

theorem PeerEntry.heard_joining (h : e.presence = .joining) : e.heard m false
    = if e.count < 2 then { e with count := 2 } else { e with presence := .present, count := 3 } := by
  rw [PeerEntry.heard, PeerEntry.restarts_absent (by rw [h]; decide), h]
  rfl

theorem PeerEntry.heard_present (h : e.presence = .present) (hr : e.restarts m = false) :
    e.heard m late = { e with count := 3 } := by
  rw [PeerEntry.heard, hr, h]
  rfl

end

theorem exec_statusFrame {s : State} {w : Wire} {urgent : Bool} {m : StatusMsg}
    (h : s.hears { cls := if urgent then 1 else 5, wire := w }) (hm : parseStatus w.payload = some m) :
    exec (.statusFrame urgent w) s = .next (endEvent (receiveStatus w.sender m
      { s with lif := s.lif.received { cls := if urgent then 1 else 5, wire := w } })) := by
  have hown : w.sender ≠ s.cfg.own := fun hs => (Frame.judge_received h.2).2 (congrArg some hs.symm)
  refine congrArg Host.Outcome.next ((frameStep_received h).trans (congrArg endEvent ?_))
  cases urgent <;> simp only [handFrame, hm] <;> exact if_neg hown

end Sys2Proof.Machine

open Sys2Proof Sys2Proof.Machine

/-- Settles O36: the entry is replaced first; the cause, the readers of the entry and the take follow in turn, and no later
part undoes an earlier one. -/
theorem statusFramesMovePresence : Obligations.StatusFramesMovePresence := by
  intro w urgent m s h hm
  have hown : w.sender ≠ s.cfg.own := fun hs => (Frame.judge_received h.2).2 (congrArg some hs.symm)
  obtain ⟨old, hold⟩ : ∃ old, old = s.peers[w.sender] := ⟨_, rfl⟩
  obtain ⟨late, hlate⟩ : ∃ late, late = s.silent w.sender := ⟨_, rfl⟩
  obtain ⟨e, he⟩ : ∃ e, e = old.heard m late := ⟨_, rfl⟩
  -- the entry replaced, the cause given, the readers of the entry, the take
  obtain ⟨u, hu⟩ : ∃ u : State, u = { s with
      lif := s.lif.received { cls := if urgent then 1 else 5, wire := w }
      peers := s.peers.set w.sender { e with last := some m, arrival := s.time, marker := m.startFlag }
      svp := s.svp.raiseIf (decide (e.presence ≠ old.presence) || (late && decide (old.presence = .joining)))
        flagPeerChange } := ⟨_, rfl⟩
  obtain ⟨restart, hrestart⟩ : ∃ b, b = (old.restarts m && s.inRoster w.sender) := ⟨_, rfl⟩
  obtain ⟨c, hc⟩ : ∃ c, c = giveCauseIf restart .peerRestart s.cfg.peerLossCategory u := ⟨_, rfl⟩
  obtain ⟨r, hr⟩ : ∃ r, r = peerReaders (decide (e.presence ≠ old.presence)) w.sender c := ⟨_, rfl⟩
  have hexec : exec (.statusFrame urgent w) s = .next (endEvent (participantSeen w.sender m r)) := by
    rw [exec_statusFrame h hm, hr, hc, hu, hrestart, he, hlate, hold]
    rfl
  have hucfg : u.cfg = s.cfg := hu ▸ rfl
  have hrq : r.quiet = u.quiet := by
    rw [hr, peerReaders_quiet, hc, giveCauseIf_quiet]
  have htake := participantSeen_only w.sender m r
  have hrcfg : r.cfg = s.cfg := (cfg_of_quiet hrq).trans hucfg
  have hpeers (st : StationNo) (hst : st ≠ s.cfg.own) :
      (endEvent (participantSeen w.sender m r)).peers[st] = u.peers[st] := by
    rw [peer_of_quiet (endEvent_quiet _) (by rw [htake.cfg, hrcfg]; exact hst),
      htake.peers st (by rw [hrcfg]; exact hst), peer_of_quiet hrq (by rw [hucfg]; exact hst)]
  have hraises : u.Raises (participantSeen w.sender m r) := by
    refine State.Raises.trans (t := r) ?_ htake.raises
    rw [hr]
    refine State.Raises.trans (t := c) ?_ (peerReaders_raises _ _ c)
    rw [hc]
    exact giveCauseIf_raises _ _ _ u
  refine ⟨_, e, hexec, ?_, fun st hst hso => ?_, fun old' hold' => ?_, fun hchanged => ?_,
    fun early late' hearly hlater hno hfree hquiet => ?_⟩
  · rw [hpeers _ hown, hu]
    exact (getElem_set_fin ..).trans (if_pos rfl)
  · rw [hpeers _ hso, hu]
    exact (getElem_set_fin ..).trans (if_neg hst.symm)
  · obtain rfl : old' = old := hold'.trans hold.symm
    refine ⟨fun hp => he.trans (PeerEntry.heard_absent hp), fun hp => he.trans (PeerEntry.heard_lost hp),
      fun hp hin => ?_, fun hp hno => ?_, fun hp hflag hmark => ?_⟩
    · have hnotLate : late = false := by
        rw [hlate, State.silent, State.timeSince, ← hold', decide_eq_false (Nat.not_lt.mpr hin), Bool.and_false]
      rw [hnotLate, PeerEntry.heard_joining hp] at he
      exact ⟨fun h1 => he.trans (if_pos (by omega)), fun h2 => he.trans (if_neg (by omega))⟩
    · refine he.trans (PeerEntry.heard_present hp (Bool.eq_false_of_not_eq_true fun hr => ?_))
      obtain ⟨hflag, -, hmark⟩ := PeerEntry.restarts_iff.mp hr
      rcases hno with hno | hno
      · exact absurd (hno.symm.trans hflag) nofun
      · exact absurd (hno.symm.trans hmark) nofun
    · have hres : old'.restarts m = true := PeerEntry.restarts_iff.mpr ⟨hflag, hp, hmark⟩
      refine ⟨he.trans (PeerEntry.heard_restart hres), fun hroster => ?_⟩
      have hgiven : restart = true := by
        rw [hrestart, hres]
        exact hroster
      have hstopped : c.stoppedBy .peerRestart s.cfg.peerLossCategory := hc ▸ giveCauseIf_stoppedBy hgiven _ _ u
      have hend := endEvent_stoppedBy ((hstopped.grows (t := r) fun hh => hr ▸ peerReaders_grows _ _ hh).grows
        (t := participantSeen w.sender m r) fun hh => by rw [htake.stop]; exact .refl hh)
      exact ⟨hend.1, hend.2.1.1, hend.2.1.2⟩
  · refine endEvent_flag (hraises _ ?_)
    rw [hu]
    refine Svp.raiseIf_set ?_ (by decide) _
    rw [hold, decide_eq_true hchanged, Bool.true_or]
  · have hnone : restart = false := by
      rw [hrestart]
      refine Bool.eq_false_of_not_eq_true fun hgiven => ?_
      obtain ⟨hres, hroster⟩ := Bool.and_eq_true_iff.mp hgiven
      obtain ⟨hflag, hp, hmark⟩ := PeerEntry.restarts_iff.mp hres
      rw [hold] at hp hmark
      rcases hquiet with h | h | h | h
      · exact absurd (h.symm.trans hflag) nofun
      · exact absurd (h.symm.trans hmark) nofun
      · exact h hp
      · exact absurd (h.symm.trans hroster) nofun
    have hcu : c = u := by
      rw [hc, hnone]
      rfl
    have hru : Eases u r := by
      rw [hr, hcu, peerReaders_ungated fun z => zonesOfStation_none (by rw [hucfg]; exact (hfree z).1)
        (by rw [hucfg]; exact (hfree z).2)]
      exact reformGates_eases _ u
    have hrtkq : r.tkq = s.tkq := hru.tkq.trans (hu ▸ rfl)
    have hrtks : r.tks = s.tks := hru.tks.trans (hu ▸ rfl)
    have hend : Eases (participantSeen w.sender m r) (endEvent (participantSeen w.sender m r)) :=
      endEvent_eases (.inr ((noOwnGates_congr (htake.cfg.trans hrcfg)).mpr hno))
    have hrown : w.sender ≠ r.cfg.own := by
      rw [hrcfg]
      exact hown
    have hd : r.disarmedBy w.sender m ↔ early := by
      rw [hearly, State.disarmedBy, hrtkq]
    have ha : r.abortedBy w.sender m ↔ late' := by
      rw [hlater, State.abortedBy, hrtkq]
    refine ⟨hend.stop.trans (htake.stop.trans (hru.stop.trans (hu ▸ rfl))), fun hyes => ?_, fun hyes => ?_,
      fun hno hno' => ?_⟩
    · rw [hend.tks, hend.tkq, participantSeen_disarms hrown (hd.mpr hyes)]
      refine ⟨hrtks, ?_⟩
      show r.tkq.cleared = _
      rw [hrtkq]
      rfl
    · rw [hend.tks, hend.tkq, participantSeen_aborts hrown (ha.mpr hyes)]
      refine ⟨?_, fun hmode => ?_, fun i hmode hrun hi hs hu' => ?_⟩
      · show ({ r.tkq with state := .aborted, abortKind := some .withoutStop, appendDue := false } : Tkq) = _
        rw [hrtkq]
      · exact (endRecordingNow_other (Tkq.recording_of_play (hrtkq ▸ hmode)) false).trans hrtks
      · rw [← hrtkq] at hmode hrun hi
        rw [← hrtks] at hi hs hu' ⊢
        exact endRecordingNow_found hmode hrun hi hs hu' false
    · rw [hend.tks, hend.tkq, participantSeen_leaves (fun h => hno (hd.mp h)) fun h => hno' (ha.mp h)]
      exact ⟨hrtkq, hrtks⟩
end

section
/-! PROOFS. Arming (R167 to R169): O41, O42. -/

namespace Sys2Proof.Machine

/-! ## Events that leave the line word as it is -/

section
variable {s t : State}

theorem formWord_of_sources (hcfg : t.cfg = s.cfg) (hlines : t.lines = s.lines)
    (hrun : t.stop.state = .run ↔ s.stop.state = .run) (htake : t.tkq.state = .running ↔ s.tkq.state = .running)
    (hat : ∀ i : AxisNo, t.axes[i].mpr.atTarget = s.axes[i].mpr.atTarget) : t.formWord = s.formWord := by
  have hsource : ∀ x, t.sourceValue x = s.sourceValue x := by
    intro x
    cases x <;> simp only [State.sourceValue, State.used, hrun, htake, hat, hcfg]
  simp only [State.formWord, State.slotValue, hsource, State.lineActive, hlines, hcfg]

theorem Eases.seeking (h : Eases s t) (i : AxisNo) : t.axes[i].seeking = s.axes[i].seeking := by
  have hstill := congrArg AxisState.seeking (h.axis i)
  exact hstill

theorem State.calm.word_eq (h : s.calm) : s.formWord = s.word := (h.2.1 h.1).symm

/-- The end of an event of the Take Sequencer that does not start or end RUNNING. -/
theorem endEvent_eases_take (h : s.calm) (hword : t.word = s.word) (hcfg : t.cfg = s.cfg) (hlines : t.lines = s.lines)
    (hstop : t.stop = s.stop) (htake : t.tkq.state = .running ↔ s.tkq.state = .running)
    (hat : ∀ i : AxisNo, t.axes[i].mpr.atTarget = s.axes[i].mpr.atTarget) : Eases t (endEvent t) :=
  endEvent_eases (.inl ((formWord_of_sources hcfg hlines (by rw [hstop]) htake hat).trans (h.word_eq.trans hword.symm)))

end

/-! ## The common checks (R167) -/

/-- A mask names a station that another mask does not. -/
theorem mask_outside_iff (mask roster : Byte) : mask &&& ~~~roster ≠ 0
    ↔ ∃ st : StationNo, names mask st.val = true ∧ names roster st.val = false := by
  constructor
  · intro h
    by_contra hno
    refine h (BitVec.eq_of_getLsbD_eq fun k hk => ?_)
    have hst := not_exists.mp hno ⟨k, hk⟩
    simp only [names] at hst
    simp only [BitVec.getLsbD_and, BitVec.getLsbD_not, hk, decide_true, Bool.true_and, BitVec.ofNat_eq_ofNat,
      BitVec.getLsbD_zero, Bool.and_eq_false_iff, Bool.not_eq_false']
    by_contra hbad
    rw [not_or] at hbad
    exact hst ⟨Bool.eq_true_of_not_eq_false hbad.1, Bool.eq_false_of_not_eq_true hbad.2⟩
  · rintro ⟨st, hmask, hroster⟩ h
    have hbit : (mask &&& ~~~roster).getLsbD st.val = true := by
      rw [BitVec.getLsbD_and, BitVec.getLsbD_not, decide_eq_true st.isLt]
      exact (congrArg₂ (fun a b => a && (true && !b)) hmask hroster).trans rfl
    rw [h] at hbit
    simp at hbit

theorem validNumber_false_iff {n : Byte} : (!validNumber n) = true ↔ n.toNat < 1 ∨ 250 < n.toNat := by
  rw [Bool.not_eq_true', ← Bool.not_eq_true, validNumber_iff]
  omega

theorem armCommon_eq (s : State) (m : CueMsg) : s.armCommon m = s.refusesArm m := by
  unfold State.armCommon State.refusesArm
  by_cases hrun : s.stop.state ≠ .run
  · rw [if_pos hrun, if_pos hrun]
  · rw [if_neg hrun, if_neg hrun]
    by_cases hn : (!validNumber m.number) = true
    · rw [if_pos hn, if_pos (validNumber_false_iff.mp hn)]
    · rw [if_neg hn, if_neg (mt validNumber_false_iff.mpr hn)]
      by_cases hm : m.mask &&& ~~~s.cfg.roster ≠ 0
      · rw [if_pos hm, if_pos ((mask_outside_iff _ _).mp hm)]
      · rw [if_neg hm, if_neg (mt (mask_outside_iff _ _).mpr hm)]

theorem refusesArm_none {s : State} {m : CueMsg} (h : s.refusesArm m = none) : s.stop.state = .run := by
  rw [← armCommon_eq] at h
  exact armCommon_run h

theorem takesArm_false_iff {x : TakeState} : x.takesArm = false
    ↔ x = .armed ∨ x = .preroll ∨ x = .ready ∨ x = .running ∨ x = .waiting := by
  cases x <;> decide

theorem takesArm_iff {x : TakeState} : x.takesArm = true ↔ x = .idle ∨ x = .ended ∨ x = .aborted ∨ x = .refused := by
  cases x <;> decide

theorem takesArm_running {x : TakeState} (h : x.takesArm = true) : x ≠ .running := by
  rintro rfl
  exact absurd h nofun

/-! ## ARM-RECORD (R168) -/

section
variable {s : State} {m : CueMsg}

theorem dispatchCue_armRecord (s : State) (h : m.kind = .armRecord) : dispatchCue m s = armRecordTake m s := by
  simp only [dispatchCue, h]

theorem armRecordTake_ignored (h : s.tkq.state.takesArm = false) :
    armRecordTake m s = { s with tkq := { s.tkq with armIgnored := min (s.tkq.armIgnored + 1) 65535 } } := by
  rw [armRecordTake, h]
  rfl

/-- The record of a recording that is armed. -/
def Tkq.armedBy (q : Tkq) (m : CueMsg) (axes : List AxisNo) : Tkq :=
  { q.cleared with
    state := .armed, mode := some .record, number := m.number, mask := m.mask,
    period := (periodOf m.parameter.toNat).getD 10, axes := axes }

theorem armedBy_running {q : Tkq} {axes : List AxisNo} : (q.armedBy m axes).state ≠ .running :=
  show TakeState.armed ≠ .running by decide

theorem refuse_running {mode : TakeMode} {r : RefusalReason} {q : Tkq} : (q.refuse mode m r).state ≠ .running :=
  show TakeState.refused ≠ .running by decide

theorem armRecordTake_refused {r : RefusalReason} (h : s.tkq.state.takesArm = true)
    (hr : (s.armCommon m).or (s.armRecordOnly m) = some r) : armRecordTake m s = setTake (s.tkq.refuse .record m r) s := by
  simp only [armRecordTake, h, Bool.not_true, Bool.false_eq_true, if_false, hr]

theorem armRecordTake_arms (h : s.tkq.state.takesArm = true) (hr : (s.armCommon m).or (s.armRecordOnly m) = none) :
    armRecordTake m s = setTake (s.tkq.armedBy m s.takeableAxes) s := by
  simp only [armRecordTake, h, Bool.not_true, Bool.false_eq_true, if_false, hr, Tkq.armedBy]

theorem mem_takeableAxes (s : State) (i : AxisNo) :
    i ∈ s.takeableAxes ↔ s.cfg.axes[i].kind ≠ .unused ∧ s.cfg.axes[i].takeable = true := by
  rw [State.takeableAxes, List.mem_filter, Bool.and_eq_true, used_iff]
  exact and_iff_right (mem_allAxes i)

theorem takeableAxes_isEmpty_iff (s : State) : s.takeableAxes.isEmpty = true
    ↔ ∀ i : AxisNo, s.cfg.axes[i].kind = .unused ∨ s.cfg.axes[i].takeable = false := by
  rw [List.isEmpty_iff, List.eq_nil_iff_forall_not_mem]
  refine forall_congr' fun i => ?_
  rw [mem_takeableAxes, not_and_or, not_not, Bool.not_eq_true]

theorem Tks.lowestEmpty_isNone_iff {t : Tks} : t.lowestEmpty.isNone = true ↔ ∀ i : EntryNo, t.dir[i].state ≠ .empty := by
  rw [Tks.lowestEmpty, Option.isNone_iff_eq_none, List.find?_eq_none]
  simp only [decide_eq_true_iff, mem_allSixteen, true_implies]

theorem parseCue_period {payload : List Byte} (h : parseCue payload = some m) (hk : m.kind = .armRecord) :
    ∃ p, periodOf m.parameter.toNat = some p := by
  refine Option.ne_none_iff_exists'.mp fun hnone => ?_
  have hno := periodOf_isNone.mp (Option.isNone_iff_eq_none.mpr hnone)
  have hkind := parseCue_kind h
  rw [hk] at hkind
  have hparameter : m.parameter.toNat = payloadByte payload 4 := by
    rw [parseCue, hkind] at h
    simp only [Option.bind_some] at h
    split at h
    · exact absurd h nofun
    · obtain rfl := Option.some.inj h
      simp [payloadByte]
  have hnone := parseCue_none (payload := payload) (.inr (.inr ⟨cueKindOf_armRecord_iff.mp hkind, by omega⟩))
  exact absurd (h.symm.trans hnone) nofun

end

/-! ## ARM-PLAY (R169) -/

section
variable {s : State} {m : CueMsg}

theorem dispatchCue_armPlay (s : State) (h : m.kind = .armPlay) : dispatchCue m s = armPlayTake m s := by
  simp only [dispatchCue, h]

theorem armPlayTake_ignored (h : s.tkq.state.takesArm = false) :
    armPlayTake m s = { s with tkq := { s.tkq with armIgnored := min (s.tkq.armIgnored + 1) 65535 } } := by
  rw [armPlayTake, h]
  rfl

/-- The record of a play take whose pre-roll begins. -/
def Tkq.prerolledBy (q : Tkq) (m : CueMsg) (e : DirEntry) : Tkq :=
  { q.cleared with
    state := .preroll, mode := some .play, number := m.number, mask := m.mask, period := e.period, axes := e.axes,
    length := e.length }

theorem claims_preroll {i : AxisNo} (hm : s.tkq.mode = some .play) (hi : i ∈ s.tkq.axes)
    (ht : s.cfg.axes[i].takeable = true) (hs : s.tkq.state = .preroll) : s.claims i = true := by
  rw [State.claims, decide_eq_true hm, List.contains_iff_mem.mpr hi, ht, hs]
  rfl

theorem ownerOf_take {i : AxisNo} (hrun : s.stop.state = .run) (hu : s.used i = true) (hseek : s.axes[i].seeking = false)
    (hc : s.claims i = true) : s.ownerOf i = .take := by
  rw [State.ownerOf, if_neg (not_not.mpr hrun), hu, hseek, hc]
  rfl

theorem armPlayTake_refused {r : RefusalReason} (h : s.tkq.state.takesArm = true)
    (hr : (s.armCommon m).or (s.armPlayOnly m) = some r) : armPlayTake m s = setTake (s.tkq.refuse .play m r) s := by
  simp only [armPlayTake, h, Bool.not_true, Bool.false_eq_true, if_false, hr, Option.getD_some]

theorem armPlayTake_arms {e : DirEntry} (h : s.tkq.state.takesArm = true)
    (hr : (s.armCommon m).or (s.armPlayOnly m) = none) (he : s.tks.entry m.number = some e) :
    armPlayTake m s = handTargets (setTake (s.tkq.prerolledBy m e) s) := by
  simp only [armPlayTake, h, Bool.not_true, Bool.false_eq_true, if_false, hr, he, Tkq.prerolledBy]

end

/-- The checks on the entry, as the rule states them. -/
theorem armPlayEntry_eq (s : State) (e : DirEntry) : s.armPlayEntry e
    = if e.state = .recording then some .noTake
      else if (∃ i ∈ e.axes, s.cfg.axes[i].kind = .unused) ∨ ∀ i ∈ e.axes, s.cfg.axes[i].takeable = false then some .noAxis
      else if ∃ i ∈ e.axes, s.cfg.axes[i].kind = .lens ∧ s.axes[i].lens.cal.state ≠ .calibrated then some .notCalibrated
      else if ∃ p ∈ e.axes.zip (e.stats.getD []),
          ¬ (if s.cfg.axes[p.1].kind = .lens then 0 ≤ p.2.minimum ∧ p.2.maximum ≤ 65535
            else s.cfg.axes[p.1].softLow ≤ p.2.minimum ∧ p.2.maximum ≤ s.cfg.axes[p.1].softHigh) then some .bounds
      else none := by
  have haxis : ((e.axes.any fun i => !s.used i) || !(e.axes.any fun i => s.cfg.axes[i].takeable)) = true
      ↔ (∃ i ∈ e.axes, s.cfg.axes[i].kind = .unused) ∨ ∀ i ∈ e.axes, s.cfg.axes[i].takeable = false := by
    simp only [Bool.or_eq_true, List.any_eq_true, Bool.not_eq_true', List.any_eq_false, Bool.not_eq_true, State.used,
      decide_eq_false_iff_not, ne_eq, not_not]
  have hlens : (e.axes.any fun i => s.isLens i && decide (s.axes[i].lens.cal.state ≠ .calibrated)) = true
      ↔ ∃ i ∈ e.axes, s.cfg.axes[i].kind = .lens ∧ s.axes[i].lens.cal.state ≠ .calibrated := by
    simp only [List.any_eq_true, Bool.and_eq_true, State.isLens, decide_eq_true_iff]
  have hbounds : ((e.axes.zip (e.stats.getD [])).all fun p => s.inBounds p.1 p.2) = true
      ↔ ¬ ∃ p ∈ e.axes.zip (e.stats.getD []),
          ¬ (if s.cfg.axes[p.1].kind = .lens then 0 ≤ p.2.minimum ∧ p.2.maximum ≤ 65535
            else s.cfg.axes[p.1].softLow ≤ p.2.minimum ∧ p.2.maximum ≤ s.cfg.axes[p.1].softHigh) := by
    have hin (i : AxisNo) (v : AxisStat) : s.inBounds i v = true
        ↔ if s.cfg.axes[i].kind = .lens then 0 ≤ v.minimum ∧ v.maximum ≤ 65535
          else s.cfg.axes[i].softLow ≤ v.minimum ∧ v.maximum ≤ s.cfg.axes[i].softHigh := by
      by_cases hk : s.cfg.axes[i].kind = .lens
      · rw [State.inBounds, State.isLens, decide_eq_true hk, if_pos rfl, if_pos hk, decide_eq_true_iff]
      · rw [State.inBounds, State.isLens, decide_eq_false hk, if_neg Bool.false_ne_true, if_neg hk, decide_eq_true_iff]
    rw [List.all_eq_true, not_exists]
    refine forall_congr' fun p => ?_
    rw [not_and, not_not, hin]
  unfold State.armPlayEntry
  by_cases hrec : e.state = .recording
  · rw [if_pos hrec, if_pos hrec]
  · rw [if_neg hrec, if_neg hrec]
    by_cases ha : (∃ i ∈ e.axes, s.cfg.axes[i].kind = .unused) ∨ ∀ i ∈ e.axes, s.cfg.axes[i].takeable = false
    · rw [if_pos (haxis.mpr ha), if_pos ha]
    · rw [if_neg (mt haxis.mp ha), if_neg ha]
      by_cases hl : ∃ i ∈ e.axes, s.cfg.axes[i].kind = .lens ∧ s.axes[i].lens.cal.state ≠ .calibrated
      · rw [if_pos (hlens.mpr hl), if_pos hl]
      · rw [if_neg (mt hlens.mp hl), if_neg hl]
        by_cases hb : ∃ p ∈ e.axes.zip (e.stats.getD []),
            ¬ (if s.cfg.axes[p.1].kind = .lens then 0 ≤ p.2.minimum ∧ p.2.maximum ≤ 65535
              else s.cfg.axes[p.1].softLow ≤ p.2.minimum ∧ p.2.maximum ≤ s.cfg.axes[p.1].softHigh)
        · rw [if_neg (not_not.mpr hb ∘ hbounds.mp), if_pos hb]
        · rw [if_pos (hbounds.mpr hb), if_neg hb]

/-- A take that passes the checks lists used axes alone. -/
theorem armPlayEntry_used {s : State} {e : DirEntry} (h : s.armPlayEntry e = none) {i : AxisNo} (hi : i ∈ e.axes) :
    s.used i = true := by
  rw [armPlayEntry_eq] at h
  split_ifs at h with _ ha
  exact (used_iff s i).mpr fun hk => ha (.inl ⟨i, hi, hk⟩)

/-- At take time 0 an axis plays its first sample (R169). -/
theorem valueAt_zero (tk : Tks) (e : DirEntry) (period : Nat) (i : AxisNo) :
    tk.valueAt e period 0 i = tk.sampleValue e 0 (e.axes.idxOf i) := by
  simp [Tks.valueAt]

section
variable (s : State) (i : AxisNo)

theorem handTargets_goal : (handTargets s).tkq.goal[i]
    = if s.claims i then s.targetCount i (s.playValue i) else s.tkq.goal[i] := getElem_ofFn_fin _ i

theorem handTargets_axis : (handTargets s).axes[i] = match s.targetCount i (s.playValue i) with
    | some x => if s.claims i && s.isLens i then s.axes[i].mapped (s.playValue i).toNat x else s.axes[i]
    | none => s.axes[i] := getElem_ofFn_fin _ i

theorem handTargets_still : (handTargets s).axes[i].mpr = s.axes[i].mpr
    ∧ (handTargets s).axes[i].seeking = s.axes[i].seeking := by
  rw [handTargets_axis]
  split
  · split <;> exact ⟨rfl, rfl⟩
  · exact ⟨rfl, rfl⟩

end

end Sys2Proof.Machine

open Sys2Proof Sys2Proof.Machine

/-- Settles O41: an arming changes the take record alone, and neither starts nor ends RUNNING. -/
theorem armRecordArmsOrRefuses : Obligations.ArmRecordArmsOrRefuses := by
  intro c w m s h hk
  obtain ⟨v, hv⟩ : ∃ v, v = s.heardCue w m := ⟨_, rfl⟩
  have hcalm : v.calm := hv ▸ heardCue_calm w m h.1.1
  have hdispatch := dispatchCue_armRecord (s.heardCue w m) hk
  refine ⟨fun hbusy => ?_, fun hfree => ?_⟩
  · exact exec_ignored h (hdispatch.trans (armRecordTake_ignored (takesArm_false_iff.mpr hbusy)))
      (calm_of_same rfl rfl rfl rfl (heardCue_calm w m h.1.1))
  · have htakes : v.tkq.state.takesArm = true := hv ▸ takesArm_iff.mpr hfree
    have hnot : v.tkq.state ≠ .running := takesArm_running htakes
    have hexec := exec_hearsCue h
    rw [hdispatch, ← hv] at hexec
    have hend (q : Tkq) (hq : q.state ≠ .running) : Eases (setTake q v) (endEvent (setTake q v)) :=
      endEvent_eases_take hcalm rfl rfl rfl rfl ⟨fun h => absurd h hq, fun h => absurd h hnot⟩ fun _ => rfl
    have hrest (q : Tkq) (hq : q.state ≠ .running) : (endEvent (setTake q v)).stop = s.stop
        ∧ (endEvent (setTake q v)).tks = s.tks ∧ (endEvent (setTake q v)).lastArm = (s.heardCue w m).lastArm
        ∧ ((endEvent (setTake q v)).tkq.state ≠ s.tkq.state →
          (endEvent (setTake q v)).svp.flags.getLsbD flagTakeChange = true) := by
      refine ⟨(hend q hq).stop.trans (hv ▸ rfl), (hend q hq).tks.trans (hv ▸ rfl),
        (congrArg (·.lastArm) (hend q hq).quiet).trans (hv ▸ rfl), fun hne => endEvent_flag (setTake_takeChange ?_)⟩
      rw [(hend q hq).tkq] at hne
      exact hv ▸ hne
    have hreason : (v.armCommon m).or (v.armRecordOnly m)
        = if (s.refusesArm m).isSome then s.refusesArm m
          else if ∀ i : AxisNo, s.cfg.axes[i].kind = .unused ∨ s.cfg.axes[i].takeable = false then some .noAxis
          else if ∃ i : EntryNo, s.tks.dir[i].state ≠ .empty ∧ s.tks.dir[i].number = m.number then some .takeExists
          else if ∀ i : EntryNo, s.tks.dir[i].state ≠ .empty then some .dirFull
          else none := by
      have hcommon : v.armCommon m = s.refusesArm m := (armCommon_eq v m).trans (hv ▸ rfl)
      have honly : v.armRecordOnly m = s.armRecordOnly m := hv ▸ rfl
      rw [hcommon, honly]
      cases s.refusesArm m with
      | some r => rfl
      | none =>
        rw [Option.none_or, State.armRecordOnly]
        simp only [takeableAxes_isEmpty_iff, Tks.find_isSome_iff, Tks.lowestEmpty_isNone_iff, Option.isSome_none,
          Bool.false_eq_true, if_false]
    cases hr : (v.armCommon m).or (v.armRecordOnly m) with
    | some r =>
      rw [armRecordTake_refused htakes hr] at hexec
      obtain ⟨hstop, htks, hlast, hflag⟩ := hrest (v.tkq.refuse .record m r) refuse_running
      refine ⟨_, some r, hexec, hr.symm.trans hreason, fun r' hr' => ?_, nofun, hstop, htks, hlast, hflag⟩
      obtain rfl := Option.some.inj hr'
      exact (hend _ refuse_running).tkq.trans (hv ▸ rfl)
    | none =>
      rw [armRecordTake_arms htakes hr] at hexec
      obtain ⟨hstop, htks, hlast, hflag⟩ := hrest (v.tkq.armedBy m v.takeableAxes) armedBy_running
      have htkq := (hend (v.tkq.armedBy m v.takeableAxes) armedBy_running).tkq
      refine ⟨_, none, hexec, hr.symm.trans hreason, nofun, fun _ => ⟨?_, fun i => ?_, ?_⟩, hstop, htks, hlast, hflag⟩
      · rw [htkq]
        obtain ⟨p, hp⟩ := parseCue_period h.2.1.1 hk
        exact hp.trans (congrArg (fun x : Option Nat => some (x.getD 10)) hp.symm)
      · rw [htkq]
        exact (mem_takeableAxes v i).trans (hv ▸ Iff.rfl)
      · rw [htkq, hv]
        rfl

/-- Settles O42: the pre-roll hands the targets of sample 0 in its own event, whose end gives each claimed axis to TAKE. -/
theorem armPlayPrerollsOrRefuses : Obligations.ArmPlayPrerollsOrRefuses := by
  intro c w m s h hk
  obtain ⟨v, hv⟩ : ∃ v, v = s.heardCue w m := ⟨_, rfl⟩
  have hcalm : v.calm := hv ▸ heardCue_calm w m h.1.1
  have hdispatch := dispatchCue_armPlay (s.heardCue w m) hk
  refine ⟨fun hbusy => ?_, fun hfree => ?_⟩
  · exact exec_ignored h (hdispatch.trans (armPlayTake_ignored (takesArm_false_iff.mpr hbusy)))
      (calm_of_same rfl rfl rfl rfl (heardCue_calm w m h.1.1))
  · have htakes : v.tkq.state.takesArm = true := hv ▸ takesArm_iff.mpr hfree
    have hnot : v.tkq.state ≠ .running := takesArm_running htakes
    have hexec := exec_hearsCue h
    rw [hdispatch, ← hv] at hexec
    have hcommon : v.armCommon m = s.refusesArm m := (armCommon_eq v m).trans (hv ▸ rfl)
    have hcfg : v.cfg = s.cfg := hv ▸ rfl
    have hreason : (v.armCommon m).or (v.armPlayOnly m)
        = if (s.refusesArm m).isSome then s.refusesArm m
          else match s.tks.entry m.number with
            | none => some .noTake
            | some e => s.armPlayEntry e := by
      have honly : v.armPlayOnly m = s.armPlayOnly m := hv ▸ rfl
      rw [hcommon, honly]
      cases s.refusesArm m <;> rfl
    simp only [← armPlayEntry_eq]
    cases hr : (v.armCommon m).or (v.armPlayOnly m) with
    | some r =>
      rw [armPlayTake_refused htakes hr] at hexec
      have hend : Eases _ (endEvent (setTake (v.tkq.refuse .play m r) v)) :=
        endEvent_eases_take hcalm rfl rfl rfl rfl ⟨fun h => absurd h refuse_running, fun h => absurd h hnot⟩ fun _ => rfl
      refine ⟨_, hexec, hend.stop.trans (hv ▸ rfl), hend.tks.trans (hv ▸ rfl), fun hne => endEvent_flag
        (setTake_takeChange ?_), fun reason hreason' => ?_⟩
      · rw [hend.tkq] at hne
        exact hv ▸ hne
      · obtain rfl : reason = some r := hreason'.trans (hreason.symm.trans hr)
        refine ⟨fun r' hr' => ?_, nofun⟩
        obtain rfl := Option.some.inj hr'
        exact hend.tkq.trans (hv ▸ rfl)
    | none =>
      obtain ⟨hnone, honly⟩ := Option.or_eq_none_iff.mp hr
      obtain ⟨e, he⟩ : ∃ e, v.tks.entry m.number = some e := by
        refine Option.ne_none_iff_exists'.mp fun hno => ?_
        simp only [State.armPlayOnly, hno] at honly
        exact absurd honly nofun
      have hentry : v.armPlayEntry e = none := by
        simp only [State.armPlayOnly, he] at honly
        exact honly
      rw [armPlayTake_arms htakes hr he] at hexec
      obtain ⟨p, hp⟩ : ∃ p, p = setTake (v.tkq.prerolledBy m e) v := ⟨_, rfl⟩
      rw [← hp] at hexec
      have hptkq : p.tkq = v.tkq.prerolledBy m e := hp ▸ rfl
      have hpstate : (handTargets p).tkq.state = .preroll := congrArg Tkq.state hptkq
      have hvtkq : v.tkq = s.tkq := hv ▸ rfl
      have hvtks : v.tks = s.tks := hv ▸ rfl
      have hend : Eases (handTargets p) (endEvent (handTargets p)) :=
        endEvent_eases_take hcalm (hp ▸ rfl) (hp ▸ rfl) (hp ▸ rfl) (hp ▸ rfl)
          ⟨fun h => absurd (hpstate.symm.trans h) nofun, fun h => absurd h hnot⟩
          fun i => by rw [(handTargets_still p i).1, hp]; rfl
      have hset : (setTake (v.tkq.prerolledBy m e) v).svp = p.svp := hp ▸ rfl
      refine ⟨_, hexec, hend.stop.trans (hp ▸ hv ▸ rfl), hend.tks.trans (hp ▸ hv ▸ rfl), fun hne => ?_,
        fun reason hreason' => ⟨fun r' hr' => absurd (hr'.symm.trans (hreason'.trans (hreason.symm.trans hr))) nofun,
          fun _ => ⟨e, hvtks ▸ he, ?_, fun i hi htake => ?_⟩⟩⟩
      · refine endEvent_flag (s := handTargets p) ?_
        rw [hend.tkq] at hne
        show p.svp.flags.getLsbD flagTakeChange = true
        rw [← hset]
        refine setTake_takeChange ?_
        rw [hvtkq]
        exact fun h => hne (hpstate.trans h)
      · rw [hend.tkq, hp, hv]
        rfl
      · have hpe : p.tks.entry p.tkq.number = some e := hp ▸ he
        have hpcfg : p.cfg = s.cfg := hp ▸ hcfg
        have hpaxes : p.axes = s.axes := hp ▸ hv ▸ rfl
        have hpe' : e.axes = p.tkq.axes := hp ▸ rfl
        have hclaims : p.claims i = true := claims_preroll (hp ▸ rfl) (hpe' ▸ hi) (by rw [hpcfg]; exact htake) (hp ▸ rfl)
        have hvalue : p.playValue i = s.tks.sampleValue e 0 (e.axes.idxOf i) := by
          have htime : p.tkq.t = 0 := hp ▸ rfl
          simp only [State.playValue, hpe, htime, valueAt_zero]
          exact hp ▸ hv ▸ rfl
        have hgoal : (endEvent (handTargets p)).tkq.goal[i]
            = p.targetCount i (s.tks.sampleValue e 0 (e.axes.idxOf i)) := by
          rw [hend.tkq, handTargets_goal, if_pos hclaims, hvalue]
        have htarget (hl : s.cfg.axes[i].kind = .lens) : p.targetCount i (s.tks.sampleValue e 0 (e.axes.idxOf i))
            = mapUnit s.cfg.axes[i] s.axes[i].lens (s.tks.sampleValue e 0 (e.axes.idxOf i)).toNat := by
          have hlens : p.isLens i = true := (isLens_iff p i).mpr (by rw [hpcfg]; exact hl)
          rw [State.targetCount, if_pos hlens, hpcfg, hpaxes]
        refine ⟨fun hseek => ?_, fun hmotion => ?_, fun hl => hgoal.trans (htarget hl), fun x hl hx => ?_⟩
        · have hq := hend.quiet
          have htcfg : (endEvent (handTargets p)).cfg = s.cfg := (cfg_of_quiet hq).trans hpcfg
          refine ((endEvent_formed (handTargets p)).2.1 ((operating_of_quiet hq).trans (hp ▸ hcalm.1)) i).trans
            (ownerOf_take ?_ ?_ ?_ ?_)
          · rw [hend.stop]
            exact (hp ▸ hv ▸ refusesArm_none (hcommon.symm.trans hnone))
          · have hused := (used_iff v i).mp (armPlayEntry_used hentry hi)
            rw [used_iff, htcfg]
            rwa [hcfg] at hused
          · rw [hend.seeking, (handTargets_still p i).2, hpaxes]
            exact hseek
          · exact claims_preroll (hend.tkq ▸ hp ▸ rfl) (hend.tkq ▸ hpe' ▸ hi) (by rw [htcfg]; exact htake)
              (hend.tkq ▸ hpstate)
        · have hlens : p.isLens i = false := by
            rw [State.isLens, hpcfg, decide_eq_false (by rw [hmotion]; decide)]
          rw [hgoal, State.targetCount, hlens]
          rfl
        · have hlens : p.isLens i = true := (isLens_iff p i).mpr (by rw [hpcfg]; exact hl)
          have haxis : (handTargets p).axes[i] = s.axes[i].mapped (s.tks.sampleValue e 0 (e.axes.idxOf i)).toNat x := by
            rw [handTargets_axis, hvalue, ← hgoal, hx]
            simp only [hclaims, hlens, Bool.and_self, if_true, hpaxes]
          have hstill := hend.axis i
          rw [haxis] at hstill
          exact ⟨congrArg (·.dsl.held) hstill, congrArg (·.lens.lastUnit) hstill⟩
end

section
/-! PROOFS. The evaluation of a RESUME (R141 to R144): O46. -/

namespace Sys2Proof.Machine

/-! ## The persisting conditions (R142) -/

section
variable {s t : State}

/-- The test of one code of R142. -/
def State.persistsNow (s : State) : Cause → Bool
  | .estop => s.anyLine fun f => decide (f = .estop)
  | .crewTrip => s.groupPersists
  | .limit => s.anyLine s.limitPersists
  | .driveFault => s.anyLine LineFunction.isDriveFault
  | .encLost => !s.encodersLocked
  | .zoneBreach => allEight.any fun z => s.zones[z].breached
  | .peerLost => s.rosterPeerMissing
  | .duplicate => decide (s.lif.mute = .permanent)
  | .lineMute => decide (s.lif.mute = .lineMute)
  | _ => false

theorem persisting_eq_find (s : State) : s.persisting = persistingOrder.find? s.persistsNow := by
  have hif (k : Cause) (ks : List Cause) :
      (k :: ks).find? s.persistsNow = if s.persistsNow k = true then some k else ks.find? s.persistsNow := by
    cases h : s.persistsNow k <;> simp [List.find?, h]
  simp only [State.persisting, persistingOrder, hif, List.find?_nil, State.persistsNow, decide_eq_true_eq]

theorem anyLine_iff (f : LineFunction → Bool) :
    s.anyLine f = true ↔ ∃ k : LineNo, f s.cfg.lines[k].function = true ∧ ¬ s.clear k := by
  simp only [State.anyLine, List.any_eq_true, Bool.and_eq_true, not_clear_iff]
  exact ⟨fun ⟨k, _, h⟩ => ⟨k, h⟩, fun ⟨k, h⟩ => ⟨k, mem_allSixteen k, h⟩⟩

theorem limitPersists_iff {f : LineFunction} : s.limitPersists f = true
    ↔ ∃ i highEnd, f = .limit i highEnd ∧ ¬ (s.cfg.axes[i].kind = .lens ∧ s.axes[i].lens.cal.state = .calibrated) := by
  cases f <;> simp [State.limitPersists, State.isLens, imp_iff_not_or]

theorem isDriveFault_iff {f : LineFunction} : LineFunction.isDriveFault f = true ↔ ∃ i, f = .driveFault i := by
  cases f <;> simp [LineFunction.isDriveFault]

theorem groupPersists_iff : s.groupPersists = true ↔ s.persistsBy .crewTrip := by
  simp only [State.groupPersists, Bool.or_eq_true, List.any_eq_true, Bool.and_eq_true, decide_eq_true_eq]
  exact or_congr ⟨fun ⟨g, _, h⟩ => ⟨g, h⟩, fun ⟨g, h⟩ => ⟨g, mem_allAxes g, h⟩⟩
    ⟨fun ⟨k, _, h⟩ => ⟨k, h⟩, fun ⟨k, h⟩ => ⟨k, mem_allSixteen k, h⟩⟩

theorem rosterPeerMissing_iff : s.rosterPeerMissing = true ↔ s.persistsBy .peerLost := by
  simp only [State.rosterPeerMissing, State.present, List.any_eq_true, Bool.and_eq_true, decide_eq_true_eq,
    Bool.not_eq_true', decide_eq_false_iff_not, and_assoc]
  exact ⟨fun ⟨st, _, h⟩ => ⟨st, h⟩, fun ⟨st, h⟩ => ⟨st, mem_allStations st, h⟩⟩

theorem persistsNow_iff {k : Cause} (s : State) : s.persistsNow k = true ↔ s.persistsBy k := by
  cases k with
  | estop =>
    exact (anyLine_iff fun f => decide (f = .estop)).trans
      (exists_congr fun _ => and_congr_left fun _ => decide_eq_true_iff)
  | crewTrip => exact groupPersists_iff
  | limit =>
    refine (anyLine_iff _).trans ?_
    simp only [limitPersists_iff (s := s)]
    exact ⟨fun ⟨k, ⟨i, e, hf, hl⟩, hc⟩ => ⟨k, i, e, hf, hl, hc⟩, fun ⟨k, i, e, hf, hl, hc⟩ => ⟨k, ⟨i, e, hf, hl⟩, hc⟩⟩
  | driveFault =>
    refine (anyLine_iff _).trans ?_
    simp only [isDriveFault_iff]
    exact ⟨fun ⟨k, ⟨i, hf⟩, hc⟩ => ⟨k, i, hf, hc⟩, fun ⟨k, i, hf, hc⟩ => ⟨k, ⟨i, hf⟩, hc⟩⟩
  | encLost =>
    have hlocked := (encodersLocked_iff s).not
    rw [Bool.not_eq_true] at hlocked
    simp only [State.persistsNow, Bool.not_eq_true', hlocked, not_forall, not_or]
    rfl
  | zoneBreach =>
    refine List.any_eq_true.trans ?_
    exact ⟨fun ⟨z, _, h⟩ => ⟨z, h⟩, fun ⟨z, h⟩ => ⟨z, mem_allEight z, h⟩⟩
  | peerLost => exact rosterPeerMissing_iff
  | duplicate => exact decide_eq_true_iff
  | lineMute => exact decide_eq_true_iff
  | _ => exact ⟨nofun, nofun⟩

theorem persisting_none (h : ∀ k ∈ persistingOrder, ¬ s.persistsBy k) : s.persisting = none := by
  rw [persisting_eq_find, List.find?_eq_none]
  exact fun k hk hp => h k hk ((persistsNow_iff s).mp hp)

theorem persisting_some {before after : List Cause} {k : Cause} (horder : persistingOrder = before ++ k :: after)
    (hbefore : ∀ j ∈ before, ¬ s.persistsBy j) (hk : s.persistsBy k) : s.persisting = some k := by
  rw [persisting_eq_find, List.find?_eq_some_iff_append]
  refine ⟨(persistsNow_iff s).mpr hk, before, after, horder, fun j hj => ?_⟩
  rw [Bool.not_eq_true', Bool.eq_false_iff]
  exact fun hp => hbefore j hj ((persistsNow_iff s).mp hp)

theorem heardCue_persistsBy (w : Wire) (m : CueMsg) (k : Cause) :
    (s.heardCue w m).persistsBy k ↔ s.persistsBy k := by
  have hpresence (st : StationNo) : (s.heardCue w m).peers[st].presence = s.peers[st].presence := by
    simp only [State.heardCue, getElem_set_fin]
    split
    · next h =>
      obtain rfl := h
      rfl
    · rfl
  cases k with
  | peerLost => exact exists_congr fun st => and_congr_right fun _ => and_congr_right fun _ => by rw [hpresence]
  | _ => exact Iff.rfl

end

/-! ## Axes that the end of an event leaves as they are -/

section
variable {s t : State} {j : AxisNo}

theorem crewWarning_of_sources (hcfg : t.cfg = s.cfg) (hlines : t.lines = s.lines) (hword : t.word = s.word)
    (hpeers : ∀ st : StationNo, st ≠ s.cfg.own → t.peers[st] = s.peers[st]) : t.crewWarning = s.crewWarning := by
  have hslot (b : Bool) (line : StationNo × SlotNo) : t.readSlot b line = s.readSlot b line := by
    unfold State.readSlot State.present
    rw [hcfg, hword]
    split
    · rfl
    · next hne => rw [hpeers _ hne]
  simp only [State.crewWarning, State.lineActiveOrUnqualified, State.lineActive, hcfg, hlines, hslot]

theorem ownerOf_stop (h : s.stop.state ≠ .run) (i : AxisNo) : s.ownerOf i = .stop := if_pos h

theorem formOwners_axis_kept (howner : s.axes[j].dsl.owner = s.ownerOf j)
    (hcap : s.axes[j].cap = s.capOf s.crewWarn (s.ownerOf j) j) : (formOwners s).axes[j] = s.axes[j] := by
  rw [formOwners_axis, ← howner, ownAxis_same, howner, ← hcap]

/-- An axis whose owner and cap already stand as their sources give them stays, where the line word does. -/
theorem endEvent_axis_kept (hword : s.formWord = s.word) (hcrew : s.crewWarn = s.crewWarning)
    (howner : s.axes[j].dsl.owner = s.ownerOf j) (hcap : s.axes[j].cap = s.capOf s.crewWarn (s.ownerOf j) j) :
    (endEvent s).axes[j] = s.axes[j] := by
  have hfeeds := formOwners_feeds s
  have hfirst := formOwners_axis_kept howner hcap
  have hsettle : settle 4 (formOwners s) = formOwners s :=
    settle_settled 4 ((Feeds.formWord_eq hfeeds).trans hword)
  have hcalm : formCrew (formOwners s) = formOwners s :=
    formCrew_capped (hcrew.trans (Feeds.crewWarning_eq hfeeds rfl).symm)
  unfold endEvent
  rw [formAttention_axes]
  split
  · rw [hsettle, hcalm]
    refine (formOwners_axis_kept ?_ ?_).trans hfirst
    · rw [hfirst, Feeds.ownerOf_eq hfeeds, howner]
    · rw [hfirst, Feeds.ownerOf_eq hfeeds, Feeds.capOf_eq hfeeds]
      exact hcap
  · rfl

theorem ownerOf_of_sources (hcfg : t.cfg = s.cfg) (hrun : t.stop.state = .run ↔ s.stop.state = .run) (htkq : t.tkq = s.tkq)
    (hseek : t.axes[j].seeking = s.axes[j].seeking) : t.ownerOf j = s.ownerOf j := by
  unfold State.ownerOf State.used State.claims
  simp only [ne_eq, hrun, hcfg, htkq, hseek]

theorem capOf_of_sources (hcfg : t.cfg = s.cfg) (htkq : t.tkq = s.tkq) (warn : Bool) (owner : Owner) :
    t.capOf warn owner j = s.capOf warn owner j := by
  unfold State.capOf State.claims
  rw [hcfg, htkq]

/-- Two states between which an event has moved axes, and neither left RUN nor entered it. -/
structure MovesAxes (s t : State) : Prop where
  hold : t.hold = s.hold
  load : t.cfl = s.cfl
  cfg : t.cfg = s.cfg
  lines : t.lines = s.lines
  word : t.word = s.word
  warn : t.crewWarn = s.crewWarn
  run : t.stop.state = .run ↔ s.stop.state = .run
  tkq : t.tkq = s.tkq
  peers : ∀ st : StationNo, st ≠ s.cfg.own → t.peers[st] = s.peers[st]
  target : ∀ i : AxisNo, t.axes[i].mpr.atTarget = s.axes[i].mpr.atTarget

theorem MovesAxes.formWord (h : MovesAxes s t) : t.formWord = s.formWord :=
  formWord_of_sources h.cfg h.lines h.run (by rw [h.tkq]) h.target

theorem MovesAxes.operating (h : MovesAxes s t) : t.operating = s.operating := by
  simp only [State.operating, State.inReset, h.hold, h.load]

/-- An event of a calm station that moves axes alone is followed by no reaction but owners, gates and caps. -/
theorem MovesAxes.eases (h : MovesAxes s t) (hs : s.calm) : Eases t (endEvent t) :=
  endEvent_eases (.inl (h.formWord.trans (hs.word_eq.trans h.word.symm)))

/-- An axis that such an event has not moved stays. -/
theorem MovesAxes.axis_kept (h : MovesAxes s t) (hs : s.calm) (haxis : t.axes[j] = s.axes[j]) :
    (endEvent t).axes[j] = s.axes[j] := by
  have howner : t.ownerOf j = s.ownerOf j :=
    ownerOf_of_sources h.cfg h.run h.tkq (by rw [haxis])
  refine (endEvent_axis_kept (h.formWord.trans (hs.word_eq.trans h.word.symm)) ?_ ?_ ?_).trans haxis
  · rw [h.warn, crewWarning_of_sources h.cfg h.lines h.word h.peers]
    exact (hs.2.2.2.1 hs.1).1
  · rw [haxis, howner]
    exact hs.2.2.1 hs.1 j
  · rw [haxis, howner, h.warn, capOf_of_sources h.cfg h.tkq]
    exact (hs.2.2.2.1 hs.1).2 j

/-- The owner that the end of such an event forms (R51). -/
theorem MovesAxes.owner (h : MovesAxes s t) (hs : s.calm) (i : AxisNo) : (endEvent t).axes[i].dsl.owner = t.ownerOf i := by
  have hease := h.eases hs
  refine ((endEvent_formed t).2.1 ((operating_of_quiet hease.quiet).trans (h.operating.trans hs.1)) i).trans ?_
  exact ownerOf_of_sources (cfg_of_quiet hease.quiet) (by rw [hease.stop]) hease.tkq (hease.seeking i)

theorem ownerOf_cal (hrun : s.stop.state = .run) (hu : s.used j = true) (hseek : s.axes[j].seeking = true) :
    s.ownerOf j = .cal := by
  simp only [State.ownerOf, hrun, hu, hseek, ne_eq, not_true_eq_false, if_false, Bool.not_true, Bool.false_eq_true, if_true]

theorem MovesAxes.trans {u : State} (h : MovesAxes s t) (h' : MovesAxes t u) : MovesAxes s u where
  hold := h'.hold.trans h.hold
  load := h'.load.trans h.load
  cfg := h'.cfg.trans h.cfg
  lines := h'.lines.trans h.lines
  word := h'.word.trans h.word
  warn := h'.warn.trans h.warn
  run := h'.run.trans h.run
  tkq := h'.tkq.trans h.tkq
  peers st hst := (h'.peers st (by rwa [h.cfg])).trans (h.peers st hst)
  target i := (h'.target i).trans (h.target i)

end

/-! ## The evaluation (R141 to R143) -/

theorem dispatchCue_resume {m : CueMsg} (s : State) (h : m.kind = .resume) : dispatchCue m s = evaluateResume s := by
  simp only [dispatchCue, h]

theorem evaluateResume_ignored {s : State} (h : s.stop.state ≠ .stopped) : evaluateResume s = s := if_neg h

theorem evaluateResume_accepted {s : State} (h : s.stop.state = .stopped) (hp : s.persisting = none) :
    evaluateResume s = acceptResume s := by
  rw [evaluateResume, if_pos h, hp]

theorem evaluateResume_blocked {s : State} {k : Cause} (h : s.stop.state = .stopped) (hp : s.persisting = some k) :
    evaluateResume s = blockResume k s := by
  rw [evaluateResume, if_pos h, hp]

theorem requestBurst_slot {s : State} {k : Cause} {category : Category} (hc : s.stop.category = some category)
    (hm : s.lif.mute ≠ .permanent) : (requestBurst k s).lif.stop
      = some { category := category, cause := k, seq := s.stop.seq, copies := 3, nextIndex := 0 } := by
  simp only [requestBurst, hc, Lif.placeStop, if_neg hm]

end Sys2Proof.Machine

open Sys2Proof Sys2Proof.Machine

/-- Settles O46: a blocked resume changes no source of what an event re-forms, and an accepted one only leaves STOPPED for
RESUMING, in which every axis keeps the owner STOP. -/
theorem resumeIsEvaluatedInStopped : Obligations.ResumeIsEvaluatedInStopped := by
  intro c w m s h hk
  obtain ⟨v, hv⟩ : ∃ v, v = s.heardCue w m := ⟨_, rfl⟩
  have hcalm : v.calm := hv ▸ heardCue_calm w m h.1.1
  have hvstop : v.stop = s.stop := hv ▸ rfl
  have hvaxes : v.axes = s.axes := hv ▸ rfl
  have hpersists (k : Cause) : v.persistsBy k ↔ s.persistsBy k := hv ▸ heardCue_persistsBy w m k
  have hexec := exec_hearsCue h
  rw [dispatchCue_resume _ hk, ← hv] at hexec
  refine ⟨fun hne => ?_, fun hstopped hnone => ?_, fun before k after hstopped horder hbefore hpk => ?_⟩
  · exact exec_ignored h ((dispatchCue_resume _ hk).trans (evaluateResume_ignored hne)) (heardCue_calm w m h.1.1)
  · have hvs : v.stop.state = .stopped := (congrArg StopRecord.state hvstop).trans hstopped
    have hrun : v.stop.state ≠ .run := by rw [hvs]; decide
    rw [evaluateResume_accepted hvs (persisting_none fun k hk => (hpersists k).not.mpr (hnone k hk))] at hexec
    obtain ⟨u, hu⟩ : ∃ u, u = acceptResume v := ⟨_, rfl⟩
    have hur : u.stop.state ≠ .run := by rw [hu]; exact StopState.noConfusion
    have hmoves : MovesAxes v u := {
      hold := hu ▸ rfl, load := hu ▸ rfl, cfg := hu ▸ rfl, lines := hu ▸ rfl, word := hu ▸ rfl, warn := hu ▸ rfl,
      tkq := hu ▸ rfl
      run := ⟨fun hr => absurd hr hur, fun hr => absurd hr hrun⟩
      peers := fun st hst => by
        rw [hu]
        exact peer_of_quiet (announce_quiet _) hst
      target := fun i => by rw [hu]; rfl }
    have haxes : (endEvent u).axes = v.axes := vector_ext fun i => hmoves.axis_kept hcalm (by rw [hu]; rfl)
    have hend := hmoves.eases hcalm
    rw [← hu] at hexec
    exact ⟨_, hexec, hend.driveOn.trans (hu ▸ rfl), haxes.trans hvaxes, hend.stop.trans (hu ▸ hvstop ▸ rfl)⟩
  · have hvs : v.stop.state = .stopped := (congrArg StopRecord.state hvstop).trans hstopped
    rw [evaluateResume_blocked hvs (persisting_some horder (fun j hj => (hpersists j).not.mpr (hbefore j hj))
      ((hpersists k).mpr hpk))] at hexec
    have hend : endEvent (blockResume k v) = formAttention (blockResume k v) :=
      endEvent_same (s := v) rfl rfl hcalm
    rw [hend] at hexec
    refine ⟨_, hexec, hvaxes, hv ▸ rfl, hvstop ▸ rfl, Svp.raise_set (by decide) v.svp, fun category hc hm => ?_⟩
    rw [formAttention_lif, ← hvstop]
    exact requestBurst_slot (hvstop ▸ hc) (hv ▸ hm)

end

section
/-! PROOFS. GO, HALT and DISARM (R172, R178, R179): O43, O44, O45. -/

namespace Sys2Proof.Machine

/-! ## The first owners of an event -/

section
variable {s : State} {i : AxisNo}

/-- The end of an event that cannot stop the station, from the owners formed first. -/
theorem formOwners_endEvent_eases (hop : s.operating = true) (h : s.noOwnGates) : Eases (formOwners s) (endEvent s) := by
  unfold endEvent
  rw [if_pos hop]
  exact (settle_eases (s := formOwners s) 4 h).trans (((eases_board _ _ _ _).trans (formOwners_eases _)).trans
    ((eases_board _ _ _ _).trans (formAttention_eases _)))

/-- A MOTION axis that an event brings from another owner to LIVE has its latch set and its gate not OPEN (R54, R55). -/
theorem endEvent_enters_live (hop : s.operating = true) (h : s.noOwnGates) (hk : s.cfg.axes[i].kind = .motion)
    (hfrom : s.axes[i].dsl.owner ≠ .live) (hto : s.ownerOf i = .live) : (endEvent s).axes[i].dsl.shut := by
  refine (formOwners_endEvent_eases hop h).shut i ?_
  rw [formOwners_axis, hto]
  exact ownAxis_enters hk hfrom

/-- Where the owner table gives a live axis (R51). -/
theorem ownerOf_live (hrun : s.stop.state = .run) (hu : s.used i = true) (hseek : s.axes[i].seeking = false)
    (hc : s.claims i = false) (hl : s.cfg.axes[i].liveSource ≠ none) : s.ownerOf i = .live := by
  have hlive : s.cfg.axes[i].liveSource.isSome = true := Option.isSome_iff_ne_none.mpr hl
  simp only [State.ownerOf, hrun, hu, hseek, hc, hlive, ne_eq, not_true_eq_false, if_false, Bool.not_true,
    Bool.false_eq_true, if_true]

theorem claims_of_mode (h : s.tkq.mode ≠ some .play) : s.claims i = false := by
  simp only [State.claims, h, decide_false, Bool.false_and]

end

/-! ## HALT and DISARM -/

section
variable {m : CueMsg} {s : State}

theorem dispatchCue_halt (s : State) (h : m.kind = .halt) : dispatchCue m s = haltTake m s := by
  simp only [dispatchCue, h]

theorem dispatchCue_disarm (s : State) (h : m.kind = .disarm) : dispatchCue m s = disarmTake m s := by
  simp only [dispatchCue, h]

theorem underWay_iff {x : TakeState} : x.underWay = true ↔ x = .running ∨ x = .waiting := by
  cases x <;> simp [TakeState.underWay]

theorem haltTake_ignored (h : m.number ≠ s.tkq.number ∨ s.tkq.state ≠ .running ∧ s.tkq.state ≠ .waiting) :
    haltTake m s = s := by
  refine if_neg fun ⟨hn, hu⟩ => ?_
  rcases h with h | ⟨hr, hw⟩
  · exact h hn
  · exact (underWay_iff.mp hu).elim hr hw

theorem haltTake_ends (hn : m.number = s.tkq.number) (hu : s.tkq.state = .running ∨ s.tkq.state = .waiting) :
    haltTake m s = haltNow s := if_pos ⟨hn, underWay_iff.mpr hu⟩

theorem haltNow_tkq (s : State) : (haltNow s).tkq
    = { s.tkq with state := .ended, endKind := some .halted, goal := s.haltGoals, appendDue := false } := rfl

theorem haltGoals_claimed {i : AxisNo} (h : s.claims i = true) :
    s.haltGoals[i] = some (stoppingPoint s.cfg.axes[i].a s.axes[i].mpr) := by
  rw [State.haltGoals, getElem_ofFn_fin, if_pos h]

/-- A play take that has ended keeps its claims (R52). -/
theorem claims_ended {t : State} {i : AxisNo} (h : s.claims i = true) (hcfg : t.cfg = s.cfg) (hmode : t.tkq.mode = s.tkq.mode)
    (haxes : t.tkq.axes = s.tkq.axes) (hstate : t.tkq.state = .ended) : t.claims i = true := by
  simp only [State.claims, Bool.and_eq_true] at h
  simp only [State.claims, hcfg, hmode, haxes, hstate, h.1, Bool.and_self]

theorem goalOf_take {i : AxisNo} {x : Int} (ho : s.axes[i].dsl.owner = .take) (ha : s.tkq.state ≠ .aborted)
    (hg : s.tkq.goal[i] = some x) : s.goalOf i = .position x := by
  simp only [State.goalOf, ho, if_neg ha, hg]

theorem disarmTake_ignored (h : m.number ≠ s.tkq.number ∧ m.number ≠ 0 ∨ s.tkq.state = .idle) : disarmTake m s = s := by
  refine if_neg fun ⟨hn, hi⟩ => ?_
  rcases h with ⟨hn', h0⟩ | h
  · exact hn.elim hn' h0
  · exact hi h

theorem disarmTake_acts (hn : m.number = s.tkq.number ∨ m.number = 0) (hi : s.tkq.state ≠ .idle) :
    disarmTake m s = idleTake (endRecordingNow true s) := if_pos ⟨hn, hi⟩

end

/-! ## GO -/

section
variable {m : CueMsg} {s : State}

theorem dispatchCue_go (s : State) (h : m.kind = .go) : dispatchCue m s = goTake m s := by
  simp only [dispatchCue, h]

theorem goTake_ignored (h : m.number ≠ s.tkq.number ∨ ¬ (s.tkq.state = .armed ∧ s.tkq.mode = some .record)
    ∧ ¬ (s.tkq.state = .ready ∧ s.tkq.mode = some .play)) : goTake m s = s := by
  unfold goTake
  split
  · rfl
  · next hn =>
    obtain ⟨hrec, hplay⟩ := h.resolve_left hn
    split
    · next hs hm => exact absurd ⟨hs, hm⟩ hrec
    · next hs hm => exact absurd ⟨hs, hm⟩ hplay
    · rfl

theorem goTake_record (hn : m.number = s.tkq.number) (hs : s.tkq.state = .armed) (hm : s.tkq.mode = some .record) :
    goTake m s = goRecord s := by
  rw [goTake, if_neg (not_not.mpr hn), hs, hm]

theorem goTake_play (hn : m.number = s.tkq.number) (hs : s.tkq.state = .ready) (hm : s.tkq.mode = some .play) :
    goTake m s = goPlay s := by
  rw [goTake, if_neg (not_not.mpr hn), hs, hm]

theorem othersReady_iff : s.othersReady = true ↔ ∀ st : StationNo, names s.tkq.mask st.val = true → st ≠ s.cfg.own →
    s.peers[st].takeState = .ready ∧ s.peers[st].takeNumber = s.tkq.number := by
  simp only [State.othersReady, State.otherParticipants, List.all_eq_true, List.mem_filter, Bool.and_eq_true,
    decide_eq_true_eq]
  exact ⟨fun h st hn ho => h st ⟨mem_allStations st, hn, ho⟩, fun h st ⟨_, hn, ho⟩ => h st hn ho⟩

/-- An append is marked as a store-full end exactly where it needs a block and none is free (R154). -/
theorem Tks.append_mark {t : Tks} {i : EntryNo} (values : List Int) (hrec : t.dir[i].state = .recording)
    (h : t.dir[i].length % samplesPerBlock t.dir[i].axes.length ≠ 0 ∨ t.free ≠ []) : (t.append i values).2 = false := by
  simp only [Tks.append, hrec, ne_eq, not_true_eq_false, if_false]
  split
  · next hfull =>
    cases hfree : t.free with
    | nil => exact absurd hfree (h.resolve_left (not_not.mpr hfull))
    | cons b rest => rfl
  · rfl

theorem Tks.openTake_mark {t : Tks} {b : Nat} {rest : List Nat} {i : EntryNo} (number : Byte) (period : Nat)
    (axes : List AxisNo) (values : List Int) (hfree : t.free = b :: rest) (hi : t.lowestEmpty = some i) :
    (t.openTake number period axes values).2 = false := by
  unfold Tks.openTake
  rw [hfree, hi]
  refine Tks.append_mark values ?_ (.inr (by rw [Tks.setEntry, hfree]; exact List.cons_ne_nil b rest))
  rw [Tks.setEntry, getElem_set_fin, if_pos rfl]

theorem Tks.openTake_full {t : Tks} (number : Byte) (period : Nat) (axes : List AxisNo) (values : List Int)
    (hfree : t.free = []) : t.openTake number period axes values = (t, true) := by
  simp only [Tks.openTake, hfree]

theorem goRecord_tks : (goRecord s).tks
    = (s.tks.openTake s.tkq.number s.tkq.period s.tkq.axes (s.tkq.axes.map s.sampleNow)).1 := rfl

theorem goRecord_tkq : (goRecord s).tkq
    = if (s.tks.openTake s.tkq.number s.tkq.period s.tkq.axes (s.tkq.axes.map s.sampleNow)).2 then
        { s.tkq.start with state := .ended, endKind := some .storeFull }
      else s.tkq.start := rfl

/-- The words of a sample are read back as they were written. -/
theorem readWord_sample {mem : List Host.Cell} {b place j : Nat} {axes : List AxisNo} {value : AxisNo → Int} {a : AxisNo}
    (h : axes[j]? = some a) :
    readWord (writeWords mem b place ((axes.map value).map (BitVec.ofInt 32))) b (place + j) = BitVec.ofInt 32 (value a) := by
  obtain ⟨hj, ha⟩ := List.getElem?_eq_some_iff.mp h
  rw [readWord_writeWords (by simpa using hj)]
  simp only [List.getElem_map, ha]

theorem goPlay_declined (h : s.othersReady = false) :
    goPlay s = { s with tkq := { s.tkq with goDeclined := satInc s.tkq.goDeclined } } :=
  if_neg (by rw [h]; exact Bool.false_ne_true)

theorem goPlay_tkq (h : s.othersReady = true) : (goPlay s).tkq = if s.tkq.length = 1 then
    { s.tkq.start with state := .ended, endKind := some .endReached } else s.tkq.start := by
  rw [goPlay, if_pos h]
  rfl

theorem goPlay_tks : (goPlay s).tks = s.tks ∧ (goPlay s).cfg = s.cfg := by
  unfold goPlay
  split <;> exact ⟨rfl, rfl⟩

theorem heardCue_last (w : Wire) (m : CueMsg) (st : StationNo) :
    (s.heardCue w m).peers[st].last = s.peers[st].last := by
  simp only [State.heardCue, getElem_set_fin]
  split
  · next h =>
    obtain rfl := h
    rfl
  · rfl

theorem heardCue_othersReady (w : Wire) (m : CueMsg) : (s.heardCue w m).othersReady = s.othersReady := by
  simp only [State.othersReady, PeerEntry.takeState, PeerEntry.takeNumber, heardCue_last]
  rfl

end
end Sys2Proof.Machine

open Sys2Proof Sys2Proof.Machine

/-- Settles O44: the halted take keeps its claims, so that its last targets are the stopping points. -/
theorem haltEndsTheTake : Obligations.HaltEndsTheTake := by
  intro c w m s h hk hgates
  obtain ⟨v, hv⟩ : ∃ v, v = s.heardCue w m := ⟨_, rfl⟩
  have hcalm : v.calm := hv ▸ heardCue_calm w m h.1.1
  have hvtkq : v.tkq = s.tkq := hv ▸ rfl
  have hvtks : v.tks = s.tks := hv ▸ rfl
  have hvcfg : v.cfg = s.cfg := hv ▸ rfl
  have hvaxes : v.axes = s.axes := hv ▸ rfl
  have hexec := exec_hearsCue h
  rw [dispatchCue_halt _ hk, ← hv] at hexec
  refine ⟨fun hign => ?_, fun hn hu => ?_⟩
  · exact exec_ignored h ((dispatchCue_halt _ hk).trans (haltTake_ignored hign)) (heardCue_calm w m h.1.1)
  · rw [haltTake_ends (hvtkq ▸ hn) (hvtkq ▸ hu)] at hexec
    obtain ⟨u, hu'⟩ : ∃ u, u = haltNow v := ⟨_, rfl⟩
    rw [← hu'] at hexec
    have hucfg : u.cfg = s.cfg := (hu' ▸ rfl : u.cfg = v.cfg).trans hvcfg
    have hend : Eases u (endEvent u) := endEvent_eases (.inr ((noOwnGates_congr hucfg).mpr hgates))
    have htkq : (endEvent u).tkq
        = { s.tkq with state := .ended, endKind := some .halted, goal := v.haltGoals, appendDue := false } :=
      hend.tkq.trans (hu' ▸ hvtkq ▸ haltNow_tkq v)
    have hclaims (i : AxisNo) : v.claims i = s.claims i := by rw [hv]; rfl
    have hgoal (i : AxisNo) (hc : s.claims i = true) : (endEvent u).tkq.goal[i]
        = some (stoppingPoint s.cfg.axes[i].a s.axes[i].mpr) := by
      rw [htkq, ← hvcfg, ← hvaxes]
      exact haltGoals_claimed ((hclaims i).trans hc)
    have htks (x : Tks) (hx : (endRecordingNow true v).tks = x) : (endEvent u).tks = x := hend.tks.trans (hu' ▸ hx)
    refine ⟨_, hexec, htkq.trans (by rw [htkq]), hgoal, fun i hc ho => ⟨_, hgoal i hc, goalOf_take ho ?_ (hgoal i hc)⟩,
      fun hm => ⟨htks _ ((endRecordingNow_other (Tkq.recording_of_play (hvtkq ▸ hm)) true).trans hvtks), fun i hc => ?_⟩,
      fun i hm hr hi hs hup => htks _ ?_⟩
    · rw [htkq]
      exact nofun
    · exact claims_ended hc ((cfg_of_quiet hend.quiet).trans hucfg) (by rw [htkq]) (by rw [htkq]) (by rw [htkq])
    · have hfound := endRecordingNow_found (s := v) (hvtkq ▸ hm) (hvtkq ▸ hr) (hvtks ▸ hvtkq ▸ hi) (hvtks ▸ hs) (hvtks ▸ hup) true
      rw [hvtks] at hfound
      exact hfound

/-- Settles O45: with the record at its reset values no claim stands, and an axis that so leaves TAKE for LIVE has its latch
set where the owners are first formed. -/
theorem disarmReturnsToIdle : Obligations.DisarmReturnsToIdle := by
  intro c w m s h hk hgates
  obtain ⟨v, hv⟩ : ∃ v, v = s.heardCue w m := ⟨_, rfl⟩
  have hcalm : v.calm := hv ▸ heardCue_calm w m h.1.1
  have hvtkq : v.tkq = s.tkq := hv ▸ rfl
  have hvtks : v.tks = s.tks := hv ▸ rfl
  have hexec := exec_hearsCue h
  rw [dispatchCue_disarm _ hk, ← hv] at hexec
  refine ⟨fun hign => ?_, fun hn hne => ?_⟩
  · exact exec_ignored h ((dispatchCue_disarm _ hk).trans (disarmTake_ignored hign)) (heardCue_calm w m h.1.1)
  · rw [disarmTake_acts (hvtkq ▸ hn) (hvtkq ▸ hne)] at hexec
    obtain ⟨u, hu⟩ : ∃ u, u = idleTake (endRecordingNow true v) := ⟨_, rfl⟩
    rw [← hu] at hexec
    have hucfg : u.cfg = s.cfg := hu ▸ hv ▸ rfl
    have huaxes : u.axes = s.axes := hu ▸ hv ▸ rfl
    have hustop : u.stop = s.stop := hu ▸ hv ▸ rfl
    have huop : u.operating = true := hu ▸ hcalm.1
    have hugates : u.noOwnGates := (noOwnGates_congr hucfg).mpr hgates
    have hend : Eases u (endEvent u) := endEvent_eases (.inr hugates)
    have hutkq : u.tkq = s.tkq.cleared := hu ▸ hvtkq ▸ rfl
    have humode : u.tkq.mode ≠ some .play := by
      rw [hutkq]
      exact nofun
    refine ⟨_, hexec, hend.tkq.trans hutkq, fun i => claims_of_mode (hend.tkq ▸ humode), endEvent_flag (s := u) ?_,
      fun i hc hrun hseek hmotion hlive => ?_, fun i hm hr hi hs hup => hend.tks.trans ?_⟩
    · rw [hu]
      refine setTake_takeChange ?_
      show TakeState.idle ≠ v.tkq.state
      rw [hvtkq]
      exact fun h => hne h.symm
    · have hused : s.used i = true := (used_iff s i).mpr (by rw [hmotion]; decide)
      have howner : u.ownerOf i = .live := by
        refine ownerOf_live ?_ ?_ ?_ (claims_of_mode humode) ?_
        · rw [hustop]; exact hrun
        · rw [State.used, hucfg]; exact hused
        · rw [huaxes]; exact hseek
        · rw [hucfg]; exact hlive
      have hfrom : u.axes[i].dsl.owner ≠ .live := by
        rw [huaxes, h.1.1.2.2.1 h.1.1.1 i, ownerOf_take hrun hused hseek hc]
        exact nofun
      obtain ⟨hlatch, hgate⟩ := endEvent_enters_live huop hugates (by rw [hucfg]; exact hmotion) hfrom howner
      refine ⟨?_, hlatch, hgate⟩
      have hformed := (endEvent_formed u).2.1 ((operating_of_quiet hend.quiet).trans huop) i
      refine hformed.trans (ownerOf_live ?_ ?_ ?_ (claims_of_mode (hend.tkq ▸ humode)) ?_)
      · rw [hend.stop, hustop]; exact hrun
      · rw [State.used, cfg_of_quiet hend.quiet, hucfg]; exact hused
      · rw [hend.seeking, huaxes]; exact hseek
      · rw [cfg_of_quiet hend.quiet, hucfg]; exact hlive
    · have hfound := endRecordingNow_found (s := v) (hvtkq ▸ hm) (hvtkq ▸ hr) (hvtks ▸ hvtkq ▸ hi) (hvtks ▸ hs) (hvtks ▸ hup) true
      rw [hvtks] at hfound
      exact hu ▸ hfound

/-- Settles O43: GO in ARMED opens the recording with the values as they stand; GO in READY asks the other participants. -/
theorem goStartsTheTake : Obligations.GoStartsTheTake := by
  intro c w m s h hk hgates
  obtain ⟨v, hv⟩ : ∃ v, v = s.heardCue w m := ⟨_, rfl⟩
  have hvtkq : v.tkq = s.tkq := hv ▸ rfl
  have hvtks : v.tks = s.tks := hv ▸ rfl
  have hvcfg : v.cfg = s.cfg := hv ▸ rfl
  have hexec := exec_hearsCue h
  rw [dispatchCue_go _ hk, ← hv] at hexec
  refine ⟨fun hign => ?_, fun hn hs hm hlen => ?_, fun hn hs hm => ⟨fun hready => ?_, fun hnot => ?_⟩⟩
  · exact exec_ignored h ((dispatchCue_go _ hk).trans (goTake_ignored hign)) (heardCue_calm w m h.1.1)
  · rw [goTake_record (hvtkq ▸ hn) (hvtkq ▸ hs) (hvtkq ▸ hm)] at hexec
    have hend : Eases (goRecord v) (endEvent (goRecord v)) :=
      endEvent_eases (.inr ((noOwnGates_congr (s := v) rfl).mpr ((noOwnGates_congr hvcfg).mpr hgates)))
    have htks := hend.tks.trans goRecord_tks
    have htkq := hend.tkq.trans goRecord_tkq
    have hvalue : v.sampleNow = s.sampleNow := by rw [hv]; rfl
    rw [hvtks, hvtkq, hvalue] at htks htkq
    refine ⟨_, hexec, fun hfree => ?_, fun b rest i hfree hi => ?_⟩
    · rw [Tks.openTake_full _ _ _ _ hfree] at htks htkq
      exact ⟨htks, htkq⟩
    · rw [Tks.openTake_opens _ _ _ _ hfree hi] at htks
      rw [Tks.openTake_mark _ _ _ _ hfree hi] at htkq
      rw [htks]
      refine ⟨htkq, rfl, fun j hj => ?_, ?_, rfl, fun hfreeLinks => hfreeLinks b (hfree ▸ List.mem_cons_self),
        fun j a ha => ?_, fun a ha hb => ?_, fun a ha => ?_⟩
      · rw [getElem_set_fin, if_neg (Ne.symm hj)]
      · rw [getElem_set_fin, if_pos rfl]
        simp only [statsAfter, if_true, List.map_map]
        rfl
      · have hword := readWord_sample (mem := zeroBlock s.tks.mem b) (b := b) (place := 0) (value := s.sampleNow) ha
        rwa [Nat.zero_add] at hword
      · rw [readByte_writeWords_other, readByte_zeroBlock, if_pos (by omega)]
        simp only [wordAt, List.length_map]
        omega
      · rw [readByte_writeWords_other, readByte_zeroBlock, if_neg (by omega)]
        simp only [wordAt, List.length_map]
        omega
  · rw [goTake_play (hvtkq ▸ hn) (hvtkq ▸ hs) (hvtkq ▸ hm)] at hexec
    have hothers : v.othersReady = true := hv ▸ (heardCue_othersReady w m).trans (othersReady_iff.mpr hready)
    have hend : Eases (goPlay v) (endEvent (goPlay v)) :=
      endEvent_eases (.inr ((noOwnGates_congr goPlay_tks.2).mpr ((noOwnGates_congr hvcfg).mpr hgates)))
    have htkq := hend.tkq.trans (goPlay_tkq hothers)
    rw [hvtkq] at htkq
    exact ⟨_, hexec, hend.tks.trans (goPlay_tks.1.trans hvtks), fun hl => htkq.trans (if_neg hl),
      fun hl => htkq.trans (if_pos hl)⟩
  · refine exec_ignored h ((dispatchCue_go _ hk).trans ((goTake_play (s := s.heardCue w m) hn hs hm).trans (goPlay_declined ?_)))
      (calm_of_same (s := s.heardCue w m) rfl rfl rfl rfl (heardCue_calm w m h.1.1))
    rw [heardCue_othersReady, Bool.eq_false_iff]
    obtain ⟨st, hname, hown, hno⟩ := hnot
    exact fun hall => hno (othersReady_iff.mp hall st hname hown)
end

section
/-! PROOFS. The timers of a take: hold limit, end of play and append (R151 to R154, R173 to R177): O55. -/

namespace Sys2Proof.Machine

section
variable {s : State}

/-- A STATUS that an event composes changes no source of what its end re-forms. -/
theorem announce_feeds (s : State) : (announce s).feeds = s.feeds := by
  cases h : s.statusDiffers
  · simp only [announce, h]
    rfl
  · simp only [announce, h, if_true]
    exact feeds_ownPeer (s := { s with lif := s.lif.placeStatus s.statusNow })
      (e := s.peers[s.cfg.own].mirror s.statusNow s.time) rfl

/-! ## The hold limit and the end of play -/

theorem holdLimitDue_iff : s.holdLimitDue = true ↔ s.tkq.mode = some .play
    ∧ (s.tkq.state = .running ∨ s.tkq.state = .waiting) ∧ s.cfg.holdLimit < s.tkq.holdTimer := by
  simp only [State.holdLimitDue, Bool.and_eq_true, decide_eq_true_eq, underWay_iff, and_assoc, gt_iff_lt]

theorem endDue_iff : s.endDue = true ↔ s.tkq.mode = some .play ∧ s.tkq.state = .running
    ∧ (s.tkq.length - 1) * s.tkq.period ≤ s.tkq.t := by
  simp only [State.endDue, Bool.and_eq_true, decide_eq_true_eq, and_assoc]

/-- A play take that aborts without a stop keeps its claims (R52). -/
theorem claims_aborted {t : State} {i : AxisNo} (h : s.claims i = true) (hcfg : t.cfg = s.cfg) (hmode : t.tkq.mode = s.tkq.mode)
    (haxes : t.tkq.axes = s.tkq.axes) (hstate : t.tkq.state = .aborted) (hkind : t.tkq.abortKind = some .withoutStop) :
    t.claims i = true := by
  simp only [State.claims, Bool.and_eq_true] at h
  simp only [State.claims, hcfg, hmode, haxes, hstate, hkind, h.1, Bool.and_self, decide_true]

theorem abortWithoutStop_flag (h : s.tkq.state = .running ∨ s.tkq.state = .waiting) :
    (abortWithoutStop s).svp.flags.getLsbD flagTakeChange = true := by
  refine setTake_takeChange ?_
  show TakeState.aborted ≠ s.tkq.state
  rcases h with h | h <;> rw [h] <;> exact nofun

theorem endReachedWork_flag (h : s.tkq.state = .running) :
    (endReachedWork s).svp.flags.getLsbD flagTakeChange = true := by
  refine setTake_takeChange ?_
  show TakeState.ended ≠ s.tkq.state
  rw [h]
  exact nofun

/-! ## The append -/

/-- What the append of a period stores (R173). -/
def State.appended (s : State) : Tks × Bool := s.tks.appendTo s.tkq.number (s.tkq.axes.map s.sampleNow)

theorem appendWork_tks : (appendWork s).tks = s.appended.1 := rfl

theorem appendWork_tkq : (appendWork s).tkq = if s.appended.2 then
    { s.tkq with appendDue := false, state := .ended, endKind := some .storeFull }
  else { s.tkq with appendDue := false } := rfl

theorem sampleNow_eq (i : AxisNo) : s.sampleNow i
    = if s.cfg.axes[i].kind = .lens then ((s.axes[i].lens.lastUnit.getD 0 : Nat) : Int) else s.axes[i].mpr.count := by
  simp only [State.sampleNow, isLens_iff]

/-- An append that does not end the take changes no source of what its end re-forms. -/
theorem appendWork_feeds (h : s.appended.2 = false) : (appendWork s).feeds = s.feeds := by
  show (setTake (if s.appended.2 then { s.tkq with appendDue := false, state := .ended, endKind := some .storeFull }
      else { s.tkq with appendDue := false })
    (setStore s.appended.1 { s with tkq := { s.tkq with appendDue := false } })).feeds = s.feeds
  rw [h]
  exact announce_feeds _

/-- The per-axis values after a sample that is not the first (R153). -/
theorem statsAfter_add {k : Nat} {values : List Int} {old : Option (List AxisStat)} (hk : k ≠ 0) :
    statsAfter k values old = old.map fun l => (l.zip values).map fun p =>
      { p.1 with minimum := min p.1.minimum p.2, maximum := max p.1.maximum p.2 } := if_neg hk

theorem appendDue_iff : (s.tkq.appendDue && s.tkq.recording) = true
    ↔ s.tkq.appendDue = true ∧ s.tkq.mode = some .record ∧ s.tkq.state = .running := by
  rw [Bool.and_eq_true, Tkq.recording_iff]

/-- What the end of an append that does not end the take leaves (R173). -/
theorem endEvent_appendWork (h : s.calm) (hmark : s.appended.2 = false) :
    (endEvent (appendWork s)).tkq = { s.tkq with appendDue := false } ∧ (endEvent (appendWork s)).stop = s.stop
      ∧ (endEvent (appendWork s)).axes = s.axes ∧ (endEvent (appendWork s)).tks = s.appended.1 := by
  rw [endEvent_same (s := s) (appendWork_feeds hmark) rfl h]
  exact ⟨appendWork_tkq.trans (by rw [hmark]; rfl), rfl, rfl, rfl⟩

end
end Sys2Proof.Machine

open Sys2Proof Sys2Proof.Machine

/-- Settles O55: an append that finds its block changes no source of what an event re-forms, and the store after it is the one
that the append's equations give. -/
theorem takeTimersAct : Obligations.TakeTimersAct := by
  intro s h hgates
  have hend (u : State) (hu : u.cfg = s.cfg) : Eases u (endEvent u) :=
    endEvent_eases (.inr ((noOwnGates_congr hu).mpr hgates))
  refine ⟨fun hm hr hd => ?_, fun hno => ?_, fun hm hr hd => ?_, fun hno => ?_, fun hno => ?_, ?_⟩
  · have hdue : s.holdLimitDue = true := holdLimitDue_iff.mpr ⟨hm, hr, hd⟩
    have hease := hend (abortWithoutStop s) rfl
    refine ⟨_, congrArg Host.Outcome.next (eventIf_due h.1 hdue),
      hease.tks.trans (endRecordingNow_other (Tkq.recording_of_play hm) false), hease.stop,
      endEvent_flag (abortWithoutStop_flag hr), hease.tkq, fun i hc => ?_⟩
    exact claims_aborted hc (cfg_of_quiet (s := abortWithoutStop s) hease.quiet) (by rw [hease.tkq]; rfl) (by rw [hease.tkq]; rfl)
      (by rw [hease.tkq]; rfl) (by rw [hease.tkq]; rfl)
  · refine congrArg Host.Outcome.next (eventIf_notDue (Bool.eq_false_iff.mpr fun hdue => ?_))
    obtain ⟨hm, hr, hd⟩ := holdLimitDue_iff.mp hdue
    rcases hno with hno | ⟨hno, hno'⟩ | hno
    · exact hno hm
    · exact hr.elim hno hno'
    · exact absurd hd (Nat.not_lt.mpr hno)
  · have hease := hend (endReachedWork s) rfl
    exact ⟨_, congrArg Host.Outcome.next (eventIf_due h.1 (endDue_iff.mpr ⟨hm, hr, hd⟩)), hease.tks, hease.stop,
      endEvent_flag (endReachedWork_flag hr), hease.tkq⟩
  · refine congrArg Host.Outcome.next (eventIf_notDue (Bool.eq_false_iff.mpr fun hdue => ?_))
    obtain ⟨hm, hr, hd⟩ := endDue_iff.mp hdue
    rcases hno with hno | hno | hno
    · exact hno hm
    · exact hno hr
    · exact absurd hd (Nat.not_le.mpr hno)
  · refine congrArg Host.Outcome.next (eventIf_notDue (Bool.eq_false_iff.mpr fun hdue => ?_))
    obtain ⟨ha, hm, hr⟩ := appendDue_iff.mp hdue
    rcases hno with hno | hno | hno
    · exact Bool.false_ne_true (hno.symm.trans ha)
    · exact hno hm
    · exact hno hr
  · intro i e value n k place stats hdue hm hr hi he hrec hvalue hn hk hplace hstats
    obtain rfl : value = s.sampleNow := funext fun a => (hvalue a).trans (sampleNow_eq a).symm
    subst hn hk hplace hstats he
    have hap : s.appended = s.tks.append i (s.tkq.axes.map s.sampleNow) := by
      simp only [State.appended, Tks.appendTo, hi]
    refine ⟨_, congrArg Host.Outcome.next (eventIf_due h.1 (appendDue_iff.mpr ⟨hdue, hm, hr⟩)),
      fun l hpart hl => ?_, fun b rest l hfull hfree hl hk => ?_, fun hfull hfree => ?_⟩
    · obtain ⟨htkq, hstop, haxes, htks⟩ := endEvent_appendWork h (by rw [hap]; exact Tks.append_mark _ hrec (.inl hpart))
      have hk : s.tks.dir[i].length ≠ 0 := fun h0 => hpart (by rw [h0, Nat.zero_mod])
      rw [hap, Tks.append_part _ hrec hpart, statsAfter_add hk, hl] at htks
      refine ⟨htkq, hstop, haxes, htks.trans (by rw [htks]), fun j a ha => ?_, fun a ha => ?_⟩
      · rw [htks]
        exact readWord_sample ha
      · rw [htks]
        refine readByte_writeWords_other ?_
        rwa [wordAt, List.length_map, List.length_map]
    · obtain ⟨htkq, hstop, haxes, htks⟩ := endEvent_appendWork h (by
        rw [hap]
        exact Tks.append_mark _ hrec (.inr (by rw [hfree]; exact List.cons_ne_nil b rest)))
      rw [hap, Tks.append_full _ hrec hfull hfree, statsAfter_add hk, hl] at htks
      refine ⟨htkq, hstop, haxes, htks.trans ?_, fun x => ?_, fun j a ha => ?_, fun a ha hb => ?_, fun a ha => ?_⟩
      · rw [htks, if_neg hk]
      · rw [htks]
        exact look_put l b x
      · rw [htks]
        have hword := readWord_sample (mem := zeroBlock s.tks.mem b) (b := b) (place := 0) (value := s.sampleNow) ha
        rwa [Nat.zero_add] at hword
      · rw [htks]
        show readByte (writeWords _ _ _ _) a = 0
        rw [readByte_writeWords_other, readByte_zeroBlock, if_pos (by omega)]
        simp only [wordAt, List.length_map]
        omega
      · rw [htks]
        show readByte (writeWords _ _ _ _) a = _
        rw [readByte_writeWords_other, readByte_zeroBlock, if_neg (by omega)]
        simp only [wordAt, List.length_map]
        omega
    · have hease := hend (appendWork s) rfl
      have hfullStore : s.appended = (s.tks.setEntry i { s.tks.dir[i] with state := .truncated }, true) := by
        rw [hap]
        exact Tks.append_storeFull _ hrec hfull hfree
      refine ⟨hease.tkq.trans (appendWork_tkq.trans (by rw [hfullStore]; rfl)), hease.stop,
        hease.tks.trans (appendWork_tks.trans (by rw [hfullStore]; rfl)), endEvent_flag ?_⟩
      refine setTake_takeChange ?_
      show (if s.appended.2 then _ else _ : Tkq).state ≠ s.tkq.state
      rw [hfullStore, hr]
      exact nofun

end

section
/-! PROOFS. Calibrations: the start of a seek (R105, R107) and its end (R108, R109, R111): O48, O53. -/

namespace Sys2Proof.Machine

/-! ## The end of a seek (R111) -/

section
variable {c : AxisCfg} {pos : Option Int} {l : Lens} {a : AxisState}

theorem seeking_iff : a.seeking = true ↔ a.lens.cal.state = .seekLow ∨ a.lens.cal.state = .seekHigh := by
  simp only [AxisState.seeking, Bool.or_eq_true, decide_eq_true_eq]

theorem endDirection_turns (h : l.cal.state = .seekLow) : l.endDirection c false pos
    = { l with stall := 0, blocked := 0, cal := { l.cal with low := pos, state := .seekHigh, seekStart := pos } } := by
  simp only [Lens.endDirection, h, Bool.false_eq_true, if_false, Cal.turn]

/-- A low seek that ends where the high end is active too has a span of 0, which is too short (R111). -/
theorem endDirection_squeezed (h : l.cal.state = .seekLow) (hmin : 0 < c.minSpan) : l.endDirection c true pos
    = { l with
        stall := 0, blocked := 0
        cal := { l.cal with
          low := pos, high := pos, span := pos.map fun _ => 0, state := .calFault, reason := some .spanShort,
          seekStart := pos } } := by
  cases pos with
  | none => simp only [Lens.endDirection, h, if_true, Cal.turn, Cal.finish, judgeSpan, Option.map_none]
  | some x =>
    have hspan : (0 : Int) < c.minSpan := Int.natCast_pos.mpr hmin
    simp only [Lens.endDirection, h, if_true, Cal.turn, Cal.finish, judgeSpan, Option.map_some, Int.sub_self, if_pos hspan]

theorem endDirection_finishes {highActive : Bool} {low high : Int} (h : l.cal.state = .seekHigh) (hlow : l.cal.low = some low) :
    l.endDirection c highActive (some high) = { l with cal := { l.cal with
      high := some high, span := some (high - low), state := (judgeSpan c (some (high - low))).1,
      reason := (judgeSpan c (some (high - low))).2 } } := by
  simp only [Lens.endDirection, h, Cal.finish, hlow]

theorem judgeSpan_short {span : Int} (h : span < c.minSpan) : judgeSpan c (some span) = (.calFault, some .spanShort) :=
  if_pos h

theorem judgeSpan_long {span : Int} (h : c.minSpan ≤ span) (h' : (c.maxSpan : Int) < span) :
    judgeSpan c (some span) = (.calFault, some .spanLong) := by
  rw [judgeSpan, if_neg (Int.not_lt.mpr h), if_pos h']

theorem judgeSpan_fits {span : Int} (h : c.minSpan ≤ span) (h' : span ≤ c.maxSpan) :
    judgeSpan c (some span) = (.calibrated, none) := by
  rw [judgeSpan, if_neg (Int.not_lt.mpr h), if_neg (Int.not_lt.mpr h')]

theorem judgeSpan_done (span : Option Int) : (judgeSpan c span).1.done = true := by
  unfold judgeSpan
  split
  · rfl
  · split_ifs <;> rfl

/-- A calibration that has ended is no seek. -/
theorem seeking_of_done (h : a.lens.cal.state.done = true) : a.seeking = false := by
  simp only [CalState.done, Bool.or_eq_true, decide_eq_true_eq] at h
  rcases h with h | h <;> simp only [AxisState.seeking, h] <;> rfl

/-- The end of a calibration makes the next computation start from the measured position (R80). -/
theorem withLens_reseeds (hseek : a.seeking = true) (hdone : l.cal.state.done = true) : (a.withLens l).mpr.reseed = true := by
  have hnew : ({ a with lens := l } : AxisState).seeking = false := seeking_of_done hdone
  simp only [AxisState.withLens, hseek, hnew, Bool.not_false, Bool.and_self, Bool.or_true]

end

section
variable {s : State} {i j : AxisNo}

theorem endDirection_axis (i : AxisNo) (s : State) : (endDirection i s).axes[i] = s.axes[i].withLens
    (s.axes[i].lens.endDirection s.cfg.axes[i] (s.limitActive i true) s.axes[i].link.measured) := by
  simp only [endDirection, getElem_set_fin, if_true]

theorem endDirection_axis_other (h : j ≠ i) : (endDirection i s).axes[j] = s.axes[j] := by
  simp only [endDirection, getElem_set_fin, if_neg (Ne.symm h)]

theorem endDirection_moves (i : AxisNo) (s : State) : MovesAxes s (endDirection i s) := by
  refine ⟨rfl, rfl, rfl, rfl, rfl, rfl, Iff.rfl, rfl, fun _ _ => rfl, fun j => ?_⟩
  by_cases h : j = i
  · obtain rfl := h
    rw [endDirection_axis]
    rfl
  · rw [endDirection_axis_other h]

/-- The end of a calibration sets CAL-DONE (R111). -/
theorem endDirection_flag (hseek : s.axes[i].seeking = true)
    (hdone : (s.axes[i].lens.endDirection s.cfg.axes[i] (s.limitActive i true) s.axes[i].link.measured).cal.state.done = true) :
    (endDirection i s).svp.flags.getLsbD flagCalDone = true :=
  Svp.raiseIf_set (Bool.and_eq_true_iff.mpr ⟨hseek, hdone⟩) (by decide) s.svp

theorem failSeek_axis {reason : CalReason} (h : s.axes[i].seeking = true) : (failSeek i reason s).axes[i]
    = s.axes[i].withLens { s.axes[i].lens with
        cal := { s.axes[i].lens.cal with state := .calFault, reason := some reason } } := by
  simp only [failSeek, getElem_set_fin, if_true, h]

theorem failSeek_axis_other {reason : CalReason} (h : j ≠ i) : (failSeek i reason s).axes[j] = s.axes[j] := by
  simp only [failSeek, getElem_set_fin, if_neg (Ne.symm h)]

theorem failSeek_flag {reason : CalReason} (h : s.axes[i].seeking = true) :
    (failSeek i reason s).svp.flags.getLsbD flagCalDone = true := Svp.raiseIf_set h (by decide) s.svp

theorem failSeek_moves {reason : CalReason} (h : s.axes[i].seeking = true) : MovesAxes s (failSeek i reason s) := by
  refine ⟨rfl, rfl, rfl, rfl, rfl, rfl, Iff.rfl, rfl, fun _ _ => rfl, fun j => ?_⟩
  by_cases hj : j = i
  · obtain rfl := hj
    rw [failSeek_axis h]
    rfl
  · rw [failSeek_axis_other hj]

/-! ## The start of a seek (R107) -/

/-- An axis whose low seek has begun, before the end inputs are read. -/
def AxisState.seekBegun (a : AxisState) : AxisState :=
  { a with lens := a.lens.seekFrom a.link.measured, dsl := { a.dsl with held := none } }

theorem modAxis_axis (f : AxisState → AxisState) (i : AxisNo) (s : State) : (s.modAxis i f).axes[i] = f s.axes[i] := by
  simp only [State.modAxis, getElem_set_fin, if_true]

theorem modAxis_axis_other {f : AxisState → AxisState} (h : j ≠ i) : (s.modAxis i f).axes[j] = s.axes[j] := by
  simp only [State.modAxis, getElem_set_fin, if_neg (Ne.symm h)]

theorem startSeek_begins (h : s.limitActive i false = false) : startSeek i s = s.modAxis i AxisState.seekBegun := by
  simp only [startSeek, h, Bool.false_eq_true, if_false]
  rfl

theorem startSeek_turns (h : s.limitActive i false = true) :
    startSeek i s = endDirection i (s.modAxis i AxisState.seekBegun) := by
  simp only [startSeek, h, if_true]
  rfl

theorem seekBegun_moves (i : AxisNo) (s : State) : MovesAxes s (s.modAxis i AxisState.seekBegun) := by
  refine ⟨rfl, rfl, rfl, rfl, rfl, rfl, Iff.rfl, rfl, fun _ _ => rfl, fun j => ?_⟩
  by_cases hj : j = i
  · obtain rfl := hj
    rw [modAxis_axis]
    rfl
  · rw [modAxis_axis_other hj]

end

/-! ## The CALIBRATE cue (R105) -/

section
variable {m : CueMsg} {s : State} {i : AxisNo}

theorem dispatchCue_calibrate (s : State) (h : m.kind = .calibrate) : dispatchCue m s = calibrateCue m s := by
  simp only [dispatchCue, h]

/-- A fold over the axes that acts on one of them. -/
theorem foldl_allAxes_single {α : Type} (i : AxisNo) (f : AxisNo → α → α) (x : α) :
    allAxes.foldl (fun t j => if decide (j = i) then f j t else t) x = f i x := by
  fin_cases i <;> rfl

theorem calibrateCue_single (h : ∀ j : AxisNo, names m.parameter j.val = decide (j = i)) :
    calibrateCue m s = calibrateAxis i s := by
  simp only [calibrateCue, h]
  exact foldl_allAxes_single i calibrateAxis s

theorem calibrateAxis_starts (hk : s.cfg.axes[i].kind = .lens) (hrun : s.stop.state = .run) (hc : s.claims i = false)
    (hseek : s.axes[i].seeking = false) : calibrateAxis i s = startSeek i s := by
  simp only [calibrateAxis, (isLens_iff s i).mpr hk, hrun, hc, hseek, decide_true, Bool.not_false, Bool.and_self, if_true]

theorem calibrateAxis_counts
    (h : s.cfg.axes[i].kind ≠ .lens ∨ s.stop.state ≠ .run ∨ s.claims i = true ∨ s.axes[i].seeking = true) :
    calibrateAxis i s = { s with calIgnored := satInc s.calIgnored } := by
  refine if_neg fun hall => ?_
  simp only [Bool.and_eq_true, isLens_iff, decide_eq_true_eq, Bool.not_eq_true'] at hall
  obtain ⟨⟨⟨hk, hrun⟩, hc⟩, hseek⟩ := hall
  rcases h with h | h | h | h
  · exact h hk
  · exact h hrun
  · exact Bool.false_ne_true (hc.symm.trans h)
  · exact Bool.false_ne_true (hseek.symm.trans h)

end

/-! ## The events that end a seek (R108, R109) -/

section
variable {s : State} {i : AxisNo}

theorem stallDue_iff : (s.axes[i].seeking && decide (s.axes[i].lens.stall = 20)) = true
    ↔ s.axes[i].seeking = true ∧ s.axes[i].lens.stall = 20 := by
  rw [Bool.and_eq_true, decide_eq_true_eq]

/-- A station whose line k has taken its qualified edge (R39). -/
def State.edgeTaken (s : State) (k : LineNo) : State :=
  { s with lines := s.lines.set k (s.lines[k].qualify s.cfg.lines[k]) }

theorem exec_limitEdge {k : LineNo} {highEnd : Bool} (h : s.calm) (hf : s.cfg.lines[k].function = .limit i highEnd)
    (hdue : s.lines[k].hold = s.cfg.lines[k].qualTime + 1) (hraw : s.lines[k].raw = s.cfg.lines[k].activeHigh) :
    exec (.qualifiedEdge k) s = .next (endEvent (limitEdge i highEnd (s.edgeTaken k))) := by
  have hd : s.edgeDue k = true := by
    simp only [State.edgeDue, hf, hdue, Bool.and_eq_true, decide_eq_true_eq, and_true]
    exact nofun
  refine congrArg Host.Outcome.next ((eventIf_due h.1 hd).trans (congrArg endEvent ?_))
  simp only [qualifiedEdgeWork, lineActs, hf, hraw, decide_true, if_true]
  rfl

theorem limitEdge_ends {highEnd : Bool} (h : endInput s.axes[i].lens.cal.state highEnd = true) :
    limitEdge i highEnd s = endDirection i s := if_pos h

theorem limitEdge_stops {highEnd : Bool} (h : endInput s.axes[i].lens.cal.state highEnd = false) :
    limitEdge i highEnd s = giveCause .limit .cut s := if_neg (by rw [h]; exact Bool.false_ne_true)

/-- The edge of one end's line is no edge of the other's. -/
theorem edgeTaken_limitActive {k : LineNo} {highEnd : Bool} (hf : s.cfg.lines[k].function = .limit i highEnd) :
    (s.edgeTaken k).limitActive i (!highEnd) = s.limitActive i (!highEnd) := by
  refine congrArg allSixteen.any (funext fun j => ?_)
  by_cases hj : j = k
  · obtain rfl := hj
    have hother : s.cfg.lines[j].function ≠ .limit i (!highEnd) := by
      rw [hf]
      cases highEnd <;> exact nofun
    have hno : decide (s.cfg.lines[j].function = .limit i (!highEnd)) = false := decide_eq_false hother
    show (decide (s.cfg.lines[j].function = .limit i (!highEnd)) && _) = (_ && _)
    rw [hno, Bool.false_and, Bool.false_and]
  · have hkept : (s.edgeTaken k).lineActive j = s.lineActive j := by
      simp only [State.edgeTaken, State.lineActive, getElem_set_fin, if_neg (Ne.symm hj)]
    exact congrArg (decide (s.cfg.lines[j].function = .limit i (!highEnd)) && ·) hkept

end
end Sys2Proof.Machine

open Sys2Proof Sys2Proof.Machine

/-- Settles O48: the start of a seek moves one axis alone, which the end of the event gives to CAL while it seeks. -/
theorem calibrateSeeksOrCounts : Obligations.CalibrateSeeksOrCounts := by
  intro c w m s i h hk hname
  obtain ⟨v, hv⟩ : ∃ v, v = s.heardCue w m := ⟨_, rfl⟩
  have hcalm : v.calm := hv ▸ heardCue_calm w m h.1.1
  have hvcfg : v.cfg = s.cfg := hv ▸ rfl
  have hvaxes : v.axes = s.axes := hv ▸ rfl
  have hvstop : v.stop = s.stop := hv ▸ rfl
  have hvtkq : v.tkq = s.tkq := hv ▸ rfl
  have hvcount : v.calIgnored = s.calIgnored := hv ▸ rfl
  have hclaims : v.claims i = s.claims i := by rw [hv]; rfl
  have hlimit (e : Bool) : v.limitActive i e = s.limitActive i e := by rw [hv]; rfl
  have hexec := exec_hearsCue h
  rw [dispatchCue_calibrate _ hk, calibrateCue_single hname, ← hv] at hexec
  have hbegun : (v.modAxis i AxisState.seekBegun).axes[i] = s.axes[i].seekBegun := by rw [modAxis_axis, hvaxes]
  have hmoves := seekBegun_moves i v
  refine ⟨fun hlens hrun hc hseek hlow => ?_, fun hlens hrun hc hseek hlow => ?_, fun hno => ?_⟩
  · rw [calibrateAxis_starts (hvcfg ▸ hlens) (hvstop ▸ hrun) (hclaims.trans hc) (by rw [hvaxes]; exact hseek),
      startSeek_begins ((hlimit false).trans hlow)] at hexec
    have hease := hmoves.eases hcalm
    have haxis := (hease.axis i).trans (congrArg AxisState.still hbegun)
    refine ⟨_, hexec, ?_, congrArg (·.dsl.held) haxis, (congrArg (·.calIgnored) hease.quiet).trans hvcount,
      congrArg (·.lens) haxis, fun j hj => ?_, hease.stop.trans hvstop, hease.tkq.trans hvtkq⟩
    · refine (hmoves.owner hcalm i).trans (ownerOf_cal (hvstop ▸ hrun) ((used_iff _ i).mpr ?_) ?_)
      · show v.cfg.axes[i].kind ≠ .unused
        rw [hvcfg, hlens]
        exact nofun
      · rw [hbegun]
        rfl
    · exact (hmoves.axis_kept hcalm (modAxis_axis_other hj)).trans (by rw [hvaxes])
  · rw [calibrateAxis_starts (hvcfg ▸ hlens) (hvstop ▸ hrun) (hclaims.trans hc) (by rw [hvaxes]; exact hseek),
      startSeek_turns ((hlimit false).trans hlow)] at hexec
    have hall := hmoves.trans (endDirection_moves i (v.modAxis i AxisState.seekBegun))
    have hease := hall.eases hcalm
    have hdirection : (endDirection i (v.modAxis i AxisState.seekBegun)).axes[i] = s.axes[i].seekBegun.withLens
        (s.axes[i].seekBegun.lens.endDirection s.cfg.axes[i] (s.limitActive i true) s.axes[i].link.measured) := by
      rw [endDirection_axis, hbegun, show (v.modAxis i AxisState.seekBegun).limitActive i true = _ from hlimit true,
        show (v.modAxis i AxisState.seekBegun).cfg = _ from hvcfg]
      rfl
    have haxis := (hease.axis i).trans (congrArg AxisState.still hdirection)
    refine ⟨_, hexec, congrArg (·.dsl.held) haxis, (congrArg (·.calIgnored) hease.quiet).trans hvcount,
      fun hhigh => ⟨?_, ?_⟩, fun hhigh hmin => ⟨?_, ?_, endEvent_flag (endDirection_flag ?_ ?_)⟩, fun j hj => ?_,
      hease.stop.trans hvstop, hease.tkq.trans hvtkq⟩
    · refine (hall.owner hcalm i).trans (ownerOf_cal (hvstop ▸ hrun) ((used_iff _ i).mpr ?_) ?_)
      · show v.cfg.axes[i].kind ≠ .unused
        rw [hvcfg, hlens]
        exact nofun
      · rw [hdirection, hhigh, endDirection_turns rfl]
        rfl
    · refine (congrArg (·.lens.cal) haxis).trans ?_
      rw [hhigh, endDirection_turns rfl]
      rfl
    · refine (congrArg (·.lens.cal) haxis).trans ?_
      rw [hhigh, endDirection_squeezed rfl hmin]
      rfl
    · refine (congrArg (·.mpr.reseed) haxis).trans ?_
      rw [hhigh, endDirection_squeezed rfl hmin]
      exact withLens_reseeds rfl rfl
    · rw [hbegun]
      rfl
    · rw [hbegun, show (v.modAxis i AxisState.seekBegun).limitActive i true = _ from hlimit true, hhigh,
        show (v.modAxis i AxisState.seekBegun).cfg = _ from hvcfg, endDirection_squeezed rfl hmin]
      rfl
    · refine (hall.axis_kept hcalm ?_).trans (by rw [hvaxes])
      rw [endDirection_axis_other hj, modAxis_axis_other hj]
  · refine exec_ignored h ((dispatchCue_calibrate _ hk).trans ((calibrateCue_single hname).trans
      (calibrateAxis_counts (s := s.heardCue w m) hno))) (calm_of_same (s := s.heardCue w m) rfl rfl rfl rfl
        (heardCue_calm w m h.1.1))


/-- Settles O53: a stall and an end input both come down to the end of the present direction, with at most a line's level
changed before it. -/
theorem seeksEnd : Obligations.SeeksEnd := by
  intro i c s r x h hr hx edge hedge
  subst hr hx
  refine ⟨fun hcause => ?_, fun hblocked hseek => ?_, fun he hlow => ?_, fun hno => ?_, fun hno => ?_⟩
  · have hends (hseek : s.axes[i].seeking = true) : ∃ v : State, exec c s = .next (endEvent (endDirection i v))
        ∧ (v = s ∨ s.noOwnGates ∧ ∃ k, v = s.edgeTaken k)
        ∧ (s.axes[i].lens.cal.state = .seekLow → v.limitActive i true = s.limitActive i true) := by
      rcases hcause with ⟨rfl, hstall⟩ | he | ⟨hhigh, he⟩
      · exact ⟨s, congrArg Host.Outcome.next (eventIf_due h.1 (stallDue_iff.mpr ⟨hseek, hstall⟩)), .inl rfl, fun _ => rfl⟩
      · obtain ⟨hgates, k, rfl, hf, hdue, hraw⟩ := (hedge _).mp he
        refine ⟨s.edgeTaken k, (exec_limitEdge h hf hdue hraw).trans ?_, .inr ⟨hgates, k, rfl⟩, fun hlow => ?_⟩
        · rw [limitEdge_ends]
          rcases seeking_iff.mp hseek with hs | hs <;> simp only [State.edgeTaken, hs] <;> rfl
        · have := edgeTaken_limitActive hf
          rw [hlow] at this
          exact this
      · obtain ⟨hgates, k, rfl, hf, hdue, hraw⟩ := (hedge _).mp he
        refine ⟨s.edgeTaken k, (exec_limitEdge h hf hdue hraw).trans ?_, .inr ⟨hgates, k, rfl⟩, fun hlow => ?_⟩
        · rw [limitEdge_ends]
          simp only [State.edgeTaken, hhigh]
          rfl
        · exact absurd (hlow.symm.trans hhigh) nofun
    have hease (v : State) (hv : v = s ∨ s.noOwnGates ∧ ∃ k, v = s.edgeTaken k) :
        Eases (endDirection i v) (endEvent (endDirection i v)) ∧ v.axes = s.axes ∧ v.stop = s.stop ∧ v.cfg = s.cfg
          ∧ v.tkq = s.tkq ∧ v.operating = true := by
      rcases hv with rfl | ⟨hgates, k, rfl⟩
      · exact ⟨(endDirection_moves i v).eases h, rfl, rfl, rfl, rfl, h.1⟩
      · exact ⟨endEvent_eases (.inr hgates), rfl, rfl, rfl, rfl, h.1⟩
    refine ⟨fun hlow hhigh => ?_, fun hlow hhigh hmin => ?_, fun low high hs hl hx => ?_⟩
    · have hseek : s.axes[i].seeking = true := seeking_iff.mpr (.inl hlow)
      obtain ⟨v, hexec, hv, hlimit⟩ := hends hseek
      obtain ⟨he, hvaxes, hvstop, hvcfg, hvtkq, hvop⟩ := hease v hv
      have haxis := endDirection_axis i v
      rw [hvaxes, hlimit hlow, hhigh, endDirection_turns hlow] at haxis
      have hseek' : (endDirection i v).axes[i].seeking = true := by
        rw [haxis]
        exact seeking_iff.mpr (.inr rfl)
      refine ⟨_, hexec, he.stop.trans hvstop, ?_,
        (congrArg (·.lens) ((he.axis i).trans (congrArg AxisState.still haxis)))⟩
      refine ((endEvent_formed _).2.1 ((operating_of_quiet he.quiet).trans hvop) i).trans (Eq.trans ?_ (h.2.2.1 h.1 i).symm)
      exact ownerOf_of_sources ((cfg_of_quiet he.quiet).trans hvcfg) (by rw [he.stop]; exact hvstop ▸ Iff.rfl)
        (he.tkq.trans hvtkq) ((he.seeking i).trans (hseek'.trans hseek.symm))
    · have hseek : s.axes[i].seeking = true := seeking_iff.mpr (.inl hlow)
      obtain ⟨v, hexec, hv, hlimit⟩ := hends hseek
      obtain ⟨he, hvaxes, hvstop, hvcfg, -, -⟩ := hease v hv
      have hsame : v.axes[i].lens.endDirection v.cfg.axes[i] (v.limitActive i true) v.axes[i].link.measured
          = s.axes[i].lens.endDirection s.cfg.axes[i] true s.axes[i].link.measured := by
        rw [hvaxes, hvcfg, hlimit hlow, hhigh]
      have hlens := hsame.trans (endDirection_squeezed hlow hmin)
      have haxis := endDirection_axis i v
      rw [hlens, hvaxes] at haxis
      have hstill := (he.axis i).trans (congrArg AxisState.still haxis)
      refine ⟨_, hexec, he.stop.trans hvstop, endEvent_flag (endDirection_flag (by rw [hvaxes]; exact hseek) (by rw [hlens]; rfl)),
        (congrArg (·.mpr.reseed) hstill).trans (withLens_reseeds hseek rfl), congrArg (·.lens) hstill⟩
    · have hseek : s.axes[i].seeking = true := seeking_iff.mpr (.inr hs)
      obtain ⟨v, hexec, hv, -⟩ := hends hseek
      obtain ⟨he, hvaxes, hvstop, hvcfg, -, -⟩ := hease v hv
      have hsame : v.axes[i].lens.endDirection v.cfg.axes[i] (v.limitActive i true) v.axes[i].link.measured
          = s.axes[i].lens.endDirection s.cfg.axes[i] (v.limitActive i true) (some high) := by
        rw [hvaxes, hvcfg, hx]
      have hlens := hsame.trans (endDirection_finishes hs hl)
      have haxis := endDirection_axis i v
      rw [hlens, hvaxes] at haxis
      have hstill := (he.axis i).trans (congrArg AxisState.still haxis)
      have hcal : (endEvent (endDirection i v)).axes[i].lens.cal = { s.axes[i].lens.cal with
          high := some high, span := some (high - low), state := (judgeSpan s.cfg.axes[i] (some (high - low))).1,
          reason := (judgeSpan s.cfg.axes[i] (some (high - low))).2 } := congrArg (·.lens.cal) hstill
      have hrest : (endEvent (endDirection i v)).axes[i].lens
          = { s.axes[i].lens with cal := (endEvent (endDirection i v)).axes[i].lens.cal } := by
        rw [hcal]
        exact congrArg (·.lens) hstill
      have hdone := judgeSpan_done (c := s.cfg.axes[i]) (some (high - low))
      refine ⟨_, hexec, he.stop.trans hvstop, endEvent_flag (endDirection_flag (by rw [hvaxes]; exact hseek) (by
          rw [hlens]; exact hdone)), (congrArg (·.mpr.reseed) hstill).trans (withLens_reseeds hseek hdone),
        hrest, hcal.trans ?_, fun hshort => ?_, fun hmin hlong => ?_, fun hmin hmax => ?_⟩
      · rw [hcal]
      · rw [hcal]
        exact ⟨congrArg Prod.fst (judgeSpan_short hshort), congrArg Prod.snd (judgeSpan_short hshort)⟩
      · rw [hcal]
        exact ⟨congrArg Prod.fst (judgeSpan_long hmin hlong), congrArg Prod.snd (judgeSpan_long hmin hlong)⟩
      · rw [hcal]
        exact ⟨congrArg Prod.fst (judgeSpan_fits hmin hmax), congrArg Prod.snd (judgeSpan_fits hmin hmax)⟩
  · have hseek' : s.axes[i].seeking = true := seeking_iff.mpr hseek
    have hmoves := failSeek_moves (reason := .blocked) hseek'
    have hease := hmoves.eases h
    have haxis := (hease.axis i).trans (congrArg AxisState.still (failSeek_axis hseek'))
    refine ⟨_, congrArg Host.Outcome.next (eventIf_due h.1 (Bool.and_eq_true_iff.mpr ⟨hseek', decide_eq_true hblocked⟩)),
      hease.stop, endEvent_flag (failSeek_flag hseek'), (congrArg (·.mpr.reseed) haxis).trans ?_,
      congrArg (·.lens.cal) haxis⟩
    exact withLens_reseeds hseek' rfl
  · obtain ⟨hgates, k, rfl, hf, hdue, hraw⟩ := (hedge _).mp he
    have hexec := exec_limitEdge h hf hdue hraw
    rw [limitEdge_stops (by rw [State.edgeTaken, hlow]; rfl)] at hexec
    obtain ⟨hmark, hhalt, -⟩ := endEvent_stoppedBy (takeCause_stoppedBy s.cfg.own .limit .cut (s.edgeTaken k))
    exact ⟨_, hexec, hmark, (endEvent_takeCause_cut true s.cfg.own .limit (s.edgeTaken k)).1, hhalt.1, hhalt.2⟩
  · refine congrArg Host.Outcome.next (eventIf_notDue (Bool.eq_false_iff.mpr fun hdue => ?_))
    obtain ⟨hseek, hstall⟩ := stallDue_iff.mp hdue
    exact hno.elim (fun h => Bool.false_ne_true (h.symm.trans hseek)) fun h => h hstall
  · refine congrArg Host.Outcome.next (eventIf_notDue (Bool.eq_false_iff.mpr fun hdue => ?_))
    obtain ⟨hseek, hblocked⟩ := Bool.and_eq_true_iff.mp hdue
    exact hno.elim (fun h => Bool.false_ne_true (h.symm.trans hseek)) fun h => h (of_decide_eq_true hblocked)

end

section
/-! PROOFS. Brakes, the drive-on boundary and the releases (R136 to R140, R144): O54. -/

namespace Sys2Proof.Machine

/-! ## The automatic seeks (R106) -/

section
variable {s : State} {i j : AxisNo}

/-- An axis whose seek has started, with its LIMIT lines as they are (R107). -/
def AxisState.sought (c : AxisCfg) (lowActive highActive : Bool) (a : AxisState) : AxisState :=
  if lowActive then a.seekBegun.withLens (a.seekBegun.lens.endDirection c highActive a.link.measured) else a.seekBegun

theorem startSeek_axis (i : AxisNo) (s : State) : (startSeek i s).axes[i]
    = s.axes[i].sought s.cfg.axes[i] (s.limitActive i false) (s.limitActive i true) := by
  cases h : s.limitActive i false
  · rw [startSeek_begins h, modAxis_axis]
    rfl
  · rw [startSeek_turns h, endDirection_axis, modAxis_axis]
    rfl

theorem startSeek_axis_other (h : j ≠ i) : (startSeek i s).axes[j] = s.axes[j] := by
  cases hl : s.limitActive i false
  · rw [startSeek_begins hl, modAxis_axis_other h]
  · rw [startSeek_turns hl, endDirection_axis_other h, modAxis_axis_other h]

theorem startSeek_raises (i : AxisNo) (s : State) : s.Raises (startSeek i s) := by
  cases h : s.limitActive i false
  · rw [startSeek_begins h]
    exact .of_flags rfl
  · rw [startSeek_turns h]
    exact .raiseIf rfl

/-- The start of a seek moves the lens record, the held target and the mark of R80, and nothing else. -/
theorem AxisState.sought_kept (c : AxisCfg) (low high : Bool) (a : AxisState) : (a.sought c low high).drive = a.drive
    ∧ (a.sought c low high).brakeTimer = a.brakeTimer ∧ (a.sought c low high).releaseTimer = a.releaseTimer
    ∧ (a.sought c low high).dsl = { a.dsl with held := none }
    ∧ (a.sought c low high).mpr.atTarget = a.mpr.atTarget
    ∧ (a.sought c low high).lens.cal.autoPending = a.lens.cal.autoPending := by
  unfold AxisState.sought
  split
  · refine ⟨rfl, rfl, rfl, rfl, rfl, ?_⟩
    cases high <;> rfl
  · exact ⟨rfl, rfl, rfl, rfl, rfl, rfl⟩

/-- An axis after its automatic seek has started, where one was pending (R106). -/
def AxisState.autoSought (c : AxisCfg) (lowActive highActive : Bool) (a : AxisState) : AxisState :=
  if a.lens.cal.autoPending then
    ({ a with lens := { a.lens with cal := { a.lens.cal with autoPending := false } } } : AxisState).sought c lowActive highActive
  else a

theorem AxisState.autoSought_kept (c : AxisCfg) (low high : Bool) (a : AxisState) :
    (a.autoSought c low high).drive = a.drive ∧ (a.autoSought c low high).releaseTimer = a.releaseTimer
    ∧ (a.autoSought c low high).dsl = { a.dsl with held := (a.autoSought c low high).dsl.held }
    ∧ (a.autoSought c low high).mpr.atTarget = a.mpr.atTarget := by
  unfold AxisState.autoSought
  split
  · obtain ⟨hdrive, -, htimer, hdsl, htarget, -⟩ := AxisState.sought_kept c low high
      ({ a with lens := { a.lens with cal := { a.lens.cal with autoPending := false } } } : AxisState)
    exact ⟨hdrive, htimer, hdsl.trans (by rw [hdsl]), htarget⟩
  · exact ⟨rfl, rfl, rfl, rfl⟩

/-- One axis's part of the automatic seeks. -/
def State.autoSeekStep (s t : State) (i : AxisNo) : State :=
  if s.axes[i].lens.cal.autoPending then
    startSeek i (t.modAxis i fun a => { a with lens := { a.lens with cal := { a.lens.cal with autoPending := false } } })
  else t

theorem startAutoSeeks_eq (s : State) : startAutoSeeks s = allAxes.foldl s.autoSeekStep s := rfl

theorem autoSeekStep_frame (s t : State) (i : AxisNo) (axes : Vector AxisState 4) (svp : Svp) :
    { s.autoSeekStep t i with axes := axes, svp := svp } = { t with axes := axes, svp := svp } := by
  unfold State.autoSeekStep
  split <;> rfl

/-- The automatic seeks move axes and raise flags, and nothing else. -/
theorem startAutoSeeks_frame (s : State) (axes : Vector AxisState 4) (svp : Svp) :
    { startAutoSeeks s with axes := axes, svp := svp } = { s with axes := axes, svp := svp } :=
  foldl_keeps (fun t : State => { t with axes := axes, svp := svp }) s.autoSeekStep
    (fun t i => autoSeekStep_frame s t i axes svp) allAxes s

theorem autoSeekStep_axis_other {t : State} (h : j ≠ i) : (s.autoSeekStep t i).axes[j] = t.axes[j] := by
  unfold State.autoSeekStep
  split
  · rw [startSeek_axis_other h, modAxis_axis_other h]
  · rfl

theorem autoSeekStep_axis {t : State} (hcfg : t.cfg = s.cfg) (hlines : t.lines = s.lines) (haxis : t.axes[i] = s.axes[i]) :
    (s.autoSeekStep t i).axes[i]
      = s.axes[i].autoSought s.cfg.axes[i] (s.limitActive i false) (s.limitActive i true) := by
  have hlimit (e : Bool) : t.limitActive i e = s.limitActive i e := by
    simp only [State.limitActive, State.lineActive, hcfg, hlines]
  unfold State.autoSeekStep AxisState.autoSought
  split
  · rw [startSeek_axis, modAxis_axis, haxis, ← hcfg, ← hlimit, ← hlimit]
    rfl
  · exact haxis

theorem foldl_autoSeekStep_axis (l : List AxisNo) (hl : l.Nodup) (t : State) (hcfg : t.cfg = s.cfg)
    (hlines : t.lines = s.lines) (haxis : ∀ i ∈ l, t.axes[i] = s.axes[i]) (j : AxisNo) :
    (l.foldl s.autoSeekStep t).axes[j] = if j ∈ l then
        s.axes[j].autoSought s.cfg.axes[j] (s.limitActive j false) (s.limitActive j true) else t.axes[j] := by
  induction l generalizing t with
  | nil => rfl
  | cons i l ih =>
    obtain ⟨hi, hl⟩ := List.nodup_cons.mp hl
    have hframe := autoSeekStep_frame s t i t.axes t.svp
    rw [List.foldl_cons, ih hl (s.autoSeekStep t i) ((congrArg (·.cfg) hframe).trans hcfg)
      ((congrArg (·.lines) hframe).trans hlines) fun k hk => by
        rw [autoSeekStep_axis_other (ne_of_mem_of_not_mem hk hi), haxis k (List.mem_cons_of_mem i hk)]]
    by_cases hj : j = i
    · obtain rfl := hj
      rw [if_neg hi, if_pos List.mem_cons_self, autoSeekStep_axis hcfg hlines (haxis j List.mem_cons_self)]
    · rw [autoSeekStep_axis_other hj]
      simp only [List.mem_cons, hj, false_or]

theorem startAutoSeeks_axis (s : State) (j : AxisNo) : (startAutoSeeks s).axes[j]
    = s.axes[j].autoSought s.cfg.axes[j] (s.limitActive j false) (s.limitActive j true) := by
  rw [startAutoSeeks_eq, foldl_autoSeekStep_axis allAxes (by decide) s rfl rfl (fun _ _ => rfl), if_pos (mem_allAxes j)]

theorem startAutoSeeks_raises (s : State) : s.Raises (startAutoSeeks s) := by
  rw [startAutoSeeks_eq]
  generalize allAxes = l
  suffices h : ∀ t, s.Raises t → s.Raises (l.foldl s.autoSeekStep t) from h s (.refl s)
  induction l with
  | nil => exact fun t h => h
  | cons i l ih =>
    refine fun t h => ih _ (h.trans ?_)
    unfold State.autoSeekStep
    split
    · refine State.Raises.trans ?_ (startSeek_raises i _)
      exact .of_flags rfl
    · exact .refl t

/-! ## The way into RUN (R144) -/

theorem enterRun_axis (s : State) (j : AxisNo) : (enterRun s).axes[j]
    = s.axes[j].autoSought s.cfg.axes[j] (s.limitActive j false) (s.limitActive j true) :=
  startAutoSeeks_axis { s with stop := { s.stop with state := .run }, svp := s.svp.raise flagStopClear } j

theorem enterRun_frame (s : State) : (enterRun s).stop = { s.stop with state := .run } ∧ (enterRun s).driveOn = s.driveOn
    ∧ (enterRun s).cfg = s.cfg ∧ (enterRun s).tkq = s.tkq ∧ (enterRun s).operating = s.operating := by
  have h := startAutoSeeks_frame { s with stop := { s.stop with state := .run }, svp := s.svp.raise flagStopClear } s.axes s.svp
  exact ⟨congrArg (·.stop) h, congrArg (·.driveOn) h, congrArg (·.cfg) h, congrArg (·.tkq) h, congrArg (·.operating) h⟩

theorem enterRun_flag (s : State) : (enterRun s).svp.flags.getLsbD flagStopClear = true :=
  startAutoSeeks_raises { s with stop := { s.stop with state := .run }, svp := s.svp.raise flagStopClear } flagStopClear
    (Svp.raise_set (by decide) s.svp)

theorem allReleased_iff : s.allReleased = true ↔ ∀ i : AxisNo, s.cfg.axes[i].kind = .unused
    ∨ s.axes[i].drive.enable = true ∧ s.axes[i].drive.released = true := by
  simp only [State.allReleased, List.all_eq_true, Bool.or_eq_true, Bool.and_eq_true, Bool.not_eq_true', State.used,
    decide_eq_false_iff_not, not_not]
  exact ⟨fun h i => h i (mem_allAxes i), fun h i _ => h i⟩

theorem judgeReleased_enters (hs : s.stop.state = .resuming) (h : s.allReleased = true) : judgeReleased s = enterRun s :=
  if_pos ⟨hs, h⟩

theorem judgeReleased_waits (h : s.stop.state ≠ .resuming ∨ s.allReleased ≠ true) : judgeReleased s = s :=
  if_neg fun ⟨hs, ha⟩ => h.elim (fun h => h hs) fun h => h ha

/-- What the judging of the releases leaves of every axis, and of the rest (R144). -/
theorem judgeReleased_kept (s : State) (j : AxisNo) : (judgeReleased s).axes[j].drive = s.axes[j].drive
    ∧ (judgeReleased s).axes[j].releaseTimer = s.axes[j].releaseTimer ∧ (judgeReleased s).driveOn = s.driveOn
    ∧ (judgeReleased s).cfg = s.cfg := by
  unfold judgeReleased
  split
  · obtain ⟨hdrive, htimer, -⟩ := AxisState.autoSought_kept s.cfg.axes[j] (s.limitActive j false) (s.limitActive j true) s.axes[j]
    obtain ⟨-, hon, hcfg, -⟩ := enterRun_frame s
    rw [enterRun_axis]
    exact ⟨hdrive, htimer, hon, hcfg⟩
  · exact ⟨rfl, rfl, rfl, rfl⟩

/-! ## The brake timer (R138, R140) -/

theorem brakeWork_axis (i : AxisNo) (s : State) :
    (brakeWork i s).axes[i] = { s.axes[i] with drive := s.axes[i].drive.off, brakeTimer := none } :=
  modAxis_axis (fun a => { a with drive := a.drive.off, brakeTimer := none }) i s

theorem brakeWork_axis_other (h : j ≠ i) : (brakeWork i s).axes[j] = s.axes[j] :=
  modAxis_axis_other (f := fun a => { a with drive := a.drive.off, brakeTimer := none }) (s := s) h

theorem Drive.off_word {d : Drive} (h : d.enable = true) : d.off.word = setpointWord false d.lastCount := if_pos h

theorem brakeWork_moves (i : AxisNo) (s : State) : MovesAxes s (brakeWork i s) where
  hold := rfl
  load := rfl
  cfg := rfl
  lines := rfl
  word := rfl
  warn := rfl
  run := by
    show (if _ then StopState.stopped else s.stop.state) = .run ↔ s.stop.state = .run
    split
    · next h => exact ⟨nofun, fun hr => absurd (h.1.symm.trans hr) nofun⟩
    · rfl
  tkq := rfl
  peers st hst := peer_of_quiet (announce_quiet _) hst
  target j := by
    by_cases h : j = i
    · obtain rfl := h
      rw [brakeWork_axis]
    · rw [brakeWork_axis_other h]

theorem sequenceComplete_iff {category : Option Category} {cfg : Settings} {axes : Vector AxisState 4} :
    sequenceComplete category cfg axes = true ↔ ∀ i : AxisNo, cfg.axes[i].kind = .unused ∨ axes[i].mpr.atRest = true
      ∧ (category = some .brake → axes[i].drive.enable = false ∧ axes[i].drive.released = false) := by
  simp only [sequenceComplete, List.all_eq_true, Bool.or_eq_true, Bool.and_eq_true, Bool.not_eq_true',
    decide_eq_true_eq, ne_eq, ← imp_iff_not_or]
  exact ⟨fun h i => h i (mem_allAxes i), fun h i _ => h i⟩

/-- The brake timer that completes the sequence of BRAKE brings STOPPED (R140). -/
theorem brakeWork_stops (hs : s.stop.state = .stopping) (h : ∀ j : AxisNo, s.cfg.axes[j].kind = .unused
    ∨ s.axes[j].mpr.atRest = true ∧ (j ≠ i → s.axes[j].drive.enable = false) ∧ s.axes[j].drive.released = false) :
    (brakeWork i s).stop.state = .stopped := by
  refine if_pos ⟨hs, sequenceComplete_iff.mpr fun j => (h j).imp_right fun ⟨hrest, hoff, hbrake⟩ => ?_⟩
  by_cases hj : j = i
  · obtain rfl := hj
    rw [modAxis_axis]
    exact ⟨hrest, fun _ => ⟨rfl, hbrake⟩⟩
  · rw [modAxis_axis_other hj]
    exact ⟨hrest, fun _ => ⟨hoff hj, hbrake⟩⟩

/-! ## The drive-on boundary (R144) -/

/-- The drives switched on at the drive-on boundary. -/
def State.drivesOn (s : State) : State := switchDrivesOn { s with driveOn := .idle }

theorem drivesOn_axis (h : s.cfg.axes[i].kind ≠ .unused) :
    s.drivesOn.axes[i] = { s.axes[i] with drive := { s.axes[i].drive with enable := true } } := by
  have hu : ({ s with driveOn := .idle } : State).used i = true := (used_iff s i).mpr h
  simp only [State.drivesOn, switchDrivesOn, State.mapAxes, getElem_ofFn_fin, hu, if_true]

theorem drivesOn_axis_unused (h : s.cfg.axes[i].kind = .unused) : s.drivesOn.axes[i] = s.axes[i] := by
  have hu : ({ s with driveOn := .idle } : State).used i = false := by
    rw [State.used]
    exact decide_eq_false (not_not.mpr h)
  simp only [State.drivesOn, switchDrivesOn, State.mapAxes, getElem_ofFn_fin, hu, Bool.false_eq_true, if_false]

theorem giveEncLost_none (h : ∀ i : AxisNo, s.cfg.axes[i].kind = .unused ∨ s.axes[i].link.state = .locked) :
    giveEncLost s = s := by
  refine foldl_giveCauseIf_none (fun i => ?_) .encLost .cut s
  rcases h i with h | h
  · rw [State.used, decide_eq_false (not_not.mpr h), Bool.false_and]
  · rw [Link.valid, decide_eq_true h, Bool.not_true, Bool.and_false]

theorem startReleases_axis (h : s.cfg.axes[i].kind ≠ .unused) (hr : s.axes[i].drive.released = false) :
    (startReleases s).axes[i] = if s.cfg.axes[i].brakeDelay = 0 then
        { s.axes[i] with drive := { s.axes[i].drive with released := true } }
      else { s.axes[i] with releaseTimer := some 0 } := by
  simp only [startReleases, State.mapAxes, getElem_ofFn_fin, (used_iff s i).mpr h, hr, Bool.not_false, Bool.and_self, if_true]

theorem startReleases_axis_released (hr : s.axes[i].drive.released = true) : (startReleases s).axes[i] = s.axes[i] := by
  simp only [startReleases, State.mapAxes, getElem_ofFn_fin, hr, Bool.not_true, Bool.and_false, Bool.false_eq_true, if_false]

/-- Every axis secured once a stop with CUT stands. -/
def State.cutSafe (s : State) : Prop := s.halted → s.secured = true

theorem giveCauseIf_cut_safe (b : Bool) (k : Cause) (h : s.cutSafe) : (giveCauseIf b k .cut s).cutSafe := by
  cases b with
  | false => exact h
  | true =>
    intro _
    show (takeCause true s.cfg.own k .cut s).secured = true
    by_cases hh : s.halted
    · exact takeCause_axes_secured true s.cfg.own k .cut s (h hh)
    · obtain ⟨-, heq⟩ | ⟨hh', -⟩ | ⟨hh', -⟩ := takeCause_cases true s.cfg.own k .cut s
      · rw [heq]
        refine List.all_eq_true.mpr fun i _ => ?_
        rw [beginStop_axis]
        exact AxisState.cut_secured _
      · exact absurd hh' hh
      · exact absurd hh' hh

theorem foldl_giveCauseIf_cut_safe {α : Type} (b : α → Bool) (k : Cause) (xs : List α) (h : s.cutSafe) :
    (xs.foldl (fun t x => giveCauseIf (b x) k .cut t) s).cutSafe := by
  induction xs generalizing s with
  | nil => exact h
  | cons x xs ih => exact ih (giveCauseIf_cut_safe (b x) k h)

/-- A drive that finds its link not LOCKED ends the resume with CUT (R91, R139). -/
theorem driveOnWork_lost (hs : s.stop.state = .resuming) (hu : s.cfg.axes[i].kind ≠ .unused)
    (hl : s.axes[i].link.state ≠ .locked) :
    (driveOnWork s).stoppedBy .encLost .cut ∧ (driveOnWork s).secured = true := by
  have hlost : (s.drivesOn.used i && !s.drivesOn.axes[i].link.valid) = true := by
    rw [drivesOn_axis hu, Link.valid, decide_eq_false hl]
    exact Bool.and_eq_true_iff.mpr ⟨(used_iff s i).mpr hu, rfl⟩
  have hstop : (giveEncLost s.drivesOn).stoppedBy .encLost .cut :=
    foldl_giveCauseIf_stoppedBy (b := fun i => s.drivesOn.used i && !s.drivesOn.axes[i].link.valid) (mem_allAxes i) hlost
      .encLost .cut s.drivesOn
  have hsafe : (giveEncLost s.drivesOn).cutSafe := foldl_giveCauseIf_cut_safe _ .encLost allAxes
    fun hh => absurd hs hh.2
  have hwork : driveOnWork s = giveEncLost s.drivesOn := driveOnWork_stopping hstop.2.1.2
  rw [hwork]
  exact ⟨hstop, hsafe hstop.2.1⟩

theorem driveOnWork_releases (hs : s.stop.state = .resuming)
    (h : ∀ i : AxisNo, s.cfg.axes[i].kind = .unused ∨ s.axes[i].link.state = .locked) :
    driveOnWork s = judgeReleased (startReleases s.drivesOn) := by
  have hnone : giveEncLost s.drivesOn = s.drivesOn := by
    refine giveEncLost_none fun i => (h i).imp_right fun hl => ?_
    by_cases hu : s.cfg.axes[i].kind = .unused
    · rw [drivesOn_axis_unused hu, hl]
    · rw [drivesOn_axis hu, hl]
  refine driveOnWork_resuming ?_
  show (giveEncLost s.drivesOn).stop.state = .resuming
  rw [hnone]
  exact hs

/-- An axis whose release timer has reached the brake delay (R144). -/
def AxisState.releasedNow (a : AxisState) : AxisState :=
  { a with drive := { a.drive with released := true }, releaseTimer := none }

theorem applySequence_axis (i : AxisNo) (s : State) :
    (applySequence s).axes[i] = s.axes[i].sequence s.stop.category s.cfg.axes[i] := getElem_ofFn_fin _ i

theorem AxisState.brake_rests {c : AxisCfg} {a : AxisState}
    (h : c.kind = .unused ∨ a.mpr.atRest = false ∨ a.drive.enable = false) : a.brake c = a := by
  refine if_neg fun ⟨hk, hr, he⟩ => ?_
  rcases h with h | h | h
  · exact hk h
  · exact Bool.false_ne_true (h.symm.trans hr)
  · exact Bool.false_ne_true (h.symm.trans he)

/-- The sequence of each category on one axis (R137 to R139). -/
theorem AxisState.sequence_cases (category : Option Category) (c : AxisCfg) (a : AxisState) :
    (category = none ∨ category = some .hold → a.sequence category c = a)
      ∧ (category = some .cut → a.sequence category c =
          { a with
            drive := { a.drive with
              enable := false, released := false
              word := if a.drive.enable = true then setpointWord false a.drive.lastCount else a.drive.word }
            brakeTimer := none, releaseTimer := none })
      ∧ (category = some .brake → c.kind = .unused ∨ a.mpr.atRest = false ∨ a.drive.enable = false →
          a.sequence category c = a)
      ∧ (category = some .brake → c.kind ≠ .unused → a.mpr.atRest = true → a.drive.enable = true →
        (a.drive.released = true → c.brakeDelay ≠ 0 →
            a.sequence category c = { a with drive := { a.drive with released := false }, brakeTimer := some 0 })
        ∧ (a.drive.released = true → c.brakeDelay = 0 → a.sequence category c =
            { a with
              drive := { a.drive with enable := false, released := false, word := setpointWord false a.drive.lastCount }
              brakeTimer := none })
        ∧ (a.drive.released = false → a.brakeTimer = none → a.sequence category c =
            { a with drive := { a.drive with enable := false, word := setpointWord false a.drive.lastCount } })
        ∧ (a.drive.released = false → a.brakeTimer ≠ none → a.sequence category c = a)) := by
  refine ⟨fun hc => ?_, fun hc => ?_, fun hc h => ?_, fun hc hk hr he => ?_⟩
  · rcases hc with rfl | rfl <;> rfl
  · subst hc
    rfl
  · subst hc
    exact AxisState.brake_rests h
  · subst hc
    have hacts : a.sequence (some .brake) c = _ := if_pos ⟨hk, hr, he⟩
    rw [hacts]
    refine ⟨fun hrel hd => ?_, fun hrel hd => ?_, fun hrel ht => ?_, fun hrel ht => ?_⟩
    · rw [if_pos hrel, if_neg hd]
    · rw [if_pos hrel, if_pos hd, Drive.off, he, if_pos rfl]
    · rw [if_neg (by rw [hrel]; exact Bool.false_ne_true), if_pos ht, Drive.off, he, if_pos rfl]
    · rw [if_neg (by rw [hrel]; exact Bool.false_ne_true), if_neg ht]

/-- Each used axis once the release timers have been started (R144). -/
theorem drivesOn_released (hu : s.cfg.axes[i].kind ≠ .unused) :
    (startReleases s.drivesOn).axes[i].drive.enable = true
      ∧ (s.axes[i].drive.released = false → s.cfg.axes[i].brakeDelay ≠ 0 →
          (startReleases s.drivesOn).axes[i].releaseTimer = some 0
            ∧ (startReleases s.drivesOn).axes[i].drive.released = false)
      ∧ (s.axes[i].drive.released = true ∨ s.cfg.axes[i].brakeDelay = 0 →
          (startReleases s.drivesOn).axes[i].drive.released = true) := by
  have haxis := drivesOn_axis (s := s) hu
  cases hr : s.axes[i].drive.released with
  | true =>
    rw [startReleases_axis_released (by rw [haxis]; exact hr), haxis]
    exact ⟨rfl, nofun, fun _ => hr⟩
  | false =>
    rw [startReleases_axis (s := s.drivesOn) hu (by rw [haxis]; exact hr), haxis]
    show (if s.cfg.axes[i].brakeDelay = 0 then _ else _ : AxisState).drive.enable = true ∧ _
    by_cases hd : s.cfg.axes[i].brakeDelay = 0
    · rw [if_pos hd]
      exact ⟨rfl, fun _ h => absurd hd h, fun _ => if_pos hd ▸ rfl⟩
    · rw [if_neg hd]
      exact ⟨rfl, fun _ _ => ⟨if_neg hd ▸ rfl, if_neg hd ▸ hr⟩, fun h => h.elim nofun fun h => absurd h hd⟩

end
end Sys2Proof.Machine

open Sys2Proof Sys2Proof.Machine

/-- Settles O54: the timers and the drive-on boundary move axes alone, and with the last release the stop state becomes RUN in
the same event, before the owners are formed. -/
theorem brakesAndReleasesFinish : Obligations.BrakesAndReleasesFinish := by
  intro s h hgates
  have hend (u : State) (hu : u.cfg = s.cfg) : Eases u (endEvent u) :=
    endEvent_eases (.inr ((noOwnGates_congr hu).mpr hgates))
  refine ⟨fun i htimer => ?_, fun hdue hs hlocked => ?_, fun i hdue hs hu hlost => ?_, fun i htimer => ?_⟩
  · have hmoves := brakeWork_moves i s
    have hease := hend (brakeWork i s) rfl
    have haxis := (hease.axis i).trans (congrArg AxisState.still (brakeWork_axis i s))
    refine ⟨_, congrArg Host.Outcome.next (eventIf_due h.1 (decide_eq_true htimer)), congrArg (·.brakeTimer) haxis,
      congrArg (·.drive.enable) haxis, fun hon => (congrArg (·.drive.word) haxis).trans (Drive.off_word hon),
      fun j hj => hmoves.axis_kept h (brakeWork_axis_other hj), fun hs hc hall => ?_⟩
    rw [hease.stop]
    exact brakeWork_stops hs hall
  · have hexec : exec .driveOnBoundary s = .next (endEvent (driveOnWork s)) :=
      congrArg Host.Outcome.next (eventIf_due h.1 (decide_eq_true hdue))
    rw [driveOnWork_releases hs hlocked] at hexec
    obtain ⟨w, hw⟩ : ∃ w, w = startReleases s.drivesOn := ⟨_, rfl⟩
    rw [← hw] at hexec
    have hws : w.stop.state = .resuming := by rw [hw]; exact hs
    have hwcfg : w.cfg = s.cfg := hw ▸ rfl
    have hease := hend (judgeReleased w) ((judgeReleased_kept w 0).2.2.2.trans hwcfg)
    refine ⟨_, hexec, hease.driveOn.trans ((judgeReleased_kept w 0).2.2.1.trans (hw ▸ rfl)), fun i hu => ?_, fun hall => ?_⟩
    · obtain ⟨hon, hwait, hrel⟩ := drivesOn_released hu
      rw [← hw] at hon hwait hrel
      obtain ⟨hdrive, htimer, -⟩ := judgeReleased_kept w i
      have hdrive' : (endEvent (judgeReleased w)).axes[i].drive = w.axes[i].drive :=
        (congrArg (·.drive) (hease.axis i)).trans hdrive
      rw [hdrive']
      refine ⟨hon, fun hr hd => ?_, hrel⟩
      obtain ⟨hstart, hbrake⟩ := hwait hr hd
      refine ⟨(congrArg (·.releaseTimer) (hease.axis i)).trans (htimer.trans hstart), hbrake, ?_⟩
      rw [hease.stop, judgeReleased_waits (.inr fun hall => ?_), hws]
      refine (allReleased_iff.mp hall i).elim (fun hno => hu (hwcfg ▸ hno)) fun ⟨_, hyes⟩ => ?_
      exact Bool.false_ne_true (hbrake.symm.trans hyes)
    · have hall' : w.allReleased = true := allReleased_iff.mpr fun i => by
        rw [hwcfg]
        by_cases hu : s.cfg.axes[i].kind = .unused
        · exact .inl hu
        · obtain ⟨hon, -, hrel⟩ := drivesOn_released hu
          exact .inr (hw ▸ ⟨hon, hrel (.inl ((hall i).resolve_left hu))⟩)
      rw [judgeReleased_enters hws hall'] at hease ⊢
      refine ⟨?_, endEvent_flag (enterRun_flag w)⟩
      rw [hease.stop, (enterRun_frame w).1]
  · obtain ⟨hstop, hsafe⟩ := driveOnWork_lost hs hu hlost
    have hexec : exec .driveOnBoundary s = .next (endEvent (driveOnWork s)) :=
      congrArg Host.Outcome.next (eventIf_due h.1 (decide_eq_true hdue))
    obtain ⟨hmark, -, hrank⟩ := endEvent_stoppedBy hstop
    exact ⟨_, hexec, hmark, category_cut hrank, secured_of_secures (endEvent_rests hstop.2.1).secures hsafe⟩
  · obtain ⟨v, hv⟩ : ∃ v, v = s.modAxis i AxisState.releasedNow := ⟨_, rfl⟩
    have hexec : exec (.releaseTimer i) s = .next (endEvent (judgeReleased v)) :=
      (congrArg Host.Outcome.next (eventIf_due h.1 (decide_eq_true htimer))).trans (hv ▸ rfl)
    have haxis : v.axes[i] = s.axes[i].releasedNow := by rw [hv, modAxis_axis]
    have hvcfg : v.cfg = s.cfg := hv ▸ rfl
    obtain ⟨hdrive, htime, -, hjcfg⟩ := judgeReleased_kept v i
    have hease := hend (judgeReleased v) (hjcfg.trans hvcfg)
    refine ⟨_, hexec, (congrArg (·.drive.released) (hease.axis i)).trans ?_,
      (congrArg (·.releaseTimer) (hease.axis i)).trans (htime.trans (by rw [haxis]; rfl)), fun hs hall => ?_,
      fun j a t c hc ha ht => ?_⟩
    · show (judgeReleased v).axes[i].drive.released = true
      rw [hdrive, haxis]
      rfl
    · have hvs : v.stop.state = .resuming := by rw [hv]; exact hs
      have hreleased : v.allReleased = true := allReleased_iff.mpr fun j => by
        rw [hvcfg]
        refine (hall j).imp_right fun ⟨hon, hrel⟩ => ?_
        by_cases hj : j = i
        · obtain rfl := hj
          rw [haxis]
          exact ⟨hon, rfl⟩
        · rw [hv, modAxis_axis_other hj]
          exact ⟨hon, hrel hj⟩
      rw [judgeReleased_enters hvs hreleased] at hease ⊢
      have hkept (j : AxisNo) : v.axes[j].lens = s.axes[j].lens ∧ v.axes[j].dsl = s.axes[j].dsl
          ∧ v.axes[j].link = s.axes[j].link := by
        by_cases hj : j = i
        · obtain rfl := hj
          rw [haxis]
          exact ⟨rfl, rfl, rfl⟩
        · rw [hv, modAxis_axis_other hj]
          exact ⟨rfl, rfl, rfl⟩
      obtain ⟨hstop, -, hcfg, htkq, hop⟩ := enterRun_frame v
      have hop' : (enterRun v).operating = true := hop.trans ((hv ▸ rfl : v.operating = s.operating).trans h.1)
      have hurun : (enterRun v).stop.state = .run := congrArg StopRecord.state hstop
      have hrun : (endEvent (enterRun v)).stop.state = .run := (congrArg StopRecord.state hease.stop).trans hurun
      have hucfg : (enterRun v).cfg = s.cfg := hcfg.trans hvcfg
      have howner (j : AxisNo) : (endEvent (enterRun v)).axes[j].dsl.owner = (enterRun v).ownerOf j :=
        ((endEvent_formed (enterRun v)).2.1 ((operating_of_quiet hease.quiet).trans hop') j).trans
          (ownerOf_of_sources (cfg_of_quiet hease.quiet) (by rw [hease.stop]) hease.tkq (hease.seeking j))
      refine ⟨hrun, endEvent_flag (enterRun_flag v), fun j hlens hpending => ?_, fun j hlive => ?_⟩
      · have hsought := enterRun_axis v j
        rw [AxisState.autoSought, if_pos (by rw [(hkept j).1]; exact hpending)] at hsought
        obtain ⟨-, -, -, hdsl, -, hpend⟩ := AxisState.sought_kept v.cfg.axes[j] (v.limitActive j false)
          (v.limitActive j true) { v.axes[j] with lens := { v.axes[j].lens with
            cal := { v.axes[j].lens.cal with autoPending := false } } }
        have hstill := (hease.axis j).trans (congrArg AxisState.still hsought)
        refine ⟨(congrArg (·.lens.cal.autoPending) hstill).trans hpend,
          (congrArg (·.dsl.held) hstill).trans (congrArg (·.held) hdsl), fun hlow => ?_⟩
        have hlow' : v.limitActive j false = false := (hv ▸ rfl : v.limitActive j false = s.limitActive j false).trans hlow
        rw [AxisState.sought, hlow', if_neg Bool.false_ne_true] at hsought
        refine ⟨(howner j).trans (ownerOf_cal hurun ((used_iff _ j).mpr ?_) ?_), ?_⟩
        · rw [hucfg, hlens]
          exact nofun
        · rw [hsought]
          rfl
        · refine (congrArg (·.lens) ((hease.axis j).trans (congrArg AxisState.still hsought))).trans ?_
          obtain ⟨hl, -, hlink⟩ := hkept j
          rw [AxisState.seekBegun, hl, hlink]
          rfl
      · have hdsl : (enterRun v).axes[j].dsl = { s.axes[j].dsl with held := (enterRun v).axes[j].dsl.held } := by
          have hsought := (AxisState.autoSought_kept v.cfg.axes[j] (v.limitActive j false) (v.limitActive j true)
            v.axes[j]).2.2.1
          rwa [← enterRun_axis, (hkept j).2.1] at hsought
        have hstill := hease.axis j
        refine ⟨fun hk => ?_, fun hk => ?_, (congrArg (·.dsl.liveVel) hstill).trans (congrArg (·.liveVel) hdsl),
          (congrArg (·.dsl.liveUnit) hstill).trans (congrArg (·.liveUnit) hdsl),
          (congrArg (·.dsl.fresh) hstill).trans (congrArg (·.fresh) hdsl)⟩
        · refine endEvent_enters_live hop' ((noOwnGates_congr hucfg).mpr hgates) (by rw [hucfg]; exact hk) ?_
            ((howner j).symm.trans hlive)
          have hfrom : (enterRun v).axes[j].dsl.owner = s.axes[j].dsl.owner := congrArg (·.owner) hdsl
          rw [hfrom, h.2.2.1 h.1 j, ownerOf_stop (by rw [hs]; exact nofun)]
          exact nofun
        · refine (hease.latch j ?_).trans (congrArg (·.latch) hdsl)
          rw [hucfg, hk]
          exact nofun
    · subst hc ha ht
      rw [applySequence_axis]
      exact AxisState.sequence_cases _ _ _

end

section
/-! PROOFS. Dwells and windows (R85 to R88), ESTOP lines (R40), and the timeouts (R28, R57, R117): O23, O49, O52. -/

namespace Sys2Proof.Machine

/-! ## Dwells and windows -/

section
variable {s t : State} {i j : AxisNo} {l : Link} {c : AxisCfg}

theorem dwellDue_iff : l.dwellDue = true ↔ (l.state = .search ∨ l.state = .lost) ∧ l.dwell = 32 := by
  simp only [Link.dwellDue, Bool.and_eq_true, Bool.or_eq_true, decide_eq_true_eq]

theorem windowDue_iff : l.windowDue c = true ↔ l.state = .locked ∧ l.window = 32 ∧ l.windowBad ≤ c.badThreshold := by
  simp only [Link.windowDue, Bool.and_eq_true, decide_eq_true_eq, and_assoc]

theorem judgeDwell_locks (h : l.dwellBad ≤ c.badThreshold) : l.judgeDwell c = { l with
    state := .locked, measured := l.lastGood, pass := 0, dwell := 0, dwellBad := 0, window := 0, windowBad := 0 } := if_pos h

theorem judgeDwell_advances (h : c.badThreshold < l.dwellBad) (hd : l.delay < 15) :
    l.judgeDwell c = { l with delay := l.delay + 1, dwell := 0, dwellBad := 0 } := by
  rw [Link.judgeDwell, if_neg (Nat.not_le.mpr h), if_pos hd]

theorem judgeDwell_wraps (h : c.badThreshold < l.dwellBad) (hd : 15 ≤ l.delay) : l.judgeDwell c = { l with
    state := if l.pass + 1 = 3 then .fault else l.state, delay := c.floorDelay, pass := l.pass + 1, dwell := 0,
    dwellBad := 0 } := by
  rw [Link.judgeDwell, if_neg (Nat.not_le.mpr h), if_neg (Nat.not_lt.mpr hd)]

theorem setLink_axis (i : AxisNo) (l : Link) (s : State) : (setLink i l s).axes[i] = { s.axes[i] with link := l } := by
  simp only [setLink, getElem_set_fin, if_true]

/-- A change of a link's state or warning sets ENC-CHANGE (R82). -/
theorem setLink_flag (h : l.state ≠ s.axes[i].link.state ∨ l.warning ≠ s.axes[i].link.warning) :
    (setLink i l s).svp.flags.getLsbD flagEncChange = true := by
  refine Svp.raiseIf_set ?_ (by decide) s.svp
  rw [Bool.or_eq_true, decide_eq_true_eq, decide_eq_true_eq]
  exact h

theorem linkZones_raises (i : AxisNo) (s : State) : s.Raises (linkZones i s) := by
  unfold linkZones testZones reformZones
  exact (setZones_raises _ s).trans (setZones_raises _ _)

/-- The link that a dwell end leaves (R85 to R87). -/
theorem endEvent_dwellWork (i : AxisNo) (s : State) :
    (endEvent (dwellWork i s)).axes[i].link = s.axes[i].link.judgeDwell s.cfg.axes[i] := by
  have hquiet : (endEvent (dwellWork i s)).quiet = (setLink i (s.axes[i].link.judgeDwell s.cfg.axes[i]) s).quiet :=
    (endEvent_quiet _).trans (linkZones_quiet i _)
  rw [link_of_quiet hquiet i, setLink_axis]

theorem dwellWork_flag (h : (s.axes[i].link.judgeDwell s.cfg.axes[i]).state ≠ s.axes[i].link.state) :
    (endEvent (dwellWork i s)).svp.flags.getLsbD flagEncChange = true :=
  endEvent_flag (linkZones_raises i _ _ (setLink_flag (.inl h)))

theorem modAxis_calm {f : AxisState → AxisState} (h : s.calm) (hat : (f s.axes[i]).mpr.atTarget = s.axes[i].mpr.atTarget)
    (hseek : (f s.axes[i]).seeking = s.axes[i].seeking) (howner : (f s.axes[i]).dsl.owner = s.axes[i].dsl.owner)
    (hcap : (f s.axes[i]).cap = s.axes[i].cap) : (s.modAxis i f).calm := by
  have hother {α : Type} (g : AxisState → α) (hg : g (f s.axes[i]) = g s.axes[i]) (j : AxisNo) :
      g (s.axes.set i (f s.axes[i]))[j] = g s.axes[j] := by
    rw [getElem_set_fin]
    split
    · next hij =>
      obtain rfl := hij
      exact hg
    · rfl
  refine calm_of_same (s := s) (feeds_axes (hother (fun a => a.mpr.atTarget) hat) (hother AxisState.seeking hseek)) ?_ rfl
    rfl h
  unfold State.formed
  congr 1
  · exact funext (hother (fun a => a.dsl.owner) howner)
  · exact funext (hother AxisState.cap hcap)

end

/-! ## ESTOP lines (R40) -/

section
variable {s : State}

theorem followRaw_changed {c : LineCfg} {raw : Bool} {l : LineState} (h : l.qualified ≠ some raw) : l.followRaw c raw
    = { l with raw := raw, qualified := some raw, latch := l.latch || l.qualified.isSome || raw == c.activeHigh } := by
  cases hq : l.qualified with
  | none => simp [LineState.followRaw, hq, Bool.beq_eq_decide_eq]
  | some q =>
    have hne : q ≠ raw := fun h' => h (hq.trans (congrArg some h'))
    simp [LineState.followRaw, hq, hne]

theorem followEstop_lines (k : LineNo) (raw : Bool) (s : State) : (endEvent (followEstop k raw s)).lines
    = s.lines.set k (s.lines[k].followRaw s.cfg.lines[k] raw) :=
  (congrArg (·.lines) ((endEvent_quiet _).trans (giveCauseIf_quiet _ _ _ _)))

theorem followEstop_stops {k : LineNo} {raw : Bool} (hactive : raw = s.cfg.lines[k].activeHigh)
    (hq : s.lines[k].qualified ≠ some raw) : followEstop k raw s = giveCause .estop s.cfg.estopCategory
      { s with lines := s.lines.set k (s.lines[k].followRaw s.cfg.lines[k] raw) } :=
  if_pos (Bool.and_eq_true_iff.mpr ⟨decide_eq_true hactive, decide_eq_true hq⟩)

end

/-! ## Timeouts -/

section
variable {s : State} {st : StationNo} {i j : AxisNo}

theorem silent_iff (hst : st ≠ s.cfg.own) : s.silent st = true
    ↔ (s.peers[st].presence = .joining ∨ s.peers[st].presence = .present) ∧ s.cfg.liveness < s.time - s.peers[st].arrival := by
  simp only [State.silent, hst, ne_eq, not_false_eq_true, decide_true, Bool.true_and, Bool.and_eq_true, Bool.or_eq_true,
    decide_eq_true_eq, State.timeSince, gt_iff_lt]

/-- The entry of a peer that has become LOST, and what its event leaves of the others (R28). -/
theorem livenessWork_quiet (st : StationNo) (s : State) : (endEvent (livenessWork st s)).quiet
    = (setPeer st { s.peers[st] with presence := .lost, count := 0 } true s).quiet :=
  (endEvent_quiet _).trans ((peerReaders_quiet _ _ _).trans (giveCauseIf_quiet _ _ _ _))

theorem livenessWork_flag (st : StationNo) (s : State) :
    (endEvent (livenessWork st s)).svp.flags.getLsbD flagPeerChange = true :=
  endEvent_flag (peerReaders_raises _ _ _ _ (giveCauseIf_raises _ _ _ _ _ (Svp.raiseIf_set rfl (by decide) s.svp)))

theorem livenessWork_stops (hp : s.peers[st].presence = .present) (hr : names s.cfg.roster st.val = true) :
    (endEvent (livenessWork st s)).stoppedBy .peerLost s.cfg.peerLossCategory := by
  have hcause := giveCauseIf_stoppedBy (b := decide (s.peers[st].presence = .present) && s.inRoster st)
    (Bool.and_eq_true_iff.mpr ⟨decide_eq_true hp, hr⟩) .peerLost s.cfg.peerLossCategory
    (setPeer st { s.peers[st] with presence := .lost, count := 0 } true s)
  exact endEvent_stoppedBy (hcause.grows fun h => peerReaders_grows true st h)

/-- What the expiry of a freshness timer does to an axis (R57). -/
def State.demandLost (s : State) (i : AxisNo) (a : AxisState) : AxisState :=
  { a with dsl := { s.regate i a.dsl with
    latch := (s.regate i a.dsl).latch || decide (s.cfg.axes[i].kind = .motion) } }

theorem demandTimeoutWork_eq (i : AxisNo) (s : State) :
    ((reformGates (fun j => decide (j = i)) s).modAxis i fun a =>
      { a with dsl := { a.dsl with latch := a.dsl.latch || decide (s.cfg.axes[i].kind = .motion) } })
      = s.modAxis i (s.demandLost i) := by
  have haxis (j : AxisNo) : (reformGates (fun j => decide (j = i)) s).axes[j]
      = if j = i then { s.axes[j] with dsl := s.regate j s.axes[j].dsl } else s.axes[j] := by
    simp only [reformGates, State.mapAxes, getElem_ofFn_fin, decide_eq_true_eq]
  refine congrArg (fun as => { s with axes := as }) (vector_ext fun j => ?_)
  rw [getElem_set_fin, getElem_set_fin, haxis, haxis, if_pos rfl]
  split
  · rfl
  · next hne => rw [if_neg (Ne.symm hne)]

theorem demandLost_latch (i : AxisNo) (a : AxisState) :
    (s.demandLost i a).dsl.latch = (a.dsl.latch || decide (s.cfg.axes[i].kind = .motion)) := by
  simp only [State.demandLost, State.regate]
  cases decide (s.cfg.axes[i].kind = .motion) <;> simp

theorem reportExpired_iff {a : Nat} (hst : st ≠ s.cfg.own) (ha : s.peers[st].reports[i].arrival = some a) :
    s.reportExpired st i = true ↔ min (s.time - a) 65535 = s.cfg.liveness + 1 := by
  simp only [State.reportExpired, State.reportAge, hst, ne_eq, not_false_eq_true, decide_true, Bool.true_and, ha,
    Option.isSome_some, decide_eq_true_eq]

/-- A report past the liveness timeout gives no reading (R115). -/
theorem qualReading_expired {a : Nat} {c : ZoneCfg} {q : Qualifier} (hst : st ≠ s.cfg.own)
    (ha : s.peers[st].reports[i].arrival = some a) (hdue : min (s.time - a) 65535 = s.cfg.liveness + 1)
    (hq : c.qualifier = some q) (hqs : q.station = st) (hqi : q.axis = i) : s.qualReading c = .unknown := by
  subst hqs hqi
  have hage : decide (s.reportAge q.station q.axis ≤ s.cfg.liveness) = false := by
    refine decide_eq_false ?_
    simp only [State.reportAge, ha]
    omega
  simp only [State.qualReading, hq, if_neg hst, State.reportUsable, hage, Bool.and_false, Bool.false_and,
    Bool.false_eq_true, if_false]

end
end Sys2Proof.Machine

open Sys2Proof Sys2Proof.Machine

/-- Settles O52: no reaction to a dwell end touches a link, and a window end changes no source of a reaction. -/
theorem dwellsAndWindowsEnd : Obligations.DwellsAndWindowsEnd := by
  intro i l c s h hc hk hl
  subst hc hl
  have hu : s.used i = true := (used_iff s i).mpr hk
  refine ⟨fun hs hd => ?_, fun hno => ?_, fun hs hw hb => ?_, fun hno => ?_⟩
  · have hdue : (s.used i && s.axes[i].link.dwellDue) = true := Bool.and_eq_true_iff.mpr ⟨hu, dwellDue_iff.mpr ⟨hs, hd⟩⟩
    have hlink := endEvent_dwellWork i s
    have hflag (x : LinkState) (hx : (s.axes[i].link.judgeDwell s.cfg.axes[i]).state = x) (h1 : x ≠ .search) (h2 : x ≠ .lost) :
        (endEvent (dwellWork i s)).svp.flags.getLsbD flagEncChange = true :=
      dwellWork_flag (by rw [hx]; exact fun heq => hs.elim (fun h => h1 (heq.trans h)) fun h => h2 (heq.trans h))
    refine ⟨_, congrArg Host.Outcome.next (eventIf_due h.1 hdue), fun hb => ?_, fun hb hdelay => ?_, fun hb hdelay hp => ?_,
      fun hb hdelay hp => ?_⟩
    · rw [judgeDwell_locks hb] at hlink
      exact ⟨hlink, hflag .locked (by rw [judgeDwell_locks hb]) nofun nofun⟩
    · rw [judgeDwell_advances hb hdelay] at hlink
      exact hlink
    · rw [judgeDwell_wraps hb hdelay, if_neg (by omega)] at hlink
      exact hlink
    · have hwraps := judgeDwell_wraps hb hdelay
      rw [hp, if_pos rfl] at hwraps
      exact ⟨hlink.trans hwraps, hflag .fault (by rw [hwraps]) nofun nofun⟩
  · refine congrArg Host.Outcome.next (eventIf_notDue (Bool.eq_false_iff.mpr fun hdue => ?_))
    obtain ⟨hs, hd⟩ := dwellDue_iff.mp (Bool.and_eq_true_iff.mp hdue).2
    rcases hno with hno | hno | hno
    · exact hs.elim (fun h => nomatch hno.symm.trans h) fun h => nomatch hno.symm.trans h
    · exact hs.elim (fun h => nomatch hno.symm.trans h) fun h => nomatch hno.symm.trans h
    · exact hno hd
  · refine congrArg Host.Outcome.next (eventIf_calm h (Bool.and_eq_true_iff.mpr ⟨hu, windowDue_iff.mpr ⟨hs, hw, hb⟩⟩) ?_)
    exact modAxis_calm h rfl rfl rfl rfl
  · refine congrArg Host.Outcome.next (eventIf_notDue (Bool.eq_false_iff.mpr fun hdue => ?_))
    obtain ⟨hs, hw, hb⟩ := windowDue_iff.mp (Bool.and_eq_true_iff.mp hdue).2
    rcases hno with hno | hno | hno
    · exact hno hs
    · exact hno hw
    · exact absurd hb (Nat.not_le.mpr hno)

/-- Settles O23. -/
theorem estopActsAtOnce : Obligations.EstopActsAtOnce := by
  intro k level s hop hf hq
  have hdue : s.estopChanges k level = true := Bool.and_eq_true_iff.mpr ⟨decide_eq_true hf, decide_eq_true hq⟩
  refine ⟨_, congrArg Host.Outcome.next (eventIf_due hop hdue),
    (followEstop_lines k level s).trans (by rw [followRaw_changed hq]), fun hactive => ?_⟩
  rw [followEstop_stops hactive hq]
  obtain ⟨hmark, hhalt, hrank⟩ := endEvent_stoppedBy (takeCause_stoppedBy s.cfg.own .estop s.cfg.estopCategory
    { s with lines := s.lines.set k (s.lines[k].followRaw s.cfg.lines[k] level) })
  refine ⟨hmark, hhalt.1, hhalt.2, hrank, fun hcut hne => ?_⟩
  rw [hcut]
  exact (endEvent_takeCause_cut true s.cfg.own .estop _).2 hne

/-- Settles O49. -/
theorem timeoutsAct : Obligations.TimeoutsAct := by
  intro s h
  refine ⟨fun st hst => ⟨fun hp hlate => ?_, fun hno => ?_⟩, fun i st hk hsrc => ⟨fun hfresh => ?_, fun hno => ?_⟩,
    fun st i a hst ha => ⟨fun hdue => ?_, fun hno => ?_⟩⟩
  · have hquiet := livenessWork_quiet st s
    have hpeer (other : StationNo) (hother : other ≠ s.cfg.own) : (endEvent (livenessWork st s)).peers[other]
        = (s.peers.set st { s.peers[st] with presence := .lost, count := 0 })[other] := peer_of_quiet hquiet hother
    refine ⟨_, congrArg Host.Outcome.next (eventIf_due h.1 ((silent_iff hst).mpr ⟨hp, hlate⟩)), ?_, fun other hne hother => ?_,
      livenessWork_flag st s, fun hpres hroster => ?_⟩
    · rw [hpeer st hst, getElem_set_fin, if_pos rfl]
    · rw [hpeer other hother, getElem_set_fin, if_neg (Ne.symm hne)]
    · obtain ⟨hmark, hhalt, -⟩ := livenessWork_stops hpres hroster
      exact ⟨hmark, hhalt.1, hhalt.2⟩
  · refine congrArg Host.Outcome.next (eventIf_notDue (Bool.eq_false_iff.mpr fun hdue => ?_))
    obtain ⟨hp, hlate⟩ := (silent_iff hst).mp hdue
    rcases hno with hno | hno | hno
    · exact hp.elim (fun h => nomatch hno.symm.trans h) fun h => nomatch hno.symm.trans h
    · exact hp.elim (fun h => nomatch hno.symm.trans h) fun h => nomatch hno.symm.trans h
    · exact absurd hlate (Nat.not_lt.mpr hno)
  · have hdue : s.demandExpired i = true :=
      Bool.and_eq_true_iff.mpr ⟨(used_iff s i).mpr hk, decide_eq_true hfresh⟩
    have hwork := demandTimeoutWork_eq i s
    have hcalm : (s.modAxis i (s.demandLost i)).calm := modAxis_calm h rfl rfl rfl rfl
    have haxis : (s.modAxis i (s.demandLost i)).axes[i] = s.demandLost i s.axes[i] := modAxis_axis _ i s
    refine ⟨s.modAxis i (s.demandLost i), congrArg Host.Outcome.next ((eventIf_calm h hdue (hwork ▸ hcalm)).trans hwork),
      fun hpres henable => ?_, ?_, rfl, fun j hj => modAxis_axis_other hj, ?_⟩
    · rw [haxis]
      exact gateFor_stale hsrc hpres henable (by rw [hfresh]; exact Nat.lt_succ_self _)
    · rw [haxis]
      exact demandLost_latch i _
    · rw [haxis]
      rfl
  · refine congrArg Host.Outcome.next (eventIf_notDue (Bool.eq_false_iff.mpr fun hdue => ?_))
    exact hno (of_decide_eq_true (Bool.and_eq_true_iff.mp hdue).2)
  · obtain ⟨u, hu⟩ : ∃ u, u = reformZones (s.zonesOfAxis st i) s := ⟨_, rfl⟩
    have hexec : exec (.reportStale st i) s = .next (endEvent u) :=
      (congrArg Host.Outcome.next (eventIf_due h.1 ((reportExpired_iff hst ha).mpr hdue))).trans (hu ▸ rfl)
    have huquiet : u.quiet = s.quiet := hu ▸ reformZones_quiet _ s
    have huop : u.operating = true := (operating_of_quiet huquiet).trans h.1
    have hucfg : u.cfg = s.cfg := cfg_of_quiet huquiet
    refine ⟨_, hexec, fun z q hz hq hqs hqi => ?_⟩
    have hreads : s.zonesOfAxis st i z = true := by
      rw [State.zonesOfAxis, hq]
      exact decide_eq_true (by rw [← hqs, ← hqi]; rfl)
    have hunknown := qualReading_expired hst ha hdue hq hqs hqi
    have hread : u.zoneRead z := hu ▸ reformZones_zoneRead hz (.inl hreads)
    refine ⟨?_, fun hgate => ?_⟩
    · rw [endEvent_zoneRead huop (by rw [hucfg]; exact hz) hread, qualReading_of_quiet huquiet, hucfg]
      exact hunknown
    · rw [endEvent_zone huop (zonesOfOwnWord_ungated (by rw [hucfg]; exact hgate)), hu, reformZones_zone, if_pos hreads,
        zoneNow_used hz, ZoneState.evaluate_active, hunknown, gateReading_ungated hgate]
      rfl
  · refine congrArg Host.Outcome.next (eventIf_notDue (Bool.eq_false_iff.mpr fun hdue => ?_))
    exact hno ((reportExpired_iff hst ha).mp hdue)

end

section
/-! PROOFS. The qualified edges and the functions of the lines (R39, R44, R45, R125 to R127, R164): O24. -/

namespace Sys2Proof.Machine

section
variable {s : State} {k : LineNo}

/-- What the function of a line does on its qualified edge (R44). -/
def State.edgeActed (s : State) (k : LineNo) : State :=
  lineActs s.cfg.lines[k].function s.cfg.lines[k].group (decide (s.lines[k].qualified = none))
    (decide (s.lines[k].raw = s.cfg.lines[k].activeHigh)) (s.edgeTaken k)

theorem exec_edge (hop : s.operating = true) (hf : s.cfg.lines[k].function ≠ .estop)
    (hdue : s.lines[k].hold = s.cfg.lines[k].qualTime + 1) :
    exec (.qualifiedEdge k) s = .next (endEvent (s.edgeActed k)) :=
  congrArg Host.Outcome.next (eventIf_due hop (Bool.and_eq_true_iff.mpr ⟨decide_eq_true hf, decide_eq_true hdue⟩))

/-! ## CREW-TRIP groups (R45) -/

/-- A group is active once a member's edge has been taken exactly where that member has become active or another is. -/
theorem edgeTaken_groupActive (hf : s.cfg.lines[k].function = .crewTrip) :
    (s.edgeTaken k).groupActive s.cfg.lines[k].group = true ↔ s.lines[k].raw = s.cfg.lines[k].activeHigh
      ∨ ∃ j : LineNo, j ≠ k ∧ s.cfg.lines[j].function = .crewTrip ∧ s.cfg.lines[j].group = s.cfg.lines[k].group
        ∧ s.lines[j].qualified = some s.cfg.lines[j].activeHigh := by
  have hactive (j : LineNo) : (s.edgeTaken k).lineActive j = true
      ↔ if j = k then s.lines[k].raw = s.cfg.lines[k].activeHigh
        else s.lines[j].qualified = some s.cfg.lines[j].activeHigh := by
    by_cases hj : j = k
    · obtain rfl := hj
      simp [State.edgeTaken, State.lineActive, LineState.qualify]
    · rw [if_neg hj, State.lineActive, decide_eq_true_eq]
      show (s.lines.set k _)[j].qualified = _ ↔ _
      rw [getElem_set_fin, if_neg (Ne.symm hj)]
      rfl
  simp only [State.groupActive, List.any_eq_true, Bool.and_eq_true, decide_eq_true_eq, hactive]
  constructor
  · rintro ⟨j, -, ⟨hjf, hjg⟩, hja⟩
    by_cases hj : j = k
    · rw [if_pos hj] at hja
      exact .inl hja
    · rw [if_neg hj] at hja
      exact .inr ⟨j, hj, hjf, hjg, hja⟩
  · rintro (hk | ⟨j, hj, hjf, hjg, hja⟩)
    · exact ⟨k, mem_allSixteen k, ⟨hf, rfl⟩, by rw [if_pos rfl]; exact hk⟩
    · exact ⟨j, mem_allSixteen j, ⟨hjf, hjg⟩, by rw [if_neg hj]; exact hja⟩

theorem edgeActed_crewTrip (hf : s.cfg.lines[k].function = .crewTrip) :
    s.edgeActed k = judgeGroup s.cfg.lines[k].group (s.edgeTaken k) := by
  rw [State.edgeActed, hf, lineActs]

/-- A group that stays tripped, or untrips, gives no cause (R45). -/
theorem judgeGroup_quietly {g : GroupNo} (h : (s.groupActive g && !s.groups[g]) = false) :
    judgeGroup g s = { s with groups := s.groups.set g (s.groupActive g) } :=
  if_neg (by rw [h]; exact Bool.false_ne_true)

theorem judgeGroup_trips {g : GroupNo} (h : s.groupActive g = true) (hg : s.groups[g] = false) :
    judgeGroup g s = giveCause .crewTrip s.cfg.groupCategory[g] { s with groups := s.groups.set g true } := by
  have hif : (s.groupActive g && !s.groups[g]) = true := by rw [h, hg]; rfl
  rw [judgeGroup, giveCauseIf, if_pos hif, h]

/-! ## Causes (R97, R125 to R127) -/

/-- An edge whose line function gives a cause stops the station with it. -/
theorem edge_stops {cause : Cause} {category : Category} {u : State} (hop : s.operating = true)
    (hf : s.cfg.lines[k].function ≠ .estop) (hdue : s.lines[k].hold = s.cfg.lines[k].qualTime + 1)
    (hacted : s.edgeActed k = giveCause cause category u) :
    ∃ t, exec (.qualifiedEdge k) s = .next t ∧ cause ∈ t.stop.localMarks ∧ t.stop.state ≠ .run ∧ t.stop.state ≠ .resuming
      ∧ categoryRank (some category) ≤ categoryRank t.stop.category ∧ t.groups = u.groups := by
  obtain ⟨hmark, hhalt, hrank⟩ := endEvent_stoppedBy (takeCause_stoppedBy u.cfg.own cause category u)
  refine ⟨_, (exec_edge hop hf hdue).trans (by rw [hacted]; rfl), hmark, hhalt.1, hhalt.2, hrank, ?_⟩
  exact congrArg (·.groups) ((endEvent_quiet _).trans (giveCause_quiet cause category u))

theorem edgeActed_driveFault {i : AxisNo} (hf : s.cfg.lines[k].function = .driveFault i)
    (hraw : s.lines[k].raw = s.cfg.lines[k].activeHigh) : s.edgeActed k = giveCause .driveFault .cut (s.edgeTaken k) := by
  rw [State.edgeActed, hf, decide_eq_true hraw]
  rfl

theorem edgeActed_stopButton (hf : s.cfg.lines[k].function = .stopButton)
    (hraw : s.lines[k].raw = s.cfg.lines[k].activeHigh) : s.edgeActed k = giveCause .operator .hold (s.edgeTaken k) := by
  rw [State.edgeActed, hf, decide_eq_true hraw]
  rfl

theorem endInput_resting {a : AxisState} (h : a.seeking = false) (highEnd : Bool) :
    endInput a.lens.cal.state highEnd = false := by
  have hno := seeking_iff.not.mp (Bool.eq_false_iff.mp h)
  cases hs : a.lens.cal.state with
  | seekLow => exact absurd (.inl hs) hno
  | seekHigh => exact absurd (.inr hs) hno
  | _ => rfl

theorem edgeActed_limit {i : AxisNo} {highEnd : Bool} (hf : s.cfg.lines[k].function = .limit i highEnd)
    (hseek : s.axes[i].seeking = false) (hraw : s.lines[k].raw = s.cfg.lines[k].activeHigh) :
    s.edgeActed k = giveCause .limit .cut (s.edgeTaken k) := by
  rw [State.edgeActed, hf, decide_eq_true hraw]
  exact limitEdge_stops (s := s.edgeTaken k) (endInput_resting hseek highEnd)

/-! ## Buttons (R164) -/

/-- A button's cue is acted on at an edge to active that is no first qualification. -/
theorem buttonCue_takes {kind : CueKind} {number mask : Byte} (hlen : s.lif.cues.length < 4) (hm : s.lif.mute = .off) :
    (buttonCue kind number mask s).lif.cues = s.lif.cues ++ [{ attempts := 0, cue :=
        { kind := kind, seq := s.tkq.cueSeq, number := number, mask := mask, parameter := 0 } }]
      ∧ (buttonCue kind number mask s).tkq.cueSeq = s.tkq.cueSeq + 1
      ∧ (buttonCue kind number mask s).lif.droppedCues = s.lif.droppedCues := by
  have htakes : s.lif.takesCue = true := Lif.takesCue_iff.mpr ⟨hlen, hm⟩
  rw [buttonCue, if_pos htakes]
  exact ⟨if_pos htakes, congrArg Tkq.cueSeq (if_pos htakes), rfl⟩

theorem buttonCue_drops {kind : CueKind} {number mask : Byte} (h : 4 ≤ s.lif.cues.length ∨ s.lif.mute ≠ .off) :
    (buttonCue kind number mask s).lif.cues = s.lif.cues ∧ (buttonCue kind number mask s).tkq.cueSeq = s.tkq.cueSeq
      ∧ (buttonCue kind number mask s).lif.droppedCues = min (s.lif.droppedCues + 1) 65535 := by
  have hno : ¬ s.lif.takesCue = true := fun ht => by
    obtain ⟨hlen, hm⟩ := Lif.takesCue_iff.mp ht
    exact h.elim (fun h => absurd hlen (Nat.not_lt.mpr h)) fun h => h hm
  rw [buttonCue, if_neg hno]
  exact ⟨rfl, rfl, rfl⟩

/-- The line function makes this cue where it is acted on. -/
def State.buttonMakes (s : State) (k : LineNo) (kind : CueKind) (number mask : Byte) : Prop :=
  (s.cfg.lines[k].function = .goButton ∧ kind = .go ∧ s.lastArm.map (fun a => (a.number, a.mask)) = some (number, mask))
    ∨ (s.cfg.lines[k].function = .haltButton ∧ kind = .halt
      ∧ s.lastArm.map (fun a => (a.number, a.mask)) = some (number, mask))
    ∨ (s.cfg.lines[k].function = .resumeButton ∧ kind = .resume ∧ number = 0 ∧ mask = s.cfg.roster)

theorem armedButton_some {kind : CueKind} {number mask : Byte}
    (h : s.lastArm.map (fun a => (a.number, a.mask)) = some (number, mask)) :
    armedButton kind s = buttonCue kind number mask s := by
  obtain ⟨a, ha, hpair⟩ := Option.map_eq_some_iff.mp h
  obtain ⟨rfl, rfl⟩ := Prod.mk.inj hpair
  simp only [armedButton, ha]

theorem edgeActed_button {kind : CueKind} {number mask : Byte} (h : s.buttonMakes k kind number mask) :
    s.edgeActed k = if s.lines[k].raw = s.cfg.lines[k].activeHigh ∧ s.lines[k].qualified ≠ none then
      buttonCue kind number mask (s.edgeTaken k) else s.edgeTaken k := by
  have hacts : (decide (s.lines[k].raw = s.cfg.lines[k].activeHigh) && !decide (s.lines[k].qualified = none)) = true
      ↔ s.lines[k].raw = s.cfg.lines[k].activeHigh ∧ s.lines[k].qualified ≠ none := by
    rw [Bool.and_eq_true, decide_eq_true_eq, Bool.not_eq_true', decide_eq_false_iff_not]
  rcases h with ⟨hf, rfl, harm⟩ | ⟨hf, rfl, harm⟩ | ⟨hf, rfl, rfl, rfl⟩
  · rw [State.edgeActed, hf]
    exact (if_congr hacts (armedButton_some (s := s.edgeTaken k) harm) rfl)
  · rw [State.edgeActed, hf]
    exact (if_congr hacts (armedButton_some (s := s.edgeTaken k) harm) rfl)
  · rw [State.edgeActed, hf]
    exact (if_congr hacts rfl rfl)

theorem buttonMakes_function {kind : CueKind} {number mask : Byte} (h : s.buttonMakes k kind number mask) :
    s.cfg.lines[k].function ≠ .estop := by
  rcases h with ⟨hf, -⟩ | ⟨hf, -⟩ | ⟨hf, -⟩ <;> rw [hf] <;> exact nofun

theorem endEvent_stop_kept {t : State} (hcfg : t.cfg = s.cfg) (hstop : t.stop = s.stop) (h : s.noOwnGates) :
    (endEvent t).stop = s.stop := (endEvent_eases (.inr ((noOwnGates_congr hcfg).mpr h))).stop.trans hstop

theorem groups_of_quiet {t : State} (h : t.quiet = s.quiet) : t.groups = s.groups := congrArg (·.groups) h

/-- What no reaction of an event changes of the cues. -/
theorem cues_of_quiet {t : State} (h : t.quiet = s.quiet) : t.lif.cues = s.lif.cues ∧ t.tkq.cueSeq = s.tkq.cueSeq
    ∧ t.lif.droppedCues = s.lif.droppedCues :=
  ⟨congrArg (·.lif.cues) h, congrArg (·.tkq.cueSeq) h, congrArg (·.lif.droppedCues) h⟩

end
end Sys2Proof.Machine

open Sys2Proof Sys2Proof.Machine

/-- Settles O24. -/
theorem stopLinesGiveTheirCauses : Obligations.StopLinesGiveTheirCauses := by
  intro k s c hop hc hdue
  subst hc
  refine ⟨fun cause category hraw hcause => ?_, fun hf others hothers => ⟨fun hon hg => ?_, fun hoff hno => ?_⟩,
    fun kind number mask hkind => ?_, fun hf harm => ?_⟩
  · rcases hcause with ⟨⟨i, hf⟩, rfl, rfl⟩ | ⟨⟨i, highEnd, hf, hseek⟩, rfl, rfl⟩ | ⟨hf, rfl, rfl⟩ | ⟨hf, hg, rfl, rfl⟩
    · rw [if_neg (by rw [hf]; exact nofun)]
      have hstops := edge_stops hop (by rw [hf]; exact nofun) hdue (edgeActed_driveFault hf hraw)
      exact hstops
    · rw [if_neg (by rw [hf]; exact nofun)]
      have hstops := edge_stops hop (by rw [hf]; exact nofun) hdue (edgeActed_limit hf hseek hraw)
      exact hstops
    · rw [if_neg (by rw [hf]; exact nofun)]
      have hstops := edge_stops hop (by rw [hf]; exact nofun) hdue (edgeActed_stopButton hf hraw)
      exact hstops
    · rw [if_pos hf]
      have hstops := edge_stops hop (by rw [hf]; exact nofun) hdue ((edgeActed_crewTrip hf).trans
        (judgeGroup_trips (s := s.edgeTaken k) ((edgeTaken_groupActive hf).mpr (.inl hraw)) hg))
      exact hstops
  · have hactive : (s.edgeTaken k).groupActive s.cfg.lines[k].group = true :=
      (edgeTaken_groupActive hf).mpr (hon.imp_right hothers.mp)
    have hexec := exec_edge hop (by rw [hf]; exact nofun) hdue
    have hg' : (s.edgeTaken k).groups[s.cfg.lines[k].group] = true := hg
    rw [edgeActed_crewTrip hf, judgeGroup_quietly (by rw [hactive, hg']; rfl), hactive] at hexec
    refine ⟨_, hexec, (groups_of_quiet (endEvent_quiet _)).trans ?_, fun hgates => ?_⟩
    · refine vector_ext fun j => (getElem_set_fin _ _ _ _).trans ?_
      split
      · next hj =>
        subst hj
        exact hg.symm
      · rfl
    · exact endEvent_stop_kept (s := s) rfl rfl hgates
  · have hactive : (s.edgeTaken k).groupActive s.cfg.lines[k].group = false := by
      rw [Bool.eq_false_iff, ne_eq, edgeTaken_groupActive hf, not_or]
      exact ⟨hoff, fun h => hno (hothers.mpr h)⟩
    have hexec := exec_edge hop (by rw [hf]; exact nofun) hdue
    rw [edgeActed_crewTrip hf, judgeGroup_quietly (by rw [hactive]; rfl), hactive] at hexec
    refine ⟨_, hexec, groups_of_quiet (endEvent_quiet _), fun hgates => ?_⟩
    exact endEvent_stop_kept (s := s) rfl rfl hgates
  · have hmakes : s.buttonMakes k kind number mask := hkind
    have hexec := exec_edge hop (buttonMakes_function hmakes) hdue
    have hacted := edgeActed_button hmakes
    obtain ⟨hcues, hseq, hdropped⟩ := cues_of_quiet (endEvent_quiet (s.edgeActed k))
    refine ⟨_, hexec, fun hraw hq => ?_, fun hno => ?_⟩
    · rw [if_pos ⟨hraw, hq⟩] at hacted
      rw [hcues, hseq, hdropped, hacted]
      exact ⟨fun hlen hm => buttonCue_takes (s := s.edgeTaken k) hlen hm, buttonCue_drops (s := s.edgeTaken k)⟩
    · rw [if_neg fun ⟨hraw, hq⟩ => hno.elim (fun h => h hraw) fun h => hq h] at hacted
      rw [hcues, hseq, hdropped, hacted]
      exact ⟨rfl, rfl, rfl⟩
  · have hexec := exec_edge hop (by rcases hf with hf | hf <;> rw [hf] <;> exact nofun) hdue
    have hacted : s.edgeActed k = s.edgeTaken k := by
      have hnone (kind : CueKind) : armedButton kind (s.edgeTaken k) = s.edgeTaken k := by
        have harm' : (s.edgeTaken k).lastArm = none := harm
        simp only [armedButton, harm']
      rcases hf with hf | hf <;> rw [State.edgeActed, hf, lineActs, hnone, ite_self]
    obtain ⟨hcues, hseq, hdropped⟩ := cues_of_quiet (endEvent_quiet (s.edgeActed k))
    rw [hacted] at hcues hseq hdropped hexec
    exact ⟨_, hexec, hcues, hseq, hdropped⟩

end

section
/-! PROOFS. The encoder read of a period (R83 to R92, R110, R119): O51. -/

namespace Sys2Proof.Machine

/-! ## Reactions as steps

A reaction is a chain of causes taken and of steps that move, of the stop record, the take record, the request flags and the
axes, the owners, gates and caps alone. -/

/-- A step of a reaction that is no cause. -/
structure Plain (s t : State) : Prop where
  cfg : t.cfg = s.cfg
  flags : t.svp.flags = s.svp.flags
  stop : t.stop = s.stop
  tkq : t.tkq = s.tkq
  axes : ∀ i : AxisNo, ∃ (d : Dsl) (cap : Nat), t.axes[i] = { s.axes[i] with dsl := d, cap := cap }

/-- A chain of plain steps and causes. -/
def Reacts : State → State → Prop :=
  Relation.ReflTransGen fun s t => Plain s t ∨ ∃ loc o k c, t = takeCause loc o k c s

section
variable {s t u : State}

theorem Plain.reacts (h : Plain s t) : Reacts s t := .single (.inl h)

theorem Plain.refl (s : State) : Plain s s := ⟨rfl, rfl, rfl, rfl, fun _ => ⟨_, _, rfl⟩⟩

theorem Plain.trans (h : Plain s t) (h' : Plain t u) : Plain s u :=
  ⟨h'.cfg.trans h.cfg, h'.flags.trans h.flags, h'.stop.trans h.stop, h'.tkq.trans h.tkq, fun i => by
    obtain ⟨d, cap, hi⟩ := h.axes i
    obtain ⟨d', cap', hi'⟩ := h'.axes i
    exact ⟨d', cap', by rw [hi', hi]⟩⟩

theorem Plain.lens (h : Plain s t) (i : AxisNo) : t.axes[i].lens = s.axes[i].lens := by
  obtain ⟨d, cap, hi⟩ := h.axes i
  rw [hi]

theorem Plain.mpr (h : Plain s t) (i : AxisNo) : t.axes[i].mpr = s.axes[i].mpr := by
  obtain ⟨d, cap, hi⟩ := h.axes i
  rw [hi]

theorem Plain.of_axes (hcfg : t.cfg = s.cfg) (hflags : t.svp.flags = s.svp.flags) (hstop : t.stop = s.stop)
    (htkq : t.tkq = s.tkq) (haxes : t.axes = s.axes) : Plain s t :=
  ⟨hcfg, hflags, hstop, htkq, fun _ => ⟨_, _, by rw [haxes]⟩⟩

theorem giveCauseIf_reacts (b : Bool) (k : Cause) (c : Category) (s : State) : Reacts s (giveCauseIf b k c s) := by
  unfold giveCauseIf
  split
  · exact .single (.inr ⟨_, _, _, _, rfl⟩)
  · exact .refl

theorem foldl_giveCauseIf_reacts {α : Type} (b : α → Bool) (k : Cause) (c : Category) (xs : List α) (s : State) :
    Reacts s (xs.foldl (fun t x => giveCauseIf (b x) k c t) s) := by
  induction xs generalizing s with
  | nil => exact .refl
  | cons x xs ih => exact (giveCauseIf_reacts (b x) k c s).trans (ih _)

theorem setZones_reacts (new : Vector ZoneState 8) (s : State) : Reacts s (setZones new s) :=
  (Plain.of_axes (s := s) (t := { s with zones := new }) rfl rfl rfl rfl rfl).reacts.trans
    (foldl_giveCauseIf_reacts (fun z : ZoneNo => new[z].breached && !s.zones[z].breached) .zoneBreach .brake allEight _)

theorem reformGates_plain (f : AxisNo → Bool) (s : State) : Plain s (reformGates f s) := by
  refine ⟨rfl, rfl, rfl, rfl, fun i => ?_⟩
  simp only [reformGates, State.mapAxes, getElem_ofFn_fin]
  split
  · exact ⟨_, _, rfl⟩
  · exact ⟨_, _, rfl⟩

theorem formOwners_plain (s : State) : Plain s (formOwners s) :=
  ⟨rfl, rfl, rfl, rfl, fun i => ⟨_, _, by rw [formOwners_axis]; rfl⟩⟩

theorem formAttention_plain (s : State) : Plain s (formAttention s) :=
  .of_axes rfl (formAttention_flags s) rfl rfl rfl

theorem outputs_plain (s : State) : Plain s (formAttention (formOutputs s)) :=
  .of_axes rfl (formAttention_flags (formOutputs s)) rfl rfl rfl

theorem settleWord_reacts (s : State) : Reacts s (settleWord s) := by
  unfold settleWord reformZones
  refine Relation.ReflTransGen.trans ?_ (setZones_reacts _ _)
  exact (Plain.of_axes (s := s) (t := announce { s with word := s.formWord }) rfl rfl rfl rfl rfl).reacts.trans
    (reformGates_plain _ _).reacts

theorem settle_reacts (n : Nat) (s : State) : Reacts s (settle n s) := by
  induction n generalizing s with
  | zero => exact .refl
  | succ n ih =>
    unfold settle
    split
    · exact .refl
    · exact (settleWord_reacts s).trans (ih _)

theorem endEvent_reacts (s : State) : Reacts s (endEvent s) := by
  unfold endEvent
  split
  · refine (formOwners_plain s).reacts.trans ((settle_reacts 4 (formOwners s)).trans ?_)
    exact (Plain.of_axes (s := settle 4 (formOwners s)) (t := formCrew (settle 4 (formOwners s))) rfl rfl rfl rfl rfl).reacts.trans
      ((formOwners_plain _).reacts.trans (outputs_plain _).reacts)
  · exact (formAttention_plain s).reacts

theorem linkZones_reacts (i : AxisNo) (s : State) : Reacts s (linkZones i s) := by
  unfold linkZones testZones reformZones
  exact (setZones_reacts _ s).trans (setZones_reacts _ _)

/-! ## COUNTER-ALERT stays in a reaction -/

/-- COUNTER-ALERT is as it was. -/
def State.SameAlert (s t : State) : Prop := t.svp.flags.getLsbD flagCounterAlert = s.svp.flags.getLsbD flagCounterAlert

theorem State.SameAlert.trans (h : s.SameAlert t) (h' : t.SameAlert u) : s.SameAlert u := Eq.trans h' h

theorem Svp.raiseIf_other {cond : Bool} {flag k : Nat} (h : flag ≠ k) (p : Svp) :
    (p.raiseIf cond flag).flags.getLsbD k = p.flags.getLsbD k := by
  cases cond with
  | false => rfl
  | true =>
    have hne : (decide (flag < 16) && decide (flag = k)) = false := by rw [decide_eq_false h, Bool.and_false]
    show (p.flags ||| BitVec.twoPow 16 flag).getLsbD k = _
    rw [BitVec.getLsbD_or, BitVec.getLsbD_twoPow, hne, Bool.or_false]

theorem takeCause_sameAlert (loc : Bool) (o : StationNo) (k : Cause) (c : Category) (s : State) :
    s.SameAlert (takeCause loc o k c s) := by
  rcases takeCause_cases loc o k c s with ⟨-, h⟩ | ⟨-, -, h⟩ | ⟨-, -, h⟩ <;> rw [h]
  · obtain ⟨cancels, truncates, aborts, hsvp⟩ : ∃ cancels truncates aborts : Bool, (beginStop loc o k c s).svp
        = (((s.svp.raiseIf true flagStopEnter).raiseIf cancels flagCalDone).raiseIf truncates flagTakeChange).raiseIf aborts
          flagTakeChange := ⟨_, _, _, rfl⟩
    rw [State.SameAlert, hsvp, Svp.raiseIf_other (by decide), Svp.raiseIf_other (by decide), Svp.raiseIf_other (by decide),
      Svp.raiseIf_other (by decide)]
  · exact congrArg (fun p : Svp => p.flags.getLsbD flagCounterAlert) (escalateStop_svp loc o k c s)
  · rfl

theorem Reacts.sameAlert (h : Reacts s t) : s.SameAlert t := by
  induction h with
  | refl => rfl
  | tail _ hstep ih =>
    refine ih.trans ?_
    rcases hstep with h | ⟨loc, o, k, c, rfl⟩
    · exact congrArg (·.getLsbD flagCounterAlert) h.flags
    · exact takeCause_sameAlert loc o k c _

/-! ## A seek ends in a reaction only where a stop begins (R112) -/

/-- What a reaction leaves of the lens record of an axis. -/
structure SeekKept (i : AxisNo) (s t : State) : Prop where
  halted : s.halted → t.halted
  lens : t.axes[i].lens = s.axes[i].lens ∨ (¬ s.halted ∧ t.halted)
  resting : s.axes[i].seeking = false → t.axes[i].lens = s.axes[i].lens
  reseed : s.axes[i].mpr.reseed = true → t.axes[i].mpr.reseed = true

theorem seeking_of_lens {a b : AxisState} (h : b.lens = a.lens) : b.seeking = a.seeking := by
  rw [AxisState.seeking, h]
  rfl

theorem SeekKept.trans {i : AxisNo} (h : SeekKept i s t) (h' : SeekKept i t u) : SeekKept i s u where
  halted hs := h'.halted (h.halted hs)
  lens := by
    rcases h.lens with hl | ⟨hs, ht⟩
    · rcases h'.lens with hl' | ⟨ht, hu⟩
      · exact .inl (hl'.trans hl)
      · exact .inr ⟨fun hs => ht (h.halted hs), hu⟩
    · exact .inr ⟨hs, h'.halted ht⟩
  resting hs := (h'.resting ((seeking_of_lens (h.resting hs)).trans hs)).trans (h.resting hs)
  reseed hr := h'.reseed (h.reseed hr)

theorem takeCause_seekKept (loc : Bool) (o : StationNo) (k : Cause) (c : Category) (i : AxisNo) (s : State) :
    SeekKept i s (takeCause loc o k c s) := by
  by_cases hs : s.halted
  · have hrests := takeCause_rests loc o k c hs
    exact ⟨fun _ => (takeCause_stops loc o k c s).1, .inl (hrests.lens i), fun _ => hrests.lens i,
      fun hr => by rw [hrests.mpr]; exact hr⟩
  · obtain ⟨-, heq⟩ | ⟨hh, -⟩ | ⟨hh, -⟩ := takeCause_cases loc o k c s
    · refine ⟨fun h => absurd h hs, .inr ⟨hs, (takeCause_stops loc o k c s).1⟩, fun hseek => ?_, fun hr => ?_⟩
      · rw [heq, beginStop_axis, AxisState.stopBegun_lens, Lens.cancel_resting hseek]
      · rw [heq, beginStop_axis, AxisState.stopBegun, (AxisState.sequence_lens _ _ _).2.1]
        simp only [AxisState.withLens, hr, Bool.true_or]
    · exact absurd hh hs
    · exact absurd hh hs

theorem Reacts.seekKept (h : Reacts s t) (i : AxisNo) : SeekKept i s t := by
  induction h with
  | refl => exact ⟨id, .inl rfl, fun _ => rfl, id⟩
  | tail _ hstep ih =>
    refine ih.trans ?_
    rcases hstep with h | ⟨loc, o, k, c, rfl⟩
    · exact ⟨fun hs => by rw [State.halted, h.stop]; exact hs, .inl (h.lens i), fun _ => h.lens i,
        fun hr => by rw [h.mpr]; exact hr⟩
    · exact takeCause_seekKept loc o k c i _

/-- A seek stays where the stop record does. -/
theorem SeekKept.of_stop {i : AxisNo} (h : SeekKept i s t) (hstop : t.stop = s.stop) : t.axes[i].lens = s.axes[i].lens :=
  h.lens.resolve_right fun ⟨hs, ht⟩ => hs (by rw [State.halted, ← hstop]; exact ht)

end

/-! ## The link after a read (R84, R85, R88, R89) -/

section
variable {c : AxisCfg} {r : ReadResult} {l : Link}

theorem position_none (h : ∀ raw w, r ≠ .good raw w) (origin : Nat) : r.position origin = none := by
  cases r with
  | good raw w => exact absurd rfl (h raw w)
  | _ => rfl

theorem warningAfter_bad (h : ∀ raw w, r ≠ .good raw w) (warning : Bool) : r.warningAfter warning = warning := by
  cases r with
  | good raw w => exact absurd rfl (h raw w)
  | _ => rfl

theorem read_searching (h : l.state = .search ∨ l.state = .lost) :
    l.read c r = ({ l with warning := r.warningAfter l.warning } : Link).readSearching (r.position c.origin) := by
  rcases h with h | h <;> simp only [Link.read, h]

/-- The dwell counts a read, and judges a bad one among reads 17 to 32 (R85). -/
theorem read_searching_fields (h : l.state = .search ∨ l.state = .lost) (hd : l.dwell < 32) :
    (l.read c r).state = l.state ∧ (l.read c r).dwell = l.dwell + 1 ∧ (l.read c r).measured = l.measured
      ∧ (l.read c r).lastGood = (r.position c.origin).or l.lastGood ∧ (l.read c r).warning = r.warningAfter l.warning
      ∧ (l.read c r).dwellBad = if r.position c.origin = none ∧ 16 ≤ l.dwell then l.dwellBad + 1 else l.dwellBad := by
  rw [read_searching h]
  refine ⟨rfl, Nat.min_eq_left hd, rfl, rfl, rfl, if_congr ?_ rfl rfl⟩
  rw [Option.isNone_iff_eq_none]
  exact ⟨fun ⟨hp, h16, _⟩ => ⟨hp, h16⟩, fun ⟨hp, h16⟩ => ⟨hp, h16, hd⟩⟩

theorem read_good {raw : Nat} {w : Bool} (h : l.state = .locked) (hw : l.window < 32) (hb : l.windowBad ≤ c.badThreshold) :
    l.read c (.good raw w) = { l with
      measured := some ((raw : Int) - c.origin), lastGood := some ((raw : Int) - c.origin), warning := w,
      window := l.window + 1 } := by
  simp only [Link.read, h]
  refine (if_neg (Nat.not_lt.mpr hb)).trans ?_
  simp only [Link.readLocked, ReadResult.position, ReadResult.warningAfter, newer, Option.isNone_some, Option.some_or,
    Bool.false_eq_true, if_false, Bool.false_and, Bool.or_false, Nat.min_eq_left hw]

theorem read_bad (h : l.state = .locked) (hr : ∀ raw w, r ≠ .good raw w) (hw : l.window < 32)
    (hb : l.windowBad < c.badThreshold) : l.read c r = { l with
      window := l.window + 1, windowBad := l.windowBad + 1, frameErrors := min (l.frameErrors + 1) 65535,
      alert := l.alert || l.alerts c } := by
  simp only [Link.read, h, position_none hr, warningAfter_bad hr]
  refine (if_neg (Nat.not_lt.mpr hb)).trans ?_
  simp only [Link.readLocked, newer, Option.isNone_none, Option.none_or, if_true, Bool.true_and, Nat.min_eq_left hw, satInc]
  rfl

theorem read_lost (h : l.state = .locked) (hr : ∀ raw w, r ≠ .good raw w) (hb : c.badThreshold ≤ l.windowBad) :
    l.read c r = { l with
      state := .lost, delay := c.floorDelay, pass := 0, dwell := 0, dwellBad := 0, window := 0, windowBad := 0,
      frameErrors := 0, alert := l.alert || l.alerts c } := by
  simp only [Link.read, h, position_none hr, warningAfter_bad hr]
  refine (if_pos (Nat.lt_succ_of_le hb)).trans ?_
  simp only [Link.lose, Link.readLocked, newer, Option.isNone_none, Option.none_or, Bool.true_and]
  rfl

theorem alerts_iff : l.alerts c = true ↔ c.alertThreshold ≠ 0 ∧ c.alertThreshold ≤ min (l.frameErrors + 1) 65535 := by
  rw [Link.alerts, Bool.and_eq_true, decide_eq_true_eq, decide_eq_true_eq]
  rfl

end

/-! ## The encoder read -/

section
variable {s : State} {i : AxisNo} {samples : List Bool} {r : ReadResult}

/-- The state once the link and the flags have taken a read (R84, R92). -/
def State.linkRead (s : State) (i : AxisNo) (r : ReadResult) : State :=
  setLink i (s.axes[i].link.read s.cfg.axes[i] r) { s with
    due := { s.due with reads := s.due.reads.set i false }
    svp := s.svp.raiseIf (s.axes[i].link.readAlerts s.cfg.axes[i] r) flagCounterAlert }

/-- A read ends with the link no longer LOCKED while its drive is on (R91). -/
def State.readLoses (s : State) (i : AxisNo) (r : ReadResult) : Bool :=
  s.axes[i].link.valid && !(s.axes[i].link.read s.cfg.axes[i] r).valid && s.axes[i].drive.enable

/-- The state once ENC-LOST has been taken and the travel tested, before the zones (R91, R110). -/
def State.readTested (s : State) (i : AxisNo) (r : ReadResult) : State :=
  testTravel i (giveCauseIf (s.readLoses i r) .encLost .cut (s.linkRead i r))

theorem encoderWork_eq (i : AxisNo) (samples : List Bool) (s : State) : encoderWork i samples s
    = linkZones i (s.readTested i (readSamples s.cfg.axes[i].positionBits samples)) := rfl

theorem readDue_iff : s.readDue i = true
    ↔ s.due.reads[i] = true ∧ s.cfg.axes[i].kind ≠ .unused ∧ s.axes[i].link.state ≠ .fault := by
  rw [State.readDue, Bool.and_eq_true, Bool.and_eq_true, used_iff, decide_eq_true_eq, and_assoc]

/-- With no dwell and no window to be ended, an encoder read is the read alone. -/
theorem encoderStep_read (hd : s.axes[i].link.dwell < 32) (hw : s.axes[i].link.window < 32) :
    encoderStep i samples s = eventIf (·.readDue i) (encoderWork i samples) s := by
  have hdwell : dwellStep i s = s := eventIf_notDue (Bool.eq_false_iff.mpr fun h => by
    have := (dwellDue_iff.mp (Bool.and_eq_true_iff.mp h).2).2
    omega)
  have hwindow : windowStep i s = s := eventIf_notDue (Bool.eq_false_iff.mpr fun h => by
    have := (windowDue_iff.mp (Bool.and_eq_true_iff.mp h).2).2.1
    omega)
  rw [encoderStep, hdwell, hwindow]

theorem failSeek_quiet (i : AxisNo) (reason : CalReason) (s : State) : (failSeek i reason s).quiet = s.quiet := by
  have haxis : (Vector.ofFn fun j : AxisNo => (failSeek i reason s).axes[j].quiet) = Vector.ofFn fun j => s.axes[j].quiet := by
    refine congrArg Vector.ofFn (funext fun j => ?_)
    simp only [failSeek, getElem_set_fin]
    split
    · next h =>
      obtain rfl := h
      split <;> rfl
    · rfl
  exact congrArg₂ (fun as p => { s.quiet with axes := as, svp := p }) haxis (Svp.raiseIf_quiet _ _ s.svp)

theorem testTravel_quiet (i : AxisNo) (s : State) : (testTravel i s).quiet = s.quiet := by
  unfold testTravel
  split
  · exact failSeek_quiet i _ s
  · rfl

theorem testTravel_kept (i : AxisNo) (s : State) : (testTravel i s).stop = s.stop ∧ (testTravel i s).zones = s.zones
    ∧ s.Raises (testTravel i s) ∧ s.SameAlert (testTravel i s) ∧ ∀ j : AxisNo, s.axes[j].Secures (testTravel i s).axes[j] := by
  unfold testTravel
  split
  · refine ⟨rfl, rfl, .raiseIf rfl, Svp.raiseIf_other (by decide) s.svp, fun j => ?_⟩
    simp only [failSeek, getElem_set_fin]
    split
    · next h =>
      obtain rfl := h
      split
      · exact ⟨id, id, id, id⟩
      · exact .refl _
    · exact .refl _
  · exact ⟨rfl, rfl, .refl s, rfl, fun j => .refl _⟩

theorem due_of_quiet {t : State} (h : t.quiet = s.quiet) : t.due = s.due := congrArg (·.due) h

theorem readTested_quiet : (s.readTested i r).quiet = (s.linkRead i r).quiet :=
  (testTravel_quiet i _).trans (giveCauseIf_quiet _ _ _ _)

/-- What the reactions to a read leave of the link, and of the work that is due. -/
theorem endEvent_read (i : AxisNo) (r : ReadResult) (s : State) :
    (endEvent (linkZones i (s.readTested i r))).axes[i].link = s.axes[i].link.read s.cfg.axes[i] r
      ∧ (endEvent (linkZones i (s.readTested i r))).due = { s.due with reads := s.due.reads.set i false } := by
  have hquiet : (endEvent (linkZones i (s.readTested i r))).quiet = (s.linkRead i r).quiet :=
    (endEvent_quiet _).trans ((linkZones_quiet i _).trans readTested_quiet)
  refine ⟨(link_of_quiet hquiet i).trans ?_, (due_of_quiet hquiet).trans rfl⟩
  rw [State.linkRead, setLink_axis]

end
end Sys2Proof.Machine
end

section
/-! PROOFS. What one encoder read leaves (R84, R91, R92, R110, R119): O51. -/

namespace Sys2Proof.Machine

theorem Svp.raiseIf_same {flag : Nat} (cond : Bool) (h : flag < 16) (p : Svp) :
    (p.raiseIf cond flag).flags.getLsbD flag = (p.flags.getLsbD flag || cond) := by
  cases cond with
  | false => exact (Bool.or_false _).symm
  | true => exact (Svp.raiseIf_set rfl h p).trans (Bool.or_true _).symm

section
variable {s : State} {i : AxisNo} {r : ReadResult} {x y : Int}

theorem linkRead_axis (s : State) (i : AxisNo) (r : ReadResult) :
    (s.linkRead i r).axes[i] = { s.axes[i] with link := s.axes[i].link.read s.cfg.axes[i] r } := by
  rw [State.linkRead, setLink_axis]

/-! ## The travel test (R110) -/

/-- A read that leaves the link LOCKED gives no cause ENC-LOST. -/
theorem readTested_locked (h : (s.axes[i].link.read s.cfg.axes[i] r).state = .locked) :
    s.readTested i r = testTravel i (s.linkRead i r) := by
  have hloses : s.readLoses i r = false := by
    rw [State.readLoses, Link.valid, Link.valid, decide_eq_true h, Bool.not_true, Bool.and_false, Bool.false_and]
  rw [State.readTested, hloses]
  rfl

theorem travelTooFar_iff (hm : (s.axes[i].link.read s.cfg.axes[i] r).measured = some x) (hseek : s.axes[i].seeking = true)
    (hstart : s.axes[i].lens.cal.seekStart = some y) :
    travelTooFar (s.linkRead i r).cfg.axes[i] (s.linkRead i r).axes[i] = true
      ↔ s.cfg.axes[i].maxSpan + s.cfg.axes[i].guardBand < (x - y).natAbs := by
  rw [linkRead_axis]
  show (s.axes[i].seeking && (match (s.axes[i].link.read s.cfg.axes[i] r).measured, s.axes[i].lens.cal.seekStart with
    | some m, some m0 => decide ((m - m0).natAbs > s.cfg.axes[i].maxSpan + s.cfg.axes[i].guardBand)
    | _, _ => false)) = true ↔ _
  rw [hm, hstart, hseek, Bool.true_and, decide_eq_true_eq]

/-- What the zones and the end of the event leave of a seek. -/
theorem linkZones_seekKept (i : AxisNo) (s : State) : SeekKept i s (endEvent (linkZones i s)) :=
  Reacts.seekKept ((linkZones_reacts i s).trans (endEvent_reacts _)) i

/-- A seek that has travelled too far ends with NO-END. -/
theorem read_travels (hl : (s.axes[i].link.read s.cfg.axes[i] r).state = .locked)
    (hm : (s.axes[i].link.read s.cfg.axes[i] r).measured = some x) (hseek : s.axes[i].seeking = true)
    (hstart : s.axes[i].lens.cal.seekStart = some y) (hfar : s.cfg.axes[i].maxSpan + s.cfg.axes[i].guardBand < (x - y).natAbs) :
    (endEvent (linkZones i (s.readTested i r))).svp.flags.getLsbD flagCalDone = true
      ∧ (endEvent (linkZones i (s.readTested i r))).axes[i].mpr.reseed = true
      ∧ (endEvent (linkZones i (s.readTested i r))).axes[i].lens = { s.axes[i].lens with
          cal := { s.axes[i].lens.cal with state := .calFault, reason := some .noEnd } } := by
  have htested : s.readTested i r = failSeek i .noEnd (s.linkRead i r) :=
    (readTested_locked hl).trans (if_pos ((travelTooFar_iff hm hseek hstart).mpr hfar))
  have hs : (s.linkRead i r).axes[i].seeking = true := by
    rw [linkRead_axis]
    exact hseek
  have haxis := failSeek_axis (reason := .noEnd) hs
  have hkept := linkZones_seekKept i (failSeek i .noEnd (s.linkRead i r))
  rw [htested]
  refine ⟨endEvent_flag (linkZones_raises i _ _ (failSeek_flag hs)), hkept.reseed ?_, (hkept.resting ?_).trans ?_⟩ <;> rw [haxis]
  · exact withLens_reseeds hs rfl
  · exact seeking_of_done rfl
  · rw [linkRead_axis]
    rfl

/-- A seek within the distance stays, unless a stop cancels it. -/
theorem read_stays (hl : (s.axes[i].link.read s.cfg.axes[i] r).state = .locked)
    (hm : (s.axes[i].link.read s.cfg.axes[i] r).measured = some x) (hseek : s.axes[i].seeking = true)
    (hstart : s.axes[i].lens.cal.seekStart = some y) (hnear : (x - y).natAbs ≤ s.cfg.axes[i].maxSpan + s.cfg.axes[i].guardBand)
    (hstop : (endEvent (linkZones i (s.readTested i r))).stop = s.stop) :
    (endEvent (linkZones i (s.readTested i r))).axes[i].lens = s.axes[i].lens := by
  have htested : s.readTested i r = s.linkRead i r :=
    (readTested_locked hl).trans (if_neg fun h => Nat.not_lt.mpr hnear ((travelTooFar_iff hm hseek hstart).mp h))
  rw [htested] at hstop ⊢
  refine ((linkZones_seekKept i (s.linkRead i r)).of_stop (hstop.trans rfl)).trans ?_
  rw [linkRead_axis]

/-! ## The zones that guard the axis (R119, R120) -/

theorem ZoneState.test_active {c : ZoneCfg} {z : ZoneState} (h : z.active = true) (x : Int) :
    z.test c (some x) = { z with breached := breachTest c x } := by
  simp only [ZoneState.test, h, if_true]

theorem linkZones_breach {z : ZoneNo} (hpos : s.axes[i].link.validPosition = some x) (huse : s.cfg.zones[z].inUse = true)
    (haxis : s.cfg.zones[z].axis = i) (hactive : s.zones[z].active = true) (hz : s.zonesOfAxis s.cfg.own i z = false) :
    (linkZones i s).zones[z] = { s.zones[z] with breached := breachTest s.cfg.zones[z] x }
      ∧ (breachTest s.cfg.zones[z] x = true → s.zones[z].breached = false → (linkZones i s).stoppedBy .zoneBreach .brake) := by
  obtain ⟨u, hu⟩ : ∃ u, u = reformZones (s.zonesOfAxis s.cfg.own i) s := ⟨_, rfl⟩
  have hquiet : u.quiet = s.quiet := hu ▸ setZones_quiet _ s
  have hzone : u.zones[z] = s.zones[z] := by
    rw [hu, reformZones_zone, hz]
    rfl
  have hcfg : u.cfg = s.cfg := cfg_of_quiet hquiet
  have hcond : (u.cfg.zones[z].inUse && decide (u.cfg.zones[z].axis = i)) = true := by
    rw [hcfg, huse, decide_eq_true haxis]
    rfl
  obtain ⟨new, hnew⟩ : ∃ new : Vector ZoneState 8, new = Vector.ofFn fun z : ZoneNo =>
      if u.cfg.zones[z].inUse && decide (u.cfg.zones[z].axis = i) then
        u.zones[z].test u.cfg.zones[z] u.axes[i].link.validPosition else u.zones[z] := ⟨_, rfl⟩
  have htest : new[z] = { s.zones[z] with breached := breachTest s.cfg.zones[z] x } := by
    rw [hnew, getElem_ofFn_fin, if_pos hcond, link_of_quiet hquiet i, hpos, hzone, hcfg, ZoneState.test_active hactive]
  have heq : linkZones i s = setZones new u := by
    rw [hnew, hu]
    rfl
  rw [heq, setZones_zone, htest]
  refine ⟨rfl, fun hb hold => setZones_stoppedBy (z := z) ?_ ?_⟩
  · rw [htest]
    exact hb
  · rw [hzone]
    exact hold

theorem read_breach {z : ZoneNo} (hop : s.operating = true) (hl : (s.axes[i].link.read s.cfg.axes[i] r).state = .locked)
    (hm : (s.axes[i].link.read s.cfg.axes[i] r).measured = some x) (huse : s.cfg.zones[z].inUse = true)
    (haxis : s.cfg.zones[z].axis = i) (hactive : s.zones[z].active = true)
    (hqual : ∀ q, s.cfg.zones[z].qualifier = some q → ¬ (q.station = s.cfg.own ∧ q.axis = i))
    (hword : s.zonesOfOwnWord z = false) :
    (endEvent (linkZones i (s.readTested i r))).zones[z] = { s.zones[z] with breached := breachTest s.cfg.zones[z] x }
      ∧ (breachTest s.cfg.zones[z] x = true → s.zones[z].breached = false →
        (endEvent (linkZones i (s.readTested i r))).stoppedBy .zoneBreach .brake) := by
  obtain ⟨w, hw⟩ : ∃ w, w = s.readTested i r := ⟨_, rfl⟩
  have hquiet : w.quiet = (s.linkRead i r).quiet := hw ▸ readTested_quiet
  have hcfg : w.cfg = s.cfg := (cfg_of_quiet hquiet).trans rfl
  have hzones : w.zones = s.zones := by
    rw [hw, readTested_locked hl]
    exact (testTravel_kept i _).2.1
  have hpos : w.axes[i].link.validPosition = some x := by
    rw [link_of_quiet hquiet i, linkRead_axis]
    exact (if_pos hl).trans hm
  have hz : w.zonesOfAxis w.cfg.own i z = false := by
    rw [State.zonesOfAxis, hcfg]
    refine decide_eq_false fun h => ?_
    obtain ⟨q, hq, hqi⟩ := Option.map_eq_some_iff.mp h
    exact hqual q hq ⟨congrArg Prod.fst hqi, congrArg Prod.snd hqi⟩
  have hread := linkZones_breach (s := w) (z := z) hpos (by rw [hcfg]; exact huse) (by rw [hcfg]; exact haxis)
    (by rw [hzones]; exact hactive) hz
  rw [hcfg, hzones] at hread
  have hopL : (linkZones i w).operating = true :=
    (operating_of_quiet ((linkZones_quiet i w).trans hquiet)).trans hop
  have hwordL : (linkZones i w).zonesOfOwnWord z = false :=
    (zonesOfOwnWord_congr ((cfg_of_quiet (linkZones_quiet i w)).trans hcfg) z).trans hword
  rw [← hw]
  exact ⟨(endEvent_zone hopL hwordL).trans hread.1, fun hb hold => endEvent_stoppedBy (hread.2 hb hold)⟩

/-! ## The flags of a read (R82, R92) -/

theorem readTested_sameAlert (s : State) (i : AxisNo) (r : ReadResult) :
    (s.linkRead i r).SameAlert (endEvent (linkZones i (s.readTested i r))) :=
  ((giveCauseIf_reacts _ _ _ _).sameAlert.trans (testTravel_kept i _).2.2.2.1).trans
    (Reacts.sameAlert ((linkZones_reacts i (s.readTested i r)).trans (endEvent_reacts _)))

theorem read_alert (s : State) (i : AxisNo) (r : ReadResult) :
    (endEvent (linkZones i (s.readTested i r))).svp.flags.getLsbD flagCounterAlert
      = (s.svp.flags.getLsbD flagCounterAlert || s.axes[i].link.readAlerts s.cfg.axes[i] r) :=
  Eq.trans (readTested_sameAlert s i r)
    ((Svp.raiseIf_other (k := flagCounterAlert) (by decide) _).trans (Svp.raiseIf_same _ (by decide) s.svp))

theorem readAlerts_bad (h : s.axes[i].link.state = .locked) (hr : ∀ raw w, r ≠ .good raw w) :
    s.axes[i].link.readAlerts s.cfg.axes[i] r = s.axes[i].link.alerts s.cfg.axes[i] := by
  rw [Link.readAlerts, Link.valid, decide_eq_true h, position_none hr]
  rfl

/-! ## A link lost (R88, R91) -/

theorem readTested_raises (s : State) (i : AxisNo) (r : ReadResult) :
    (s.linkRead i r).Raises (endEvent (linkZones i (s.readTested i r))) := fun k hk =>
  endEvent_flag (linkZones_raises i _ k ((testTravel_kept i _).2.2.1 k (giveCauseIf_raises _ _ _ _ k hk)))

theorem read_encChange (h : (s.axes[i].link.read s.cfg.axes[i] r).state ≠ s.axes[i].link.state) :
    (endEvent (linkZones i (s.readTested i r))).svp.flags.getLsbD flagEncChange = true :=
  readTested_raises s i r _ (setLink_flag (.inl h))

theorem linkZones_rests (i : AxisNo) (h : s.halted) : Rests s (linkZones i s) := by
  obtain ⟨u, hu⟩ : ∃ u, u = reformZones (s.zonesOfAxis s.cfg.own i) s := ⟨_, rfl⟩
  have hreform : Rests s u := by
    rw [hu, reformZones]
    exact setZones_rests _ h
  rw [linkZones, ← hu, testZones]
  exact hreform.trans (setZones_rests _ hreform.grows.halted)

theorem testTravel_stoppedBy {k : Cause} {c : Category} (i : AxisNo) (h : s.stoppedBy k c) :
    (testTravel i s).stoppedBy k c := by
  unfold State.stoppedBy State.halted at h ⊢
  rw [(testTravel_kept i s).1]
  exact h

/-- The cause ENC-LOST of a link lost with the drive on. -/
theorem read_encLost (h : s.readLoses i r = true) :
    (endEvent (linkZones i (s.readTested i r))).stoppedBy .encLost .cut
      ∧ (s.stop.category ≠ some .cut → (endEvent (linkZones i (s.readTested i r))).secured = true) := by
  obtain ⟨v, hv⟩ : ∃ v, v = takeCause true (s.linkRead i r).cfg.own .encLost .cut (s.linkRead i r) := ⟨_, rfl⟩
  have htested : s.readTested i r = testTravel i v := by
    rw [State.readTested, h, hv]
    rfl
  have hcut : s.stop.category ≠ some .cut → v.secured = true := fun hcut =>
    hv ▸ takeCause_cut_secured (s := s.linkRead i r) _ _ _ hcut
  have hby : (testTravel i v).stoppedBy .encLost .cut := testTravel_stoppedBy i (hv ▸ takeCause_stoppedBy _ _ _ _)
  have hsecures := (testTravel_kept i v).2.2.2.2
  rw [htested]
  obtain ⟨u, hu⟩ : ∃ u, u = testTravel i v := ⟨_, rfl⟩
  rw [← hu] at hby hsecures ⊢
  have hzones := linkZones_rests i hby.2.1
  have hrests := hzones.trans (endEvent_rests hzones.grows.halted)
  exact ⟨hby.grows fun _ => hrests.grows, fun hc =>
    secured_of_secures hrests.secures (secured_of_secures hsecures (hcut hc))⟩

theorem readLoses_lost (h : s.axes[i].link.state = .locked)
    (hlost : (s.axes[i].link.read s.cfg.axes[i] r).state = .lost) (hon : s.axes[i].drive.enable = true) :
    s.readLoses i r = true := by
  rw [State.readLoses, Link.valid, Link.valid, decide_eq_true h, decide_eq_false (by rw [hlost]; exact nofun), hon]
  rfl

end
end Sys2Proof.Machine

open Sys2Proof Sys2Proof.Machine

/-- Settles O51: the read, the cause of a lost link, the travel test, the zones and the end of the event in turn, each through
what it leaves of the link, the seek, the zones and the flags. -/
theorem readsMoveTheLink : Obligations.ReadsMoveTheLink := by
  intro i samples r l s h hk hl hd hw hr
  subst hl hr
  refine ⟨fun hno => ?_, fun hfault hdue alerts halerts => ?_⟩
  · refine congrArg Host.Outcome.next ((encoderStep_read hd hw).trans (eventIf_notDue (Bool.eq_false_iff.mpr fun hread => ?_)))
    obtain ⟨hdue, -, hfault⟩ := readDue_iff.mp hread
    exact hno.elim hfault fun hoff => nomatch hoff.symm.trans hdue
  obtain rfl : alerts = s.axes[i].link.alerts s.cfg.axes[i] := Bool.eq_iff_iff.mpr (halerts.trans alerts_iff.symm)
  obtain ⟨r, hr⟩ : ∃ r, r = readSamples s.cfg.axes[i].positionBits samples := ⟨_, rfl⟩
  have hexec : encoderStep i samples s = endEvent (linkZones i (s.readTested i r)) := by
    rw [encoderStep_read hd hw, eventIf_due h.1 (readDue_iff.mpr ⟨hdue, hk, hfault⟩), encoderWork_eq, hr]
  obtain ⟨hlink, hdueT⟩ := endEvent_read i r s
  obtain ⟨t, ht⟩ : ∃ t, t = endEvent (linkZones i (s.readTested i r)) := ⟨_, rfl⟩
  rw [← ht] at hexec hlink hdueT
  refine ⟨t, congrArg Host.Outcome.next hexec, hdueT, fun hsearch => ?_, fun hlocked => ⟨?_, ?_⟩⟩
  · rw [← hr, hlink]
    obtain ⟨hstate, hdwell, hmeasured, hlast, hwarning, hbad⟩ :=
      read_searching_fields (c := s.cfg.axes[i]) (r := r) hsearch hd
    refine ⟨hstate, hdwell, hmeasured, fun raw w hgood => ?_, fun hbadr => ?_⟩
    · subst hgood
      exact ⟨hlast, hbad.trans (if_neg fun hp => nomatch hp.1), hwarning⟩
    · rw [position_none hbadr] at hlast hbad
      exact ⟨hlast, hwarning.trans (warningAfter_bad hbadr _), hbad.trans (if_congr (and_iff_right rfl) rfl rfl)⟩
  · intro raw w hgood hb x hx
    have hread := read_good (raw := raw) (w := w) (c := s.cfg.axes[i]) hlocked hw hb
    rw [← hr] at hgood
    rw [← hgood, ← hx] at hread
    have hstate : (s.axes[i].link.read s.cfg.axes[i] r).state = .locked := by rw [hread]; exact hlocked
    have hm : (s.axes[i].link.read s.cfg.axes[i] r).measured = some x := by rw [hread]
    refine ⟨hlink.trans hread, fun y hseek hstart => ⟨fun hfar => ?_, fun hnear hstop => ?_⟩,
      fun z c hc huse haxis hactive hqual hword => ?_⟩
    · have htravels := read_travels hstate hm hseek hstart hfar
      rw [← ht] at htravels
      exact htravels
    · rw [ht] at hstop ⊢
      exact read_stays hstate hm hseek hstart hnear hstop
    subst hc
    have hbreach := read_breach h.1 hstate hm huse haxis hactive hqual hword
    rw [← ht] at hbreach
    refine ⟨_, hbreach.1, breachTest_iff (c := s.cfg.zones[z]) x, fun hbr hold => ?_⟩
    obtain ⟨hmark, hhalted, -⟩ := hbreach.2 hbr hold
    exact ⟨hmark, hhalted⟩
  · intro hbadr
    rw [← hr] at hbadr
    refine ⟨?_, fun hb => hlink.trans (read_bad hlocked hbadr hw hb), fun hb => ?_⟩
    · rw [ht, read_alert, readAlerts_bad hlocked hbadr]
    have hread := read_lost (c := s.cfg.axes[i]) hlocked hbadr hb
    have hchange := read_encChange (s := s) (i := i) (r := r) (by rw [hread, hlocked]; exact nofun)
    rw [← ht] at hchange
    refine ⟨hlink.trans hread, hchange, fun hon => ?_⟩
    have hlost := read_encLost (readLoses_lost hlocked (by rw [hread]) hon)
    rw [← ht] at hlost
    obtain ⟨⟨hmark, -, hrank⟩, hsecured⟩ := hlost
    exact ⟨hmark, category_cut hrank, hsecured⟩
end

section
/-! PROOFS. The parts of a control period boundary, and the sampling of the input lines (R39 to R42): O22. -/

namespace Sys2Proof.Machine

/-! ## What reactions leave -/

section
variable {s t : State}

/-- A reaction that does not leave the station stopped has taken no cause. -/
theorem Reacts.unstopped (h : Reacts s t) (ht : ¬ t.halted) : Plain s t := by
  induction h with
  | refl => exact .refl _
  | tail _ hstep ih =>
    rcases hstep with hplain | ⟨loc, o, k, c, rfl⟩
    · exact (ih fun hu => ht (by rw [State.halted, hplain.stop]; exact hu)).trans hplain
    · exact absurd (takeCause_stops loc o k c _).1 ht

theorem Reacts.cfg (h : Reacts s t) : t.cfg = s.cfg := by
  induction h with
  | refl => rfl
  | tail _ hstep ih =>
    rcases hstep with hplain | ⟨loc, o, k, c, rfl⟩
    · exact hplain.cfg.trans ih
    · exact (cfg_of_quiet (takeCause_quiet loc o k c _)).trans ih

theorem Reacts.grows (h : Reacts s t) (hs : s.halted) : StopGrows s.stop t.stop := by
  induction h with
  | refl => exact .refl hs
  | tail _ hstep ih =>
    rcases hstep with hplain | ⟨loc, o, k, c, rfl⟩
    · rw [hplain.stop]
      exact ih
    · exact ih.trans (takeCause_grows loc o k c ih.halted)

/-- What a stop that begins and the sequence of a category keep of an axis, a reaction keeps. -/
theorem Reacts.axis_kept {P : AxisState → Prop} {i : AxisNo}
    (hplain : ∀ a (d : Dsl) (cap : Nat), P a → P { a with dsl := d, cap := cap })
    (hbegin : ∀ a c, P a → P (a.stopBegun c s.cfg.axes[i]))
    (hsequence : ∀ a c, P a → P (a.sequence (some c) s.cfg.axes[i])) (h : Reacts s t) (hs : P s.axes[i]) : P t.axes[i] := by
  induction h with
  | refl => exact hs
  | tail hrun hstep ih =>
    have hcfg := Reacts.cfg hrun
    rcases hstep with hstep | ⟨loc, o, k, c, rfl⟩
    · obtain ⟨d, cap, hi⟩ := hstep.axes i
      rw [hi]
      exact hplain _ d cap ih
    · rcases takeCause_cases loc o k c _ with ⟨-, heq⟩ | ⟨-, -, heq⟩ | ⟨-, -, heq⟩ <;> rw [heq]
      · rw [beginStop_axis, hcfg]
        exact hbegin _ c ih
      · rw [escalateStop_axis, hcfg]
        exact hsequence _ c ih
      · exact ih

end

/-! ## The first part of a boundary: the clock, the samples, the take's step -/

section
variable {s t : State} {levels : Word16} {k : LineNo}

theorem lines_of_quiet (h : t.quiet = s.quiet) : t.lines = s.lines := congrArg (·.lines) h

/-- The state at the start of a control period, with every line sampled that is no ESTOP line (R39, R186). -/
def State.sampledAt (s : State) (levels : Word16) : State :=
  { advanceTime s with lines := Vector.ofFn fun k => s.lines[k].sample s.cfg.lines[k] (levels.getLsbD k.val) }

theorem periodStart_eq (levels : Word16) (s : State) :
    periodStart levels s = endEvent (takeStep (followEstops levels (s.sampledAt levels))) := rfl

theorem followEstop_quiet (k : LineNo) (raw : Bool) (s : State) : (followEstop k raw s).quiet
    = { s.quiet with lines := s.lines.set k (s.lines[k].followRaw s.cfg.lines[k] raw) } := giveCauseIf_quiet _ _ _ _

theorem followEstop_reacts (k : LineNo) (raw : Bool) (s : State) : Reacts s (followEstop k raw s) :=
  (Plain.of_axes (s := s) (t := { s with lines := s.lines.set k (s.lines[k].followRaw s.cfg.lines[k] raw) })
    rfl rfl rfl rfl rfl).reacts.trans (giveCauseIf_reacts _ _ _ _)

theorem followEstops_reacts (levels : Word16) (s : State) : Reacts s (followEstops levels s) := by
  unfold followEstops
  generalize hcfg : s.cfg = cfg
  clear hcfg
  induction allSixteen generalizing s with
  | nil => exact .refl
  | cons x xs ih =>
    refine Relation.ReflTransGen.trans ?_ (ih _)
    beta_reduce
    split
    · exact followEstop_reacts x _ s
    · exact .refl

/-- The ESTOP lines change lines alone, beside the reactions to their edges. -/
theorem followEstops_quiet (levels : Word16) (s : State) :
    ∃ ls : Vector LineState 16, (followEstops levels s).quiet = { s.quiet with lines := ls } := by
  unfold followEstops
  generalize hcfg : s.cfg = cfg
  clear hcfg
  induction allSixteen generalizing s with
  | nil => exact ⟨_, rfl⟩
  | cons x xs ih =>
    obtain ⟨ls, hls⟩ := ih (if cfg.lines[x].function = .estop then followEstop x (levels.getLsbD x.val) s else s)
    refine ⟨ls, hls.trans ?_⟩
    split
    · rw [followEstop_quiet]
    · rfl

theorem followEstop_line {j : LineNo} (h : j ≠ k) (raw : Bool) (s : State) : (followEstop j raw s).lines[k] = s.lines[k] := by
  have hlines : (followEstop j raw s).lines = s.lines.set j (s.lines[j].followRaw s.cfg.lines[j] raw) :=
    lines_of_quiet (giveCauseIf_quiet ..)
  rw [hlines, getElem_set_fin, if_neg h]

theorem followEstops_line (levels : Word16) (hk : s.cfg.lines[k].function ≠ .estop) :
    (followEstops levels s).lines[k] = s.lines[k] := by
  unfold followEstops
  generalize hcfg : s.cfg = cfg at hk ⊢
  clear hcfg
  induction allSixteen generalizing s with
  | nil => rfl
  | cons x xs ih =>
    refine ih.trans ?_
    beta_reduce
    split
    · next hx => exact followEstop_line (fun h => hk (by rw [← h]; exact hx)) _ s
    · rfl

theorem takeStep_frame (s : State) : (takeStep s).lines = s.lines ∧ (takeStep s).time = s.time ∧ (takeStep s).due = s.due
    ∧ (takeStep s).cfg = s.cfg ∧ (takeStep s).stop = s.stop := by
  unfold takeStep
  split
  · split
    · unfold playStep
      dsimp only
      split
      · split
        · exact ⟨rfl, rfl, rfl, rfl, rfl⟩
        · exact ⟨rfl, rfl, rfl, rfl, rfl⟩
      · exact ⟨rfl, rfl, rfl, rfl, rfl⟩
    · exact ⟨rfl, rfl, rfl, rfl, rfl⟩
    · exact ⟨rfl, rfl, rfl, rfl, rfl⟩
  · exact ⟨rfl, rfl, rfl, rfl, rfl⟩

theorem periodStart_line (levels : Word16) (hk : s.cfg.lines[k].function ≠ .estop) : (periodStart levels s).lines[k]
    = s.lines[k].sample s.cfg.lines[k] (levels.getLsbD k.val) := by
  rw [periodStart_eq, lines_of_quiet (endEvent_quiet _), (takeStep_frame _).1,
    followEstops_line (s := s.sampledAt levels) levels hk]
  exact getElem_ofFn_fin ..

/-! ## The second part: the computations and what follows from them -/

theorem foldl_giveCauseIf_quiet {α : Type} (b : α → Bool) (k : Cause) (c : Category) (xs : List α) (s : State) :
    (xs.foldl (fun t x => giveCauseIf (b x) k c t) s).quiet = s.quiet := by
  induction xs generalizing s with
  | nil => rfl
  | cons x xs ih => exact (ih _).trans (giveCauseIf_quiet _ _ _ _)

theorem giveFollow_quiet (s : State) : (giveFollow s).quiet = s.quiet :=
  foldl_giveCauseIf_quiet (fun i : AxisNo => s.used i && followFault s.cfg.axes[i] s.axes[i]) .follow .cut allAxes s

theorem giveFollow_reacts (s : State) : Reacts s (giveFollow s) :=
  foldl_giveCauseIf_reacts (fun i : AxisNo => s.used i && followFault s.cfg.axes[i] s.axes[i]) .follow .cut allAxes s

theorem judgePreroll_quiet (s : State) :
    (judgePreroll s).quiet = { s.quiet with tkq := (judgePreroll s).tkq.quiet } := by
  unfold judgePreroll
  split
  · exact (setTake_quiet _ s).trans rfl
  · rfl

/-- The quiet part that the computations leave: what follows from them moves marks of the take alone. -/
theorem periodCompute_quiet (s : State) : ∃ q : Tkq, (periodCompute s).quiet = { (computeAxes s).quiet with tkq := q } := by
  refine ⟨(judgePreroll (giveFollow (computeAxes s))).tkq.quiet, (endEvent_quiet _).trans ((judgeStopped_quiet _).trans ((applySequence_quiet _).trans
    ((judgePreroll_quiet _).trans ?_)))⟩
  rw [giveFollow_quiet]

theorem periodCompute_lines (s : State) : (periodCompute s).lines = s.lines := by
  obtain ⟨q, h⟩ := periodCompute_quiet s
  exact (congrArg (·.lines) h).trans rfl

/-! ## The work of the period that ends -/

/-- The scope of the work of a period. -/
def Scope.within : Scope := { frames := False, resumes := False, loads := False, starts := False }

/-- The work of a period moves no line whose edge is not due. -/
theorem Run.line_kept (h : Run .within s t) (hk : s.lines[k].hold ≤ s.cfg.lines[k].qualTime) :
    t.lines[k] = s.lines[k] ∧ t.cfg = s.cfg := by
  induction h with
  | refl => exact ⟨rfl, rfl⟩
  | @tail u _ _ hstep ih =>
    obtain ⟨hline, hcfg⟩ := ih
    cases hstep with
    | cause loc o c d =>
      have hq := takeCause_quiet loc o c d u
      exact ⟨by rw [lines_of_quiet hq]; exact hline, (cfg_of_quiet hq).trans hcfg⟩
    | edge j due =>
      refine ⟨?_, hcfg⟩
      have hdue := of_decide_eq_true (Bool.and_eq_true_iff.mp due).2
      have hne : j ≠ k := fun h => by
        subst h
        rw [hline, hcfg] at hdue
        omega
      exact ((getElem_set_fin ..).trans (if_neg hne)).trans hline
    | notes _ _ scope => exact scope.elim
    | lines _ scope => exact scope.elim
    | motion _ scope => exact scope.elim
    | line _ scope => exact scope.elim
    | clock _ _ scope => exact scope.elim
    | blocked _ scope => exact scope.elim
    | accept scope => exact scope.elim
    | held _ scope => exact scope.elim
    | loads _ scope => exact scope.elim
    | operation _ scope => exact scope.elim
    | start scope => exact scope.elim
    | _ => exact ⟨hline, hcfg⟩

theorem exec_boundary (hop : s.operating = true) (levels : Word16) : exec (.controlPeriodBoundary levels) s
    = .next (periodCompute (periodStart levels (closePeriod s))) := congrArg Host.Outcome.next (if_pos hop)

/-- A line after a boundary, where its edge was not still due (R39). -/
theorem boundary_line (hop : s.operating = true) (hf : s.cfg.lines[k].function ≠ .estop)
    (hk : s.lines[k].hold ≤ s.cfg.lines[k].qualTime) (h : exec (.controlPeriodBoundary levels) s = .next t) :
    t.lines[k] = s.lines[k].sample s.cfg.lines[k] (levels.getLsbD k.val) := by
  obtain ⟨hline, hcfg⟩ := (closePeriod_run (l := .within) s).line_kept hk
  obtain rfl := Host.Outcome.next.inj ((exec_boundary hop levels).symm.trans h)
  rw [periodCompute_lines, periodStart_line levels (by rw [hcfg]; exact hf), hline, hcfg]

/-! ## The sample and the edge of a line -/

theorem buttonCue_lines (kind : CueKind) (number mask : Byte) (s : State) : (buttonCue kind number mask s).lines = s.lines := by
  unfold buttonCue
  split <;> rfl

theorem lineActs_lines (f : LineFunction) (g : GroupNo) (first active : Bool) (s : State) :
    (lineActs f g first active s).lines = s.lines := by
  have harmed (kind : CueKind) : (armedButton kind s).lines = s.lines := by
    unfold armedButton
    split
    · rfl
    · exact buttonCue_lines _ _ _ s
  have hlimit (i : AxisNo) (highEnd : Bool) : (limitEdge i highEnd s).lines = s.lines := by
    unfold limitEdge
    split
    · rfl
    · exact lines_of_quiet (giveCause_quiet _ _ s)
  cases f with
  | crewTrip => exact (lines_of_quiet (giveCauseIf_quiet ..)).trans rfl
  | driveFault i => exact lines_of_quiet (giveCauseIf_quiet _ _ _ s)
  | stopButton => exact lines_of_quiet (giveCauseIf_quiet _ _ _ s)
  | limit i highEnd => exact (apply_ite State.lines _ _ _).trans (by rw [hlimit, ite_self])
  | goButton => exact (apply_ite State.lines _ _ _).trans (by rw [harmed, ite_self])
  | haltButton => exact (apply_ite State.lines _ _ _).trans (by rw [harmed, ite_self])
  | resumeButton => exact (apply_ite State.lines _ _ _).trans (by rw [buttonCue_lines, ite_self])
  | _ => rfl

theorem sample_first {c : LineCfg} {l : LineState} (hf : c.function ≠ .estop) (h : l.qualified = none) (raw : Bool) :
    l.sample c raw = { l with raw := raw, hold := firstHold c raw l } := by
  simp only [LineState.sample, if_neg hf, h]

theorem sample_qualified {c : LineCfg} {l : LineState} {q : Bool} (hf : c.function ≠ .estop) (h : l.qualified = some q)
    (raw : Bool) : l.sample c raw = if raw = q then { l with raw := raw, hold := 0 }
      else if c.function = .enable ∧ raw ≠ c.activeHigh then { l with raw := raw, qualified := some raw, hold := 0, latch := true }
      else { l with raw := raw, hold := min (l.hold + 1) (c.qualTime + 1) } := by
  simp only [LineState.sample, if_neg hf, h]

theorem sample_raw {c : LineCfg} {l : LineState} (hf : c.function ≠ .estop) (raw : Bool) : (l.sample c raw).raw = raw := by
  rcases h : l.qualified with _ | q
  · rw [sample_first hf h]
  · rw [sample_qualified hf h]
    split
    · rfl
    · split <;> rfl

end

theorem qualify_eq (c : LineCfg) (l : LineState) : l.qualify c = ⟨l.raw, some l.raw, 0,
    l.latch || l.qualified.isSome || l.raw == c.activeHigh⟩ := by
  rw [LineState.qualify, Bool.beq_eq_decide_eq]

end Sys2Proof.Machine

open Sys2Proof Sys2Proof.Machine

/-- Settles O22: a due edge through what its function leaves of the lines; a sample through the parts of the boundary, of which
the sampling alone moves a line whose edge is not due. -/
theorem linesQualify : Obligations.LinesQualify := by
  refine ⟨fun k s hop hf => ⟨fun hdue => ⟨_, exec_edge hop hf hdue, ?_⟩, fun hdue => ?_⟩, fun levels k s t hop hf hk h => ?_⟩
  · rw [lines_of_quiet (endEvent_quiet _), State.edgeActed, lineActs_lines, ← qualify_eq]
    rfl
  · refine congrArg Host.Outcome.next (eventIf_notDue ?_)
    rw [State.edgeDue, decide_eq_false hdue, Bool.and_false]
  rw [boundary_line hop hf hk h]
  refine ⟨sample_raw hf _, fun q hq => ?_, fun hq => ?_⟩
  · rw [sample_qualified hf hq]
    refine ⟨fun hraw => ?_, fun hraw hen hact => ?_, fun hraw hno => ?_⟩
    · rw [if_pos hraw]
      exact ⟨rfl, hq⟩
    · rw [if_neg hraw, if_pos ⟨hen, fun h => hraw (h.trans hact.symm)⟩]
      exact ⟨rfl, rfl, rfl⟩
    · have hother : ¬ (s.cfg.lines[k].function = .enable ∧ levels.getLsbD k.val ≠ s.cfg.lines[k].activeHigh) := fun ⟨hen, hact⟩ =>
        hno.elim (fun h => h hen) fun h => by
          revert hraw hact h
          cases levels.getLsbD k.val <;> cases q <;> cases s.cfg.lines[k].activeHigh <;> simp
      rw [if_neg hraw, if_neg hother]
      exact ⟨Nat.min_eq_left (Nat.succ_le_succ hk), hq⟩
  · rw [sample_first hf hq]
    refine ⟨hq, rfl, fun h => if_pos h, fun h0 hraw => ?_⟩
    exact (if_neg (by rintro (h | h); exacts [h0 h, h hraw])).trans (Nat.min_eq_left (Nat.succ_le_succ hk))
end

section
/-! PROOFS. What each part of a control period boundary leaves of the axes, the stop record and the Line Interface. -/

namespace Sys2Proof.Machine

/-! ## Seeks in a reaction -/

section
variable {s t : State} {i : AxisNo}

/-- A lens axis that still seeks after a reaction has its lens record as it was. -/
theorem Reacts.lens_of_seeking (h : Reacts s t) (hseek : t.axes[i].seeking = true) : t.axes[i].lens = s.axes[i].lens := by
  induction h with
  | refl => rfl
  | @tail u v _ hstep ih =>
    have hlens : v.axes[i].lens = u.axes[i].lens := by
      rcases hstep with hplain | ⟨loc, o, k, c, rfl⟩
      · exact hplain.lens i
      · rcases takeCause_cases loc o k c u with ⟨-, heq⟩ | ⟨-, -, heq⟩ | ⟨-, -, heq⟩
        · have hcancel : (takeCause loc o k c u).axes[i].lens = u.axes[i].lens.cancel := by
            rw [heq, beginStop_axis, AxisState.stopBegun_lens]
          refine hcancel.trans (Lens.cancel_resting (Bool.eq_false_iff.mpr fun hu => ?_))
          rw [Lens.cancel_seeking hu] at hcancel
          rw [AxisState.seeking, hcancel] at hseek
          exact Bool.false_ne_true hseek
        · rw [heq, escalateStop_axis, (AxisState.sequence_lens _ _ _).1]
        · rw [heq]
    exact hlens.trans (ih ((seeking_of_lens hlens).symm.trans hseek))

end

/-! ## The work of the period that ends -/

section
variable {s t : State} {i : AxisNo}

/-- What the work of a period leaves of an axis: its commanded position and velocity and its freshness timer. -/
theorem Run.axis_kept (h : Run .within s t) : t.axes[i].mpr.p = s.axes[i].mpr.p ∧ t.axes[i].mpr.v = s.axes[i].mpr.v
    ∧ t.axes[i].dsl.fresh = s.axes[i].dsl.fresh := by
  induction h with
  | refl => exact ⟨rfl, rfl, rfl⟩
  | @tail u _ _ hstep ih =>
    obtain ⟨hp, hv, hfresh⟩ := ih
    cases hstep with
    | axes as steady => exact ⟨(steady i).position.trans hp, (steady i).velocity.trans hv, (steady i).fresh.trans hfresh⟩
    | owners loaded =>
      have hquiet := congrArg (·.dsl.fresh) (axisQuiet_of_quiet (formOwners_quiet u) i)
      rw [formOwners_axis] at hquiet ⊢
      exact ⟨hp, hv, hquiet.trans hfresh⟩
    | cause loc o k c =>
      have hsteady := takeCause_steady loc o k c u i
      exact ⟨hsteady.position.trans hp, hsteady.velocity.trans hv, hsteady.fresh.trans hfresh⟩
    | release as st d releases =>
      obtain ⟨hmpr, -, hdsl, -⟩ := releases.steady i
      exact ⟨(congrArg Mpr.p hmpr).trans hp, (congrArg Mpr.v hmpr).trans hv, (congrArg Dsl.fresh hdsl).trans hfresh⟩
    | motion _ scope => exact scope.elim
    | notes _ _ scope => exact scope.elim
    | lines _ scope => exact scope.elim
    | line _ scope => exact scope.elim
    | clock _ _ scope => exact scope.elim
    | blocked _ scope => exact scope.elim
    | accept scope => exact scope.elim
    | held _ scope => exact scope.elim
    | loads _ scope => exact scope.elim
    | operation _ scope => exact scope.elim
    | start scope => exact scope.elim
    | _ => exact ⟨hp, hv, hfresh⟩

/-- What the work of a period leaves of the station and of the timers of the Line Interface; a probe that falls due alone
restarts its timer. -/
theorem Run.line_timers (h : Run .within s t) : t.time = s.time ∧ t.cfg = s.cfg ∧ t.lif.mute = s.lif.mute
    ∧ t.lif.statusAge = s.lif.statusAge ∧ (s.lif.status.isSome = true → t.lif.status.isSome = true)
    ∧ (s.lif.mute ≠ .lineMute ∨ s.lif.probeTimer < s.cfg.liveness → t.lif.probeTimer = s.lif.probeTimer) := by
  induction h with
  | refl => exact ⟨rfl, rfl, rfl, rfl, id, fun _ => rfl⟩
  | @tail u _ _ hstep ih =>
    obtain ⟨htime, hcfg, hmute, hage, hstatus, hprobe⟩ := ih
    cases hstep with
    | queue q steady =>
      exact ⟨htime, hcfg, steady.mute.trans hmute, steady.statusAge.trans hage, steady.status ∘ hstatus,
        fun h => steady.probeTimer.trans (hprobe h)⟩
    | cause loc o k c =>
      have hsteady := takeCause_lif_steady loc o k c u
      have hquiet := takeCause_quiet loc o k c u
      exact ⟨(time_of_quiet hquiet).trans htime, (cfg_of_quiet hquiet).trans hcfg, hsteady.mute.trans hmute,
        hsteady.statusAge.trans hage, hsteady.status ∘ hstatus, fun h => hsteady.probeTimer.trans (hprobe h)⟩
    | probe due =>
      refine ⟨htime, hcfg, hmute, hage, hstatus, fun h => ?_⟩
      obtain ⟨hm, ht⟩ := Bool.and_eq_true_iff.mp due
      have hm := hmute.symm.trans (of_decide_eq_true hm)
      have ht := of_decide_eq_true ht
      rw [hprobe h, hcfg] at ht
      exact absurd h (not_or.mpr ⟨not_not.mpr hm, Nat.not_lt.mpr ht⟩)
    | line _ scope => exact scope.elim
    | notes _ _ scope => exact scope.elim
    | lines _ scope => exact scope.elim
    | motion _ scope => exact scope.elim
    | clock _ _ scope => exact scope.elim
    | blocked _ scope => exact scope.elim
    | accept scope => exact scope.elim
    | held _ scope => exact scope.elim
    | loads _ scope => exact scope.elim
    | operation _ scope => exact scope.elim
    | start scope => exact scope.elim
    | _ => exact ⟨htime, hcfg, hmute, hage, hstatus, hprobe⟩

end

/-! ## The first part -/

section
variable {s t : State} {i : AxisNo} {levels : Word16}

/-- An axis with the last lens unit and the held target that a take's step hands it (R99, R103). -/
def AxisState.handed (unit : Option Nat) (held : Option Int) (a : AxisState) : AxisState :=
  { a with lens := { a.lens with lastUnit := unit }, dsl := { a.dsl with held := held } }

theorem handTargets_handed (i : AxisNo) (s : State) : ∃ unit held, (handTargets s).axes[i] = s.axes[i].handed unit held := by
  rw [handTargets_axis]
  split
  · split
    · exact ⟨_, _, rfl⟩
    · exact ⟨_, _, rfl⟩
  · exact ⟨_, _, rfl⟩

theorem takeStep_axis (i : AxisNo) (s : State) : ∃ unit held, (takeStep s).axes[i] = s.axes[i].handed unit held := by
  have hsame : ∃ unit held, s.axes[i] = s.axes[i].handed unit held := ⟨_, _, rfl⟩
  unfold takeStep
  split
  · split
    · unfold playStep
      dsimp only
      split
      · split
        · exact hsame
        · exact handTargets_handed i _
      · exact handTargets_handed i _
    · exact hsame
    · exact hsame
  · exact hsame

theorem takeStep_lif (s : State) : (takeStep s).lif.quiet = s.lif.quiet := by
  have htake (q : Tkq) (u : State) : (setTake q u).lif.quiet = u.lif.quiet := congrArg State.lif (setTake_quiet q u)
  unfold takeStep
  split
  · split
    · unfold playStep
      dsimp only
      split
      · split
        · rfl
        · exact htake _ _
      · exact htake _ _
    · rfl
    · rfl
  · rfl

theorem lif_of_quiet (h : t.quiet = s.quiet) : t.lif.quiet = s.lif.quiet := congrArg State.lif h

/-- Every axis of the state at the start of a control period. -/
theorem sampledAt_axis (s : State) (levels : Word16) (i : AxisNo) : (s.sampledAt levels).axes[i] = s.axes[i].tick :=
  getElem_ofFn_fin ..

theorem followEstops_axisQuiet (levels : Word16) (i : AxisNo) (s : State) :
    (followEstops levels s).axes[i].quiet = s.axes[i].quiet := by
  obtain ⟨ls, h⟩ := followEstops_quiet levels s
  exact axisQuiet_of_quiet (s := { s with lines := ls }) (h.trans rfl) i

/-- The quiet part of an axis at the end of the first part of a boundary. -/
theorem periodStart_axisQuiet (levels : Word16) (i : AxisNo) (s : State) :
    ∃ unit held, (periodStart levels s).axes[i].quiet = (s.axes[i].tick.handed unit held).quiet := by
  obtain ⟨unit, held, htake⟩ := takeStep_axis i (followEstops levels (s.sampledAt levels))
  refine ⟨unit, held, ?_⟩
  rw [periodStart_eq, axisQuiet_of_quiet (endEvent_quiet _) i, htake]
  have hquiet := followEstops_axisQuiet levels i (s.sampledAt levels)
  rw [sampledAt_axis] at hquiet
  exact congrArg (AxisState.handed unit held) hquiet

/-- What the first part of a boundary leaves of the station. -/
theorem periodStart_frame (levels : Word16) (s : State) : (periodStart levels s).time = min (s.time + 1) (2 ^ 48 - 1)
    ∧ (periodStart levels s).cfg = s.cfg ∧ (periodStart levels s).due = workAt s.cfg (min (s.time + 1) (2 ^ 48 - 1))
    ∧ (periodStart levels s).lif.quiet = s.lif.tick.quiet := by
  obtain ⟨ls, h⟩ := followEstops_quiet levels (s.sampledAt levels)
  have hquiet : (followEstops levels (s.sampledAt levels)).quiet = ({ s.sampledAt levels with lines := ls } : State).quiet :=
    h.trans rfl
  obtain ⟨-, htime, hdue, hcfg, -⟩ := takeStep_frame (followEstops levels (s.sampledAt levels))
  rw [periodStart_eq]
  refine ⟨(time_of_quiet (endEvent_quiet _)).trans (htime.trans ((time_of_quiet hquiet).trans rfl)),
    (cfg_of_quiet (endEvent_quiet _)).trans (hcfg.trans ((cfg_of_quiet hquiet).trans rfl)),
    (due_of_quiet (endEvent_quiet _)).trans (hdue.trans ((due_of_quiet hquiet).trans rfl)),
    (lif_of_quiet (endEvent_quiet _)).trans ((takeStep_lif _).trans ((lif_of_quiet hquiet).trans rfl))⟩

/-! ## The second part -/

/-- What follows from the computations of a period: FOLLOW, the pre-roll marks and the sequence of the held category. -/
def State.judged (s : State) : State := judgeStopped (applySequence (judgePreroll (giveFollow s)))

theorem periodCompute_eq (s : State) : periodCompute s = endEvent (computeAxes s).judged := rfl

theorem judgePreroll_kept (s : State) : (judgePreroll s).axes = s.axes ∧ (judgePreroll s).stop = s.stop
    ∧ (judgePreroll s).cfg = s.cfg := by
  unfold judgePreroll
  split <;> exact ⟨rfl, rfl, rfl⟩

theorem judged_axis (s : State) (i : AxisNo) :
    s.judged.axes[i] = (giveFollow s).axes[i].sequence (giveFollow s).stop.category s.cfg.axes[i] := by
  obtain ⟨haxes, hstop, hcfg⟩ := judgePreroll_kept (giveFollow s)
  simp only [State.judged, judgeStopped_axes, applySequence, getElem_ofFn_fin, haxes, hstop, hcfg, (giveFollow_reacts s).cfg]

theorem judged_stop (s : State) : s.judged.stop.category = (giveFollow s).stop.category
    ∧ (s.judged.halted ↔ (giveFollow s).halted) := by
  obtain ⟨haxes, hstop, hcfg⟩ := judgePreroll_kept (giveFollow s)
  have hjudged (u : State) : (judgeStopped u).stop.category = u.stop.category ∧ ((judgeStopped u).halted ↔ u.halted) := by
    refine ⟨rfl, ?_⟩
    simp only [State.halted, judgeStopped, announce_stop]
    split
    · next h => simp [h.1]
    · exact Iff.rfl
  refine ⟨(hjudged _).1.trans (congrArg StopRecord.category hstop), (hjudged _).2.trans ?_⟩
  simp only [State.halted, applySequence, hstop]

theorem judged_cfg (s : State) : s.judged.cfg = s.cfg :=
  (judgePreroll_kept (giveFollow s)).2.2.trans (giveFollow_reacts s).cfg

/-- What a stop that begins and the sequence of a category keep of an axis, what follows from the computations keeps. -/
theorem periodCompute_axis_kept {P : AxisState → Prop} (hplain : ∀ a (d : Dsl) (cap : Nat), P a → P { a with dsl := d, cap := cap })
    (hcancel : ∀ a, P a → P (({ a with releaseTimer := none } : AxisState).withLens a.lens.cancel))
    (hsequence : ∀ a c, P a → P (a.sequence c s.cfg.axes[i])) (h : P (computeAxes s).axes[i]) : P (periodCompute s).axes[i] := by
  have hcfg : (computeAxes s).judged.cfg = s.cfg := (judged_cfg _).trans rfl
  have hfollow : P (giveFollow (computeAxes s)).axes[i] :=
    Reacts.axis_kept (s := computeAxes s) hplain (fun a c ha => hsequence _ _ (hcancel a ha))
      (fun a c => hsequence a (some c)) (giveFollow_reacts _) h
  have hjudged : P (computeAxes s).judged.axes[i] := by
    rw [judged_axis]
    exact hsequence _ _ hfollow
  rw [periodCompute_eq]
  refine (endEvent_reacts _).axis_kept hplain (fun a c ha => ?_) (fun a c ha => ?_) hjudged
  · rw [hcfg]
    exact hsequence _ _ (hcancel a ha)
  · rw [hcfg]
    exact hsequence a _ ha

theorem periodCompute_axisQuiet (i : AxisNo) (s : State) :
    (periodCompute s).axes[i].quiet = (computeAxes s).axes[i].quiet := by
  obtain ⟨q, h⟩ := periodCompute_quiet s
  have haxes : (Vector.ofFn fun j : AxisNo => (periodCompute s).axes[j].quiet)
      = Vector.ofFn fun j : AxisNo => (computeAxes s).axes[j].quiet := congrArg (·.axes) h
  have hi := congrArg (fun v : Vector AxisState 4 => v[i]) haxes
  simpa only [getElem_ofFn_fin] using hi

/-- What the second part of a boundary leaves of the station. -/
theorem periodCompute_frame (s : State) : (periodCompute s).time = s.time ∧ (periodCompute s).cfg = s.cfg
    ∧ (periodCompute s).due = s.due ∧ (periodCompute s).lif.quiet = s.lif.quiet := by
  obtain ⟨q, h⟩ := periodCompute_quiet s
  exact ⟨(congrArg (·.time) h).trans rfl, (congrArg (·.cfg) h).trans rfl, (congrArg (·.due) h).trans rfl,
    (congrArg (·.lif) h).trans rfl⟩

end

/-! ## Drives, brakes and their timers in a boundary -/

/-- The drive switching and the timers of an axis. -/
def AxisState.switching (a : AxisState) : Bool × Bool × Option Nat × Option Nat :=
  (a.drive.enable, a.drive.released, a.brakeTimer, a.releaseTimer)

/-- A step of a boundary that is no cause: it leaves the held category, and each axis's switching and timers, or gives each axis the
sequence of that category. -/
structure Sequences (s t : State) : Prop where
  cfg : t.cfg = s.cfg
  category : t.stop.category = s.stop.category
  halted : t.halted ↔ s.halted
  axes : (∀ i : AxisNo, t.axes[i].switching = s.axes[i].switching)
    ∨ ∀ i : AxisNo, t.axes[i].switching = (s.axes[i].sequence s.stop.category s.cfg.axes[i]).switching

/-- A chain of such steps and of causes. -/
def Switches : State → State → Prop :=
  Relation.ReflTransGen fun s t => Sequences s t ∨ ∃ loc o k c, t = takeCause loc o k c s

/-- Category CUT is held by a stopped station alone. -/
def State.cutHalts (s : State) : Prop := s.stop.category = some .cut → s.halted

section
variable {s t : State} {i : AxisNo}

theorem Plain.sequences (h : Plain s t) : Sequences s t where
  cfg := h.cfg
  category := congrArg StopRecord.category h.stop
  halted := by rw [State.halted, State.halted, h.stop]
  axes := .inl fun i => by
    obtain ⟨d, cap, hi⟩ := h.axes i
    rw [hi]
    rfl

theorem Reacts.switches (h : Reacts s t) : Switches s t := by
  induction h with
  | refl => exact .refl
  | tail _ hstep ih => exact ih.tail (hstep.imp_left Plain.sequences)

theorem Sequences.switches (h : Sequences s t) : Switches s t := .single (.inl h)

theorem Switches.cfg (h : Switches s t) : t.cfg = s.cfg := by
  induction h with
  | refl => rfl
  | tail _ hstep ih =>
    rcases hstep with h | ⟨loc, o, k, c, rfl⟩
    · exact h.cfg.trans ih
    · exact (cfg_of_quiet (takeCause_quiet loc o k c _)).trans ih

/-- A stopped station stays stopped, and under CUT if it is. -/
theorem Switches.halted (h : Switches s t) (hs : s.halted) :
    t.halted ∧ (s.stop.category = some .cut → t.stop.category = some .cut) := by
  induction h with
  | refl => exact ⟨hs, id⟩
  | tail _ hstep ih =>
    rcases hstep with h | ⟨loc, o, k, c, rfl⟩
    · exact ⟨h.halted.mpr ih.1, fun hc => h.category.trans (ih.2 hc)⟩
    · have hgrows := takeCause_grows loc o k c ih.1
      exact ⟨hgrows.halted, fun hc => category_cut (ih.2 hc ▸ hgrows.rank)⟩

theorem Switches.cutHalts (h : Switches s t) (hs : s.cutHalts) : t.cutHalts := by
  induction h with
  | refl => exact hs
  | tail _ hstep ih =>
    rcases hstep with h | ⟨loc, o, k, c, rfl⟩
    · exact fun hc => h.halted.mpr (ih (h.category.symm.trans hc))
    · exact fun _ => (takeCause_stops loc o k c _).1

/-- What a stop that begins and the sequences keep of the switching and the timers of an axis, a boundary keeps. CUT acts only
where it stays. -/
theorem Switches.kept {P : AxisState → Prop} (hsame : ∀ a b : AxisState, b.switching = a.switching → P a → P b)
    (hbegin : ¬ s.halted → t.halted → ∀ a c, (c = .cut → t.stop.category = some .cut) → P a →
      P (a.stopBegun c s.cfg.axes[i]))
    (hsequence : ∀ a c, (c = some .cut → s.cutHalts → t.stop.category = some .cut) → P a → P (a.sequence c s.cfg.axes[i]))
    (h : Switches s t) (hs : P s.axes[i]) : P t.axes[i] := by
  induction h with
  | refl => exact hs
  | @tail u v hrun hstep ih =>
    have hcfg : u.cfg = s.cfg := Switches.cfg hrun
    have hone : Switches u v := .single hstep
    have hP := ih (fun hs hu a c hc => hbegin hs (hone.halted hu).1 a c fun h => (hone.halted hu).2 (hc h))
      (fun a c hc => hsequence a c fun h hcut => (hone.halted (Switches.cutHalts hrun hcut (hc h hcut))).2 (hc h hcut))
    rcases hstep with hstep | ⟨loc, o, k, c, rfl⟩
    · rcases hstep.axes with haxes | haxes
      · exact hsame _ _ (haxes i) hP
      · refine hsame _ _ (haxes i) ?_
        rw [hcfg]
        exact hsequence _ _ (fun hc _ => hstep.category.trans hc) hP
    · have hhalts := (takeCause_stops loc o k c u).1
      rcases takeCause_cases loc o k c u with ⟨hh, heq⟩ | ⟨-, -, heq⟩ | ⟨-, -, heq⟩
      · have hcat : (takeCause loc o k c u).stop.category = some c := by
          rw [heq]
          rfl
        rw [heq, beginStop_axis, hcfg]
        exact hbegin (fun hs => hh (Switches.halted hrun hs).1) hhalts _ c (fun hc => hcat.trans (congrArg some hc)) hP
      · have hcat : (takeCause loc o k c u).stop.category = some c := by
          rw [heq]
          rfl
        rw [heq, escalateStop_axis, hcfg]
        exact hsequence _ _ (fun hc _ => hcat.trans hc) hP
      · rw [heq]
        exact hP

theorem periodStart_switches (levels : Word16) (s : State) : Switches (s.sampledAt levels) (periodStart levels s) := by
  rw [periodStart_eq]
  obtain ⟨-, -, -, hcfg, hstop⟩ := takeStep_frame (followEstops levels (s.sampledAt levels))
  have htake : Sequences (followEstops levels (s.sampledAt levels)) (takeStep (followEstops levels (s.sampledAt levels))) :=
    ⟨hcfg, congrArg StopRecord.category hstop, by rw [State.halted, State.halted, hstop], .inl fun i => by
      obtain ⟨unit, held, hi⟩ := takeStep_axis i (followEstops levels (s.sampledAt levels))
      rw [hi]
      rfl⟩
  exact (followEstops_reacts levels _).switches.trans (htake.switches.trans (endEvent_reacts _).switches)

theorem computeAxes_switching (s : State) (i : AxisNo) : (computeAxes s).axes[i].switching = s.axes[i].switching := by
  obtain ⟨x, hx⟩ := computeAxes_axis s i
  rw [hx]
  by_cases hk : s.cfg.axes[i].kind = .unused
  · rw [axisComputed_unused hk]
    rfl
  · rw [axisComputed_used hk]
    rfl

theorem periodCompute_switches (s : State) : Switches s (periodCompute s) := by
  have hcompute : Sequences s (computeAxes s) := ⟨rfl, rfl, Iff.rfl, .inl (computeAxes_switching s)⟩
  have hjudged : Sequences (giveFollow (computeAxes s)) (computeAxes s).judged :=
    ⟨(judged_cfg _).trans (giveFollow_reacts _).cfg.symm, (judged_stop _).1, (judged_stop _).2, .inr fun i => by
      rw [judged_axis, (giveFollow_reacts _).cfg]⟩
  rw [periodCompute_eq]
  exact hcompute.switches.trans ((giveFollow_reacts _).switches.trans (hjudged.switches.trans (endEvent_reacts _).switches))

end

end Sys2Proof.Machine
end

section
/-! PROOFS. The setpoints, brakes and timers after a boundary (R75, R93, R95, R108, R136, R138): O17. -/

namespace Sys2Proof.Machine

/-! ## The setpoint word (12.3) -/

theorem setpointWord_enable (enable : Bool) (count : Int) : (setpointWord enable count).getLsbD 39 = enable := by
  cases enable <;> simp [setpointWord]

theorem setpointWord_count (enable : Bool) (count : Int) : (setpointWord enable count).setWidth 32 = BitVec.ofInt 32 count := by
  refine BitVec.eq_of_getLsbD_eq fun k hk => ?_
  have hne : k ≠ 39 := by omega
  cases enable <;> simp [setpointWord, hk, Nat.lt_trans hk (by decide : 32 < 40), hne]

theorem setpointWord_off : setpointWord false 0 = 0 := by decide

/-- The word of the channel carries the enable and the last count. -/
def Drive.told (d : Drive) : Prop := d.word = setpointWord d.enable d.lastCount

/-- The channel sends enable 0 and count 0. -/
def Drive.idles (d : Drive) : Prop := d.word = 0 ∧ d.lastCount = 0

theorem Drive.off_told {d : Drive} (h : d.told) (released : Bool) : ({ d.off with released := released } : Drive).told := by
  unfold Drive.told at h ⊢
  show (if d.enable then setpointWord false d.lastCount else d.word) = setpointWord false d.lastCount
  split
  · rfl
  · next he => rw [h, Bool.eq_false_iff.mpr he]

theorem Drive.off_idles {d : Drive} (h : d.idles) (released : Bool) : ({ d.off with released := released } : Drive).idles := by
  refine ⟨?_, h.2⟩
  show (if d.enable then setpointWord false d.lastCount else d.word) = 0
  rw [h.1, h.2, setpointWord_off, ite_self]

/-- What the sequence of a category does to the drive of an axis: it stays, or its brake engages, or it is switched off. -/
theorem AxisState.sequence_drive (category : Option Category) (c : AxisCfg) (a : AxisState) :
    (a.sequence category c).drive = a.drive ∨ (a.sequence category c).drive = { a.drive with released := false }
      ∨ ∃ released, (a.sequence category c).drive = { a.drive.off with released := released } := by
  unfold AxisState.sequence AxisState.brake AxisState.cut
  split
  · split_ifs
    · exact .inr (.inr ⟨_, rfl⟩)
    · exact .inr (.inl rfl)
    · exact .inr (.inr ⟨a.drive.released, rfl⟩)
    · exact .inl rfl
    · exact .inl rfl
  · exact .inr (.inr ⟨_, rfl⟩)
  · exact .inl rfl

/-- What an engaged brake and a drive switched off keep of a drive, the sequence of a category keeps. -/
theorem AxisState.sequence_drive_kept {P : Drive → Prop} (hbrake : ∀ d, P d → P { d with released := false })
    (hoff : ∀ d released, P d → P { d.off with released := released }) (a : AxisState) (category : Option Category) (c : AxisCfg)
    (h : P a.drive) : P (a.sequence category c).drive := by
  rcases a.sequence_drive category c with heq | heq | ⟨released, heq⟩ <;> rw [heq]
  · exact h
  · exact hbrake _ h
  · exact hoff _ released h

section
variable {s t : State} {i : AxisNo}

/-- What an engaged brake and a drive switched off keep of a drive, what follows from the computations keeps. -/
theorem periodCompute_drive_kept {P : Drive → Prop} (hbrake : ∀ d, P d → P { d with released := false })
    (hoff : ∀ d released, P d → P { d.off with released := released }) (h : P (computeAxes s).axes[i].drive) :
    P (periodCompute s).axes[i].drive :=
  periodCompute_axis_kept (P := fun a => P a.drive) (fun _ _ _ => id) (fun _ => id)
    (fun a c => AxisState.sequence_drive_kept hbrake hoff a c _) h

/-! ## The computation of an axis (R75, R93, R95) -/

theorem computeAxes_timed (s : State) (i : AxisNo) : (computeAxes s).axes[i] = if (s.axisComputed i).seeking = true then
    { s.axisComputed i with
      lens := (s.axisComputed i).lens.timed s.cfg.axes[i] (s.axisComputed i).link.following (s.axisComputed i).mpr.atRest }
    else s.axisComputed i := getElem_ofFn_fin ..

/-- A computation writes its record: the count from the position, at rest exactly at velocity 0 (R75, R76). -/
theorem computed_written (s : State) (i : AxisNo) :
    (s.computed i).count = ((s.computed i).p + 128) / 256 ∧ ((s.computed i).atRest = true ↔ (s.computed i).v = 0) := by
  have hwritten (p v : Int) (mode : ProfilerMode) (b : Bool) :
      (Mpr.written p v mode b).count = ((Mpr.written p v mode b).p + 128) / 256
        ∧ ((Mpr.written p v mode b).atRest = true ↔ (Mpr.written p v mode b).v = 0) := ⟨rfl, decide_eq_true_iff⟩
  unfold State.computed ProfilerInput.compute Mpr.track ProfilerInput.follow
  dsimp only
  split
  · exact hwritten ..
  · split
    · split
      · exact hwritten ..
      · exact hwritten ..
    · exact hwritten ..

/-- What what follows from the computations leaves of the profiler's record and the link of an axis. -/
theorem periodCompute_mpr (s : State) (i : AxisNo) :
    ({ (periodCompute s).axes[i].mpr with reseed := false } : Mpr) = { (computeAxes s).axes[i].mpr with reseed := false }
      ∧ (periodCompute s).axes[i].link = (computeAxes s).axes[i].link
      ∧ (periodCompute s).axes[i].drive.lastCount = (computeAxes s).axes[i].drive.lastCount
      ∧ (periodCompute s).axes[i].dsl.fresh = (computeAxes s).axes[i].dsl.fresh := by
  have hquiet := periodCompute_axisQuiet i s
  exact ⟨congrArg (·.mpr) hquiet, congrArg (·.link) hquiet, congrArg (·.drive.lastCount) hquiet,
    congrArg (·.dsl.fresh) hquiet⟩

/-! ## The check of the following error (R93) -/

theorem followFault_iff : (s.used i && followFault s.cfg.axes[i] s.axes[i]) = true
    ↔ s.used i = true ∧ s.axes[i].drive.enable = true ∧ s.axes[i].link.state = .locked ∧ s.axes[i].seeking = false
      ∧ ∃ e, s.axes[i].link.following = some e ∧ s.cfg.axes[i].followLimit < e.natAbs := by
  simp only [followFault, Bool.and_eq_true, Link.valid, decide_eq_true_eq, Bool.not_eq_true', and_assoc]
  refine and_congr_right fun _ => and_congr_right fun _ => and_congr_right fun _ => and_congr_right fun _ => ?_
  rcases s.axes[i].link.following with _ | e
  · simp
  · simp

/-- Under CUT every axis is secured. -/
def State.cutSecured (s : State) : Prop := s.stop.category = some .cut → s.secured = true

theorem foldl_giveCauseIf_cutSecured {α : Type} (b : α → Bool) (k : Cause) (xs : List α) (h : s.cutSecured) :
    (xs.foldl (fun t x => giveCauseIf (b x) k .cut t) s).cutSecured := by
  induction xs generalizing s with
  | nil => exact h
  | cons x xs ih =>
    refine ih ?_
    show (giveCauseIf (b x) k .cut s).cutSecured
    cases b x with
    | false => exact h
    | true =>
      intro _
      show (takeCause true s.cfg.own k .cut s).secured = true
      by_cases hc : s.stop.category = some .cut
      · exact takeCause_axes_secured true s.cfg.own k .cut s (h hc)
      · exact takeCause_cut_secured true s.cfg.own k hc

theorem giveFollow_stops (h : (s.used i && followFault s.cfg.axes[i] s.axes[i]) = true) :
    (giveFollow s).stoppedBy .follow .cut ∧ (s.stop.category ≠ some .cut → (giveFollow s).secured = true) := by
  have hstop : (giveFollow s).stoppedBy .follow .cut :=
    foldl_giveCauseIf_stoppedBy (b := fun i => s.used i && followFault s.cfg.axes[i] s.axes[i]) (mem_allAxes i) h .follow .cut s
  exact ⟨hstop, fun hc => foldl_giveCauseIf_cutSecured (fun i : AxisNo => s.used i && followFault s.cfg.axes[i] s.axes[i]) .follow
    allAxes (fun hcut => absurd hcut hc) (category_cut hstop.2.2)⟩

theorem giveFollow_none (h : ∀ i : AxisNo, ¬ (s.used i && followFault s.cfg.axes[i] s.axes[i]) = true) : giveFollow s = s :=
  foldl_giveCauseIf_none (fun i => Bool.eq_false_iff.mpr (h i)) .follow .cut s

/-- After a boundary no axis beyond its follow limit has its drive on. -/
theorem periodCompute_within {e : Int} (hno : s.noOwnGates) (hu : s.used i = true)
    (hon : (periodCompute s).axes[i].drive.enable = true) (hl : (periodCompute s).axes[i].link.state = .locked)
    (hseek : (periodCompute s).axes[i].seeking = false) (he : (periodCompute s).axes[i].link.following = some e) :
    e.natAbs ≤ s.cfg.axes[i].followLimit := by
  by_contra hbeyond
  obtain ⟨-, hlink, -⟩ := periodCompute_mpr s i
  rw [hlink] at hl he
  have hcfg : (computeAxes s).judged.cfg = s.cfg := (judged_cfg _).trans rfl
  by_cases hcut : (giveFollow (computeAxes s)).stop.category = some .cut
  · have hoff : (computeAxes s).judged.axes[i].drive.enable = false := by
      rw [judged_axis, hcut]
      rfl
    have hend : (periodCompute s).axes[i].drive.enable = false := by
      rw [periodCompute_eq]
      have hdrive (a : AxisState) (c : Option Category) (cfg : AxisCfg) (ha : a.drive.enable = false) :
          (a.sequence c cfg).drive.enable = false :=
        AxisState.sequence_drive_kept (P := fun d => d.enable = false) (fun _ => id) (fun _ _ _ => rfl) a c cfg ha
      exact (endEvent_reacts _).axis_kept (P := fun a => a.drive.enable = false) (fun _ _ _ => id)
        (fun a c ha => hdrive _ _ _ ha) (fun a c ha => hdrive _ _ _ ha) hoff
    exact Bool.false_ne_true (hend.symm.trans hon)
  · have hnone : giveFollow (computeAxes s) = computeAxes s :=
      giveFollow_none fun j hj => hcut (category_cut (giveFollow_stops hj).1.2.2)
    have heases : Eases (computeAxes s).judged (periodCompute s) :=
      endEvent_eases (.inr ((noOwnGates_congr hcfg).mpr hno))
    have hlens : (periodCompute s).axes[i].lens = (computeAxes s).axes[i].lens := by
      refine (congrArg AxisState.lens (heases.axis i)).trans ?_
      show (computeAxes s).judged.axes[i].lens = _
      rw [judged_axis, (AxisState.sequence_lens _ _ _).1, hnone]
    have henable : (computeAxes s).axes[i].drive.enable = true :=
      periodCompute_drive_kept (P := fun d => d.enable = true → (computeAxes s).axes[i].drive.enable = true) (fun _ => id)
        (fun _ _ _ hf => absurd hf Bool.false_ne_true) id hon
    have hfault := followFault_iff (s := computeAxes s) |>.mpr ⟨hu, henable, hl, (seeking_of_lens hlens).symm.trans hseek, e, he, Nat.not_le.mp hbeyond⟩
    exact hcut (category_cut (giveFollow_stops hfault).1.2.2)

/-! ## Brakes under BRAKE (R138) -/

/-- An axis at rest with its drive on has its brake engaged and its brake timer started. -/
def AxisState.brakes (a : AxisState) : Prop :=
  a.mpr.atRest = true → a.drive.enable = true → a.drive.released = false ∧ a.brakeTimer ≠ none

theorem sequence_brakes {c : AxisCfg} (h : c.kind ≠ .unused) (a : AxisState) : (a.sequence (some .brake) c).brakes := by
  intro hrest hon
  show ((a.brake c).drive.released = false) ∧ (a.brake c).brakeTimer ≠ none
  change (a.brake c).mpr.atRest = true at hrest
  change (a.brake c).drive.enable = true at hon
  unfold AxisState.brake at hrest hon ⊢
  split_ifs at hrest hon ⊢ with hcond hreleased hdelay htimer
  · exact absurd hon Bool.false_ne_true
  · exact ⟨rfl, nofun⟩
  · exact absurd hon Bool.false_ne_true
  · exact ⟨Bool.eq_false_iff.mpr hreleased, htimer⟩
  · exact absurd ⟨h, hrest, hon⟩ hcond

theorem takeCause_brakes {loc : Bool} {o : StationNo} {k : Cause} {c : Category} (hu : s.cfg.axes[i].kind ≠ .unused)
    (h : s.stop.category = some .brake → s.axes[i].brakes) :
    (takeCause loc o k c s).stop.category = some .brake → (takeCause loc o k c s).axes[i].brakes := by
  rcases takeCause_cases loc o k c s with ⟨-, heq⟩ | ⟨-, -, heq⟩ | ⟨-, -, heq⟩ <;> rw [heq]
  · intro hc
    obtain rfl := Option.some.inj (show some c = some .brake from hc)
    rw [beginStop_axis]
    exact sequence_brakes hu _
  · intro hc
    obtain rfl := Option.some.inj (show some c = some .brake from hc)
    rw [escalateStop_axis]
    exact sequence_brakes hu _
  · exact h

theorem Reacts.brakes (h : Reacts s t) (hu : s.cfg.axes[i].kind ≠ .unused)
    (hs : s.stop.category = some .brake → s.axes[i].brakes) : t.stop.category = some .brake → t.axes[i].brakes := by
  induction h with
  | refl => exact hs
  | tail hrun hstep ih =>
    rcases hstep with hplain | ⟨loc, o, k, c, rfl⟩
    · intro hc
      obtain ⟨d, cap, hi⟩ := hplain.axes i
      rw [hplain.stop] at hc
      rw [hi]
      exact ih hc
    · exact takeCause_brakes (by rw [Reacts.cfg hrun]; exact hu) ih

/-- After a boundary an axis at rest under BRAKE whose drive is on has its brake engaged and its brake timer started. -/
theorem periodCompute_brakes (hu : s.cfg.axes[i].kind ≠ .unused) (hc : (periodCompute s).stop.category = some .brake) :
    (periodCompute s).axes[i].brakes := by
  have hcfg : (computeAxes s).judged.cfg = s.cfg := (judged_cfg _).trans rfl
  refine (endEvent_reacts (computeAxes s).judged).brakes (by rw [hcfg]; exact hu) (fun hb => ?_) hc
  rw [(judged_stop _).1] at hb
  rw [judged_axis, hb]
  exact sequence_brakes hu _

end
end Sys2Proof.Machine
end

section
/-! PROOFS. A boundary as a whole: O17. -/

namespace Sys2Proof.Machine

section
variable {s t : State} {i : AxisNo} {levels : Word16}

/-! ## Setpoints (R75, R93, R95) -/

/-- The profiler's record, the setpoint word and the following error of a used axis after a boundary. -/
theorem periodCompute_setpoint (hu : s.cfg.axes[i].kind ≠ .unused) :
    (periodCompute s).axes[i].mpr.count = ((periodCompute s).axes[i].mpr.p + 128) / 256
      ∧ ((periodCompute s).axes[i].mpr.atRest = true ↔ (periodCompute s).axes[i].mpr.v = 0)
      ∧ (periodCompute s).axes[i].drive.lastCount = (periodCompute s).axes[i].mpr.count
      ∧ (periodCompute s).axes[i].drive.told
      ∧ ∀ x, (periodCompute s).axes[i].link.measured = some x →
          (periodCompute s).axes[i].link.following = some ((periodCompute s).axes[i].mpr.count - x) := by
  obtain ⟨l, hl⟩ := computeAxes_axis s i
  rw [axisComputed_used hu] at hl
  obtain ⟨hmpr, hlink, hlast, -⟩ := periodCompute_mpr s i
  have htold : (periodCompute s).axes[i].drive.told :=
    periodCompute_drive_kept (P := Drive.told)
      (fun d (hd : d.word = setpointWord d.enable d.lastCount) => hd) (fun d r hd => Drive.off_told hd r)
      (by rw [hl]; exact rfl)
  rw [hl] at hmpr hlink hlast
  have hp : (periodCompute s).axes[i].mpr.p = (s.computed i).p := congrArg (·.p) hmpr
  have hv : (periodCompute s).axes[i].mpr.v = (s.computed i).v := congrArg (·.v) hmpr
  have hcount : (periodCompute s).axes[i].mpr.count = (s.computed i).count := congrArg (·.count) hmpr
  have hrest : (periodCompute s).axes[i].mpr.atRest = (s.computed i).atRest := congrArg (·.atRest) hmpr
  obtain ⟨hwritten, hstill⟩ := computed_written s i
  refine ⟨by rw [hcount, hp]; exact hwritten, by rw [hrest, hv]; exact hstill, hlast.trans hcount.symm, htold, fun x hx => ?_⟩
  rw [hlink] at hx ⊢
  rw [hcount]
  have hmeasured : s.axes[i].link.measured = some x := hx
  show (match s.axes[i].link.measured with
    | some m => some ((s.computed i).count - m)
    | none => s.axes[i].link.following) = _
  rw [hmeasured]

/-- An UNUSED axis sends enable 0 and count 0, and its profiler state stays (R95). -/
theorem periodCompute_unused (hu : s.cfg.axes[i].kind = .unused) :
    (periodCompute s).axes[i].drive.idles ∧ (periodCompute s).axes[i].mpr.p = s.axes[i].mpr.p
      ∧ (periodCompute s).axes[i].mpr.v = s.axes[i].mpr.v := by
  obtain ⟨l, hl⟩ := computeAxes_axis s i
  rw [axisComputed_unused hu] at hl
  obtain ⟨hmpr, -⟩ := periodCompute_mpr s i
  rw [hl] at hmpr
  refine ⟨periodCompute_drive_kept (P := Drive.idles) (fun _ hd => hd) (fun d r hd => Drive.off_idles hd r) ?_,
    congrArg (·.p) hmpr, congrArg (·.v) hmpr⟩
  rw [hl]
  exact ⟨setpointWord_off, rfl⟩

theorem periodStart_position (levels : Word16) (i : AxisNo) (s : State) :
    (periodStart levels s).axes[i].mpr.p = s.axes[i].mpr.p ∧ (periodStart levels s).axes[i].mpr.v = s.axes[i].mpr.v
      ∧ (periodStart levels s).axes[i].dsl.fresh = satInc s.axes[i].dsl.fresh := by
  obtain ⟨unit, held, h⟩ := periodStart_axisQuiet levels i s
  exact ⟨congrArg (·.mpr.p) h, congrArg (·.mpr.v) h, congrArg (·.dsl.fresh) h⟩

/-! ## The timers of the Line Interface (R15, R22) -/

theorem boundary_lif (s : State) (levels : Word16) :
    (periodCompute (periodStart levels s)).lif.statusAge = (if s.lif.status.isSome then s.lif.statusAge + 1 else s.lif.statusAge)
      ∧ (periodCompute (periodStart levels s)).lif.probeTimer
        = if s.lif.mute = .lineMute then s.lif.probeTimer + 1 else s.lif.probeTimer := by
  have h := (periodCompute_frame (periodStart levels s)).2.2.2.trans (periodStart_frame levels s).2.2.2
  exact ⟨congrArg (·.statusAge) h, congrArg (·.probeTimer) h⟩

/-! ## The timers of the axes (R108, R136) -/

theorem boundary_switches (s : State) (levels : Word16) :
    Switches (s.sampledAt levels) (periodCompute (periodStart levels s)) :=
  (periodStart_switches levels s).trans (periodCompute_switches _)

/-- A brake timer stays, stops, or starts at 0. -/
theorem sequence_brakeTimer (c : Option Category) (cfg : AxisCfg) (a : AxisState) :
    (a.sequence c cfg).brakeTimer = a.brakeTimer ∨ (a.sequence c cfg).brakeTimer = none
      ∨ (a.sequence c cfg).brakeTimer = some 0 := by
  unfold AxisState.sequence AxisState.brake AxisState.cut
  split
  · split_ifs
    · exact .inr (.inl rfl)
    · exact .inr (.inr rfl)
    · exact .inl rfl
    · exact .inl rfl
    · exact .inl rfl
  · exact .inr (.inl rfl)
  · exact .inl rfl

/-- Below CUT a brake timer that runs with the brake engaged goes on. -/
theorem sequence_running {c : Option Category} {a : AxisState} (cfg : AxisCfg) (hc : c ≠ some .cut) (ht : a.brakeTimer ≠ none)
    (hr : a.drive.released = false) : a.sequence c cfg = a := by
  rcases c with _ | c
  · rfl
  cases c with
  | hold => rfl
  | cut => exact absurd rfl hc
  | brake =>
    show a.brake cfg = a
    unfold AxisState.brake
    rw [hr, if_neg ht]
    simp only [Bool.false_eq_true, if_false, ite_self]

/-- Below CUT a release timer goes on. -/
theorem sequence_releaseTimer {c : Option Category} (hc : c ≠ some .cut) (cfg : AxisCfg) (a : AxisState) :
    (a.sequence c cfg).releaseTimer = a.releaseTimer := by
  unfold AxisState.sequence AxisState.brake
  split
  · split_ifs <;> rfl
  · exact absurd rfl hc
  · rfl

theorem boundary_brakeTimer_none (h : s.axes[i].brakeTimer = none) :
    (periodCompute (periodStart levels s)).axes[i].brakeTimer = none
      ∨ (periodCompute (periodStart levels s)).axes[i].brakeTimer = some 0 := by
  have hsequence (a : AxisState) (c : Option Category) (cfg : AxisCfg) (ha : a.brakeTimer = none ∨ a.brakeTimer = some 0) :
      (a.sequence c cfg).brakeTimer = none ∨ (a.sequence c cfg).brakeTimer = some 0 := by
    rcases sequence_brakeTimer c cfg a with heq | heq | heq <;> rw [heq]
    · exact ha
    · exact .inl rfl
    · exact .inr rfl
  refine Switches.kept (s := s.sampledAt levels) (i := i) (P := fun a => a.brakeTimer = none ∨ a.brakeTimer = some 0)
    (fun a b hb ha => ?_) (fun _ _ a c _ ha => hsequence _ _ _ ha) (fun a c _ ha => hsequence a c _ ha)
    (boundary_switches s levels) ?_
  · rw [show b.brakeTimer = a.brakeTimer from congrArg (·.2.2.1) hb]
    exact ha
  · rw [sampledAt_axis]
    exact .inl (congrArg (Option.map (· + 1)) h)

theorem boundary_brakeTimer {n : Nat} (hs : s.stop.category ≠ some .cut)
    (ht : (periodCompute (periodStart levels s)).stop.category ≠ some .cut) (h : s.axes[i].brakeTimer = some n)
    (hr : s.axes[i].drive.released = false) :
    (periodCompute (periodStart levels s)).axes[i].brakeTimer = some (n + 1) := by
  have hsequence (a : AxisState) (c : Option Category) (cfg : AxisCfg) (hc : c ≠ some .cut)
      (ha : a.brakeTimer = some (n + 1) ∧ a.drive.released = false) :
      (a.sequence c cfg).brakeTimer = some (n + 1) ∧ (a.sequence c cfg).drive.released = false := by
    rw [sequence_running cfg hc (by rw [ha.1]; exact nofun) ha.2]
    exact ha
  refine (Switches.kept (s := s.sampledAt levels) (i := i)
    (P := fun a => a.brakeTimer = some (n + 1) ∧ a.drive.released = false)
    (fun a b hb ha => ?_) (fun _ _ a c hc ha => hsequence _ _ _ (fun h => ht (hc (Option.some.inj h))) ha)
    (fun a c hc ha => hsequence a c _ (fun h => ht (hc h fun hcut => absurd hcut hs)) ha) (boundary_switches s levels) ?_).1
  · rw [show b.brakeTimer = a.brakeTimer from congrArg (·.2.2.1) hb,
      show b.drive.released = a.drive.released from congrArg (·.2.1) hb]
    exact ha
  · rw [sampledAt_axis]
    exact ⟨congrArg (Option.map (· + 1)) h, hr⟩

theorem boundary_releaseTimer {n : Nat} (hs : s.stop.category ≠ some .cut)
    (ht : (periodCompute (periodStart levels s)).stop.category ≠ some .cut)
    (hstate : (periodCompute (periodStart levels s)).stop.state = s.stop.state) (h : s.axes[i].releaseTimer = some n) :
    (periodCompute (periodStart levels s)).axes[i].releaseTimer = some (n + 1) := by
  refine Switches.kept (s := s.sampledAt levels) (i := i) (P := fun a => a.releaseTimer = some (n + 1)) (fun a b hb ha => ?_)
    (fun hno hyes => ?_) (fun a c hc ha => ?_) (boundary_switches s levels) ?_
  · exact (congrArg (·.2.2.2) hb : b.releaseTimer = a.releaseTimer).trans ha
  · refine absurd ?_ hno
    rw [State.halted, hstate] at hyes
    exact hyes
  · exact (sequence_releaseTimer (fun h => ht (hc h fun hcut => absurd hcut hs)) _ a).trans ha
  · rw [sampledAt_axis]
    exact congrArg (Option.map (· + 1)) h

/-- What a seek that goes on carries through a boundary: its lens record as it was, but for the last lens unit and the two
timers. -/
theorem boundary_lens (hseek : (periodCompute (periodStart levels s)).axes[i].seeking = true) :
    ∃ unit, (periodCompute (periodStart levels s)).axes[i].lens = ({ s.axes[i].lens with lastUnit := unit } : Lens).timed
      s.cfg.axes[i] (periodCompute (periodStart levels s)).axes[i].link.following
      (periodCompute (periodStart levels s)).axes[i].mpr.atRest := by
  obtain ⟨v, hv⟩ : ∃ v, v = periodStart levels s := ⟨_, rfl⟩
  have hcfg : v.cfg = s.cfg := hv ▸ (periodStart_frame levels s).2.1
  rw [← hv] at hseek ⊢
  obtain ⟨hmpr, hlink, -, -⟩ := periodCompute_mpr v i
  have hrest : (periodCompute v).axes[i].mpr.atRest = (computeAxes v).axes[i].mpr.atRest := congrArg (·.atRest) hmpr
  have hlens : (periodCompute v).axes[i].lens = (computeAxes v).axes[i].lens := by
    have hend := (endEvent_reacts (computeAxes v).judged).lens_of_seeking hseek
    have hjudged : (computeAxes v).judged.axes[i].lens = (giveFollow (computeAxes v)).axes[i].lens := by
      rw [judged_axis, (AxisState.sequence_lens _ _ _).1]
    refine hend.trans (hjudged.trans ((giveFollow_reacts (computeAxes v)).lens_of_seeking ?_))
    rw [← seeking_of_lens hjudged, ← seeking_of_lens hend]
    exact hseek
  have hcomputed : (v.axisComputed i).seeking = v.axes[i].seeking ∧ ∃ unit,
      (v.axisComputed i).lens = { v.axes[i].lens with lastUnit := unit } := by
    by_cases hk : v.cfg.axes[i].kind = .unused
    · rw [axisComputed_unused hk]
      exact ⟨rfl, _, rfl⟩
    · rw [axisComputed_used hk]
      exact ⟨rfl, _, rfl⟩
  obtain ⟨hcseek, unit, hunit⟩ := hcomputed
  have haxis := computeAxes_timed v i
  have hvseek : v.axes[i].seeking = true := by
    rw [seeking_of_lens hlens, haxis] at hseek
    split at hseek
    · exact hcseek.symm.trans hseek
    · exact hcseek.symm.trans hseek
  rw [if_pos (hcseek.trans hvseek)] at haxis
  have hvlens : ∃ unit, v.axes[i].lens = { s.axes[i].lens with lastUnit := unit } := by
    obtain ⟨unit, held, htake⟩ := takeStep_axis i (followEstops levels (s.sampledAt levels))
    rw [hv, periodStart_eq] at hvseek ⊢
    have hend := (endEvent_reacts (takeStep (followEstops levels (s.sampledAt levels)))).lens_of_seeking hvseek
    have hestops : (followEstops levels (s.sampledAt levels)).axes[i].lens = (s.sampledAt levels).axes[i].lens := by
      refine (followEstops_reacts levels (s.sampledAt levels)).lens_of_seeking ?_
      rw [seeking_of_lens hend, htake] at hvseek
      exact hvseek
    refine ⟨unit, hend.trans ?_⟩
    rw [htake]
    show { (followEstops levels (s.sampledAt levels)).axes[i].lens with lastUnit := unit } = _
    rw [hestops, sampledAt_axis]
    rfl
  obtain ⟨unit', hunit'⟩ := hvlens
  refine ⟨unit, hlens.trans ?_⟩
  rw [hrest, hlink, haxis]
  show (v.axisComputed i).lens.timed v.cfg.axes[i] _ _ = _
  rw [hunit, hunit', hcfg]

end
end Sys2Proof.Machine

open Sys2Proof Sys2Proof.Machine

/-- Settles O17: the parts of the boundary in turn, each through what it leaves of the axes, the stop record and the Line
Interface. -/
theorem boundaryWritesSetpoints : Obligations.BoundaryWritesSetpoints := by
  refine ⟨fun levels s t hop h i => ?_, fun levels s t hop h => ?_, fun s beyond hbeyond => ⟨?_, fun hno => ?_⟩⟩
  · obtain rfl := Host.Outcome.next.inj ((exec_boundary hop levels).symm.trans h)
    obtain ⟨q, hq⟩ : ∃ q, q = closePeriod s := ⟨_, rfl⟩
    have hrun : Run .within s q := hq ▸ closePeriod_run s
    rw [← hq]
    obtain ⟨v, hv⟩ : ∃ v, v = periodStart levels q := ⟨_, rfl⟩
    have hcfg : v.cfg = s.cfg := by
      rw [hv, (periodStart_frame levels q).2.1]
      exact hrun.line_timers.2.1
    have hp : v.axes[i].mpr.p = s.axes[i].mpr.p ∧ v.axes[i].mpr.v = s.axes[i].mpr.v := by
      obtain ⟨hp, hvel, -⟩ := periodStart_position levels i q
      obtain ⟨hp', hvel', -⟩ := hrun.axis_kept (i := i)
      rw [hv, hp, hvel]
      exact ⟨hp', hvel'⟩
    rw [← hv]
    refine ⟨fun hu => ?_, fun hu => ?_⟩
    · have hk : v.cfg.axes[i].kind ≠ .unused := by
        rw [hcfg]
        exact (used_iff s i).mp hu
      obtain ⟨hcount, hrest, hlast, htold, hfollow⟩ := periodCompute_setpoint hk
      refine ⟨hcount, hrest, hlast, ?_, ?_, hfollow, fun hno hon hl hseek e he => ?_, fun hc hr hon => ?_⟩
      · rw [htold, setpointWord_enable]
      · rw [htold, setpointWord_count, hlast]
      · rw [← hcfg]
        exact periodCompute_within ((noOwnGates_congr hcfg).mpr hno) ((used_iff v i).mpr hk) hon hl hseek he
      · exact periodCompute_brakes hk hc hr hon
    · have hk : v.cfg.axes[i].kind = .unused := by
        rw [hcfg]
        exact not_not.mp (of_decide_eq_false hu)
      obtain ⟨⟨hword, hlast⟩, hpos, hvel⟩ := periodCompute_unused hk
      exact ⟨hword, hlast, hpos.trans hp.1, hvel.trans hp.2⟩
  · obtain rfl := Host.Outcome.next.inj ((exec_boundary hop levels).symm.trans h)
    obtain ⟨-, hcfg, hmute, hage, hstatus, hprobe⟩ := (closePeriod_run (l := .within) s).line_timers
    obtain ⟨htick, hptick⟩ := boundary_lif (closePeriod s) levels
    refine ⟨fun hs => ?_, fun hm hlt => ?_, fun hm => ?_, fun hclose i => ?_⟩
    · rw [htick, if_pos (hstatus hs), hage]
    · rw [hptick, hmute, if_pos hm, hprobe (.inr hlt)]
    · rw [hptick, hmute, if_neg hm, hprobe (.inl hm)]
    rw [hclose]
    obtain ⟨t, ht⟩ : ∃ t, t = periodCompute (periodStart levels s) := ⟨_, rfl⟩
    have hnone := boundary_brakeTimer_none (s := s) (i := i) (levels := levels)
    have hbrake (n : Nat) := boundary_brakeTimer (s := s) (i := i) (levels := levels) (n := n)
    have hrelease (n : Nat) := boundary_releaseTimer (s := s) (i := i) (levels := levels) (n := n)
    have hlens := boundary_lens (s := s) (i := i) (levels := levels)
    rw [← ht] at hnone hbrake hrelease hlens ⊢
    refine ⟨hnone, fun hcut hcat => ⟨fun n => hbrake n hcut (by rw [hcat]; exact hcut), fun n htimer hstate =>
      hrelease n hcut (by rw [hcat]; exact hcut) hstate htimer⟩, ?_⟩
    intro l u hl hu hseek hgoes
    obtain ⟨unit, hlens⟩ := hlens hgoes
    rw [← hl, ← hu] at hlens
    rw [hlens]
    refine ⟨fun e he => ⟨fun hlow => ?_, fun hhigh => ?_⟩, rfl⟩
    · simp only [Lens.timed, he, hlow, decide_eq_true_eq]
    · simp only [Lens.timed, he, hhigh, decide_eq_true_eq, ge_iff_le]
  · rintro ⟨i, hi⟩
    obtain ⟨⟨hmark, hhalted, hrank⟩, hsecured⟩ := giveFollow_stops (followFault_iff.mpr ((hbeyond i).mp hi))
    exact ⟨hmark, category_cut hrank, hhalted.1, hhalted.2, hsecured⟩
  · exact giveFollow_none fun i hi => hno i ((hbeyond i).mpr (followFault_iff.mp hi))
end

section
/-! PROOFS. Time, timers and the take at a boundary (R57, R170, R173 to R176, R186): O16. -/

namespace Sys2Proof.Machine

/-! ## The targets and the tracking of a play take (R175, R176) -/

theorem lagAfter_eq (tolerance distance : Nat) (mark : Bool) : lagAfter tolerance distance mark
    = (decide (tolerance < distance) || (mark && decide (tolerance / 2 < distance))) := by
  unfold lagAfter
  split
  · next h => rw [decide_eq_true h, Bool.true_or]
  · next h =>
    rw [decide_eq_false h, Bool.false_or]
    split
    · next h2 => rw [decide_eq_false (Nat.not_lt.mpr h2), Bool.and_false]
    · next h2 => rw [decide_eq_true (Nat.lt_of_not_le h2), Bool.and_true]

/-- Two states that form the same targets and judge the same tracking. -/
structure TakesAs (s w : State) : Prop where
  cfg : w.cfg = s.cfg
  tks : w.tks = s.tks
  lens : ∀ i : AxisNo, w.axes[i].lens = s.axes[i].lens
  count : ∀ i : AxisNo, w.axes[i].mpr.count = s.axes[i].mpr.count
  number : w.tkq.number = s.tkq.number
  period : w.tkq.period = s.tkq.period
  goal : w.tkq.goal = s.tkq.goal
  lag : w.tkq.lag = s.tkq.lag
  claims : ∀ i : AxisNo, w.claims i = s.claims i

section
variable {s t w : State} {levels : Word16}

theorem targetCount_congr {i : AxisNo} (hcfg : w.cfg = s.cfg) (hlens : w.axes[i].lens = s.axes[i].lens) (x : Int) :
    w.targetCount i x = s.targetCount i x := by
  unfold State.targetCount State.isLens
  rw [hcfg, hlens]

theorem TakesAs.takeGoals (h : TakesAs s w) (time : Nat) : w.takeGoals time = s.takeGoals time := by
  refine congrArg Vector.ofFn (funext fun i => ?_)
  have hvalue : w.takeValue time i = s.takeValue time i := by
    simp only [State.takeValue, h.tks, h.number, h.period]
  rw [h.claims, hvalue, targetCount_congr h.cfg (h.lens i), h.goal]

theorem TakesAs.takeLags (h : TakesAs s w) (goals : Vector (Option Int) 4) : w.takeLags goals = s.takeLags goals := by
  refine congrArg Vector.ofFn (funext fun i => ?_)
  simp only [h.claims, h.count, h.cfg, h.lag]

theorem claims_congr (hcfg : t.cfg = s.cfg) (htkq : t.tkq = s.tkq) (i : AxisNo) : t.claims i = s.claims i := by
  simp only [State.claims, hcfg, htkq]

theorem claims_underWay (hs : s.tkq.state = .running ∨ s.tkq.state = .waiting)
    (hw : w.tkq.state = .running ∨ w.tkq.state = .waiting) (hmode : w.tkq.mode = s.tkq.mode) (haxes : w.tkq.axes = s.tkq.axes)
    (hcfg : w.cfg = s.cfg) (i : AxisNo) : w.claims i = s.claims i := by
  unfold State.claims
  rw [hmode, haxes, hcfg]
  rcases hs with hs | hs <;> rcases hw with hw | hw <;> rw [hs, hw]

theorem handTargets_claims (w : State) (i : AxisNo) : (handTargets w).claims i = w.claims i := rfl

/-- The targets formed and the tracking judged (R175, R176). -/
theorem judgeLag_handTargets (w : State) : (judgeLag (handTargets w)).tkq
    = { w.tkq with goal := w.takeGoals w.tkq.t, lag := w.takeLags (w.takeGoals w.tkq.t) } := by
  have hlag : (judgeLag (handTargets w)).tkq.lag = w.takeLags (w.takeGoals w.tkq.t) := by
    refine congrArg Vector.ofFn (funext fun i => ?_)
    have hcount : (handTargets w).axes[i].mpr.count = w.axes[i].mpr.count := by rw [(handTargets_still w i).1]
    rw [handTargets_claims, hcount]
    show (match (w.takeGoals w.tkq.t)[i] with
      | some x => if w.claims i = true then
          lagAfter w.cfg.axes[i].tolerance (x - w.axes[i].mpr.count).natAbs w.tkq.lag[i] else w.tkq.lag[i]
      | none => w.tkq.lag[i]) = _
    rcases w.claims i with _ | _ <;> rcases (w.takeGoals w.tkq.t)[i] with _ | x
    · rfl
    · rfl
    · rfl
    · exact lagAfter_eq _ _ _
  exact congrArg (fun lag => ({ w.tkq with goal := w.takeGoals w.tkq.t, lag := lag } : Tkq)) hlag

/-! ## The take's step (R173, R174) -/

theorem takeStep_record (hr : s.tkq.state = .running) (hm : s.tkq.mode = some .record) : (takeStep s).tkq = { s.tkq with
    t := min (s.tkq.t + 1) 16777215, appendDue := decide (min (s.tkq.t + 1) 16777215 % s.tkq.period = 0) } := by
  have hup : s.tkq.state.underWay = true := by rw [hr]; rfl
  rw [takeStep, if_pos hup, hm]
  rfl

theorem takeStep_play (hr : s.tkq.state = .running ∨ s.tkq.state = .waiting) (hm : s.tkq.mode = some .play) :
    takeStep s = playStep s := by
  rw [takeStep, if_pos (underWay_iff.mpr hr), hm]

theorem takeStep_rests (hr : s.tkq.state ≠ .running) (hw : s.tkq.state ≠ .waiting) : takeStep s = s :=
  if_neg fun h => (underWay_iff.mp h).elim hr hw

theorem holds_iff : s.holds = true ↔ (∃ i : AxisNo, s.claims i = true ∧ s.tkq.lag[i] = true)
    ∨ ∃ st : StationNo, names s.tkq.mask st.val = true ∧ st ≠ s.cfg.own
      ∧ ¬ (s.peers[st].takeState = .ended ∧ s.peers[st].takeNumber = s.tkq.number)
      ∧ s.estimate st + s.cfg.skewWindow < s.tkq.t := by
  rw [State.holds, Bool.or_eq_true, List.any_eq_true, List.any_eq_true]
  refine or_congr ⟨fun ⟨i, _, h⟩ => ⟨i, Bool.and_eq_true_iff.mp h⟩, fun ⟨i, h⟩ => ⟨i, mem_allAxes i, Bool.and_eq_true_iff.mpr h⟩⟩ ?_
  have hheld (st : StationNo) : s.heldBy st = true
      ↔ ¬ (s.peers[st].takeState = .ended ∧ s.peers[st].takeNumber = s.tkq.number)
        ∧ s.estimate st + s.cfg.skewWindow < s.tkq.t := by
    rw [State.heldBy, Bool.and_eq_true, Bool.not_eq_true', Bool.and_eq_false_iff, decide_eq_false_iff_not,
      decide_eq_false_iff_not, decide_eq_true_eq, ← not_and_or]
  simp only [State.otherParticipants, List.mem_filter, Bool.and_eq_true, decide_eq_true_eq, hheld]
  exact ⟨fun ⟨st, ⟨_, hn, ho⟩, h⟩ => ⟨st, hn, ho, h⟩, fun ⟨st, hn, ho, h⟩ => ⟨st, ⟨mem_allStations st, hn, ho⟩, h⟩⟩

theorem holdLimitDue_true (hr : s.tkq.state = .running ∨ s.tkq.state = .waiting) (hm : s.tkq.mode = some .play) (n : Nat) :
    ({ s with tkq := { s.tkq with holdTimer := n } } : State).holdLimitDue = decide (s.cfg.holdLimit < n) := by
  show (decide (s.tkq.mode = some .play) && s.tkq.state.underWay && decide (n > s.cfg.holdLimit)) = _
  rw [hm, underWay_iff.mpr hr]
  rfl

/-- A hold past the limit counts alone (R174). -/
theorem playStep_limit (hr : s.tkq.state = .running ∨ s.tkq.state = .waiting) (hm : s.tkq.mode = some .play)
    (hh : s.holds = true) (hl : s.cfg.holdLimit < min (s.tkq.holdTimer + 1) 5001) :
    (playStep s).tkq = { s.tkq with holdTimer := min (s.tkq.holdTimer + 1) 5001 } := by
  unfold playStep
  rw [if_pos hh]
  dsimp only
  rw [if_pos ((holdLimitDue_true hr hm _).trans (decide_eq_true hl))]

/-- A hold (R174). -/
theorem playStep_waits (hr : s.tkq.state = .running ∨ s.tkq.state = .waiting) (hm : s.tkq.mode = some .play)
    (hh : s.holds = true) (hl : min (s.tkq.holdTimer + 1) 5001 ≤ s.cfg.holdLimit) :
    ∃ w, TakesAs s w ∧ (playStep s).tkq = { s.tkq with
      state := .waiting, holdTimer := min (s.tkq.holdTimer + 1) 5001, goal := w.takeGoals s.tkq.t
      lag := w.takeLags (w.takeGoals s.tkq.t) } := by
  obtain ⟨s1, hs1⟩ : ∃ s1 : State, s1 = { s with tkq := { s.tkq with holdTimer := min (s.tkq.holdTimer + 1) 5001 } } := ⟨_, rfl⟩
  have hplay : playStep s = judgeLag (handTargets (setTake { s1.tkq with state := .waiting } s1)) := by
    unfold playStep
    rw [if_pos hh]
    dsimp only
    rw [if_neg (by rw [holdLimitDue_true hr hm, decide_eq_true_eq]; exact Nat.not_lt.mpr hl), hs1]
  refine ⟨setTake { s1.tkq with state := .waiting } s1, hs1 ▸ ⟨rfl, rfl, fun _ => rfl, fun _ => rfl, rfl, rfl, rfl, rfl,
    claims_underWay hr (.inr rfl) rfl rfl rfl⟩, ?_⟩
  · rw [hplay, judgeLag_handTargets, hs1]
    rfl

/-- An advance (R174). -/
theorem playStep_advances (hr : s.tkq.state = .running ∨ s.tkq.state = .waiting) (hh : s.holds = false) :
    ∃ w, TakesAs s w ∧ (playStep s).tkq = { s.tkq with
      state := .running, holdTimer := 0, t := min (s.tkq.t + 1) 16777215, goal := w.takeGoals (min (s.tkq.t + 1) 16777215)
      lag := w.takeLags (w.takeGoals (min (s.tkq.t + 1) 16777215)) } := by
  obtain ⟨s1, hs1⟩ : ∃ s1 : State, s1 = setTake { s.tkq with holdTimer := 0, state := .running } s := ⟨_, rfl⟩
  have hplay : playStep s = judgeLag (handTargets { s1 with tkq := s1.tkq.advance }) := by
    unfold playStep
    rw [if_neg (Bool.eq_false_iff.mp hh), hs1]
  refine ⟨{ s1 with tkq := s1.tkq.advance }, hs1 ▸ ⟨rfl, rfl, fun _ => rfl, fun _ => rfl, rfl, rfl, rfl, rfl,
    claims_underWay hr (.inl rfl) rfl rfl rfl⟩, ?_⟩
  · rw [hplay, judgeLag_handTargets, hs1]
    rfl

/-! ## A boundary without a stop -/

theorem foldl_followEstop_unstopped (levels : Word16) (cfg : Settings) (xs : List LineNo) (s : State)
    (h : ¬ (xs.foldl (fun t k => if cfg.lines[k].function = .estop then followEstop k (levels.getLsbD k.val) t else t) s).halted) :
    ∃ ls : Vector LineState 16,
      xs.foldl (fun t k => if cfg.lines[k].function = .estop then followEstop k (levels.getLsbD k.val) t else t) s
        = { s with lines := ls } := by
  induction xs generalizing s with
  | nil => exact ⟨_, rfl⟩
  | cons x xs ih =>
    obtain ⟨u, hu⟩ : ∃ u, u = if cfg.lines[x].function = .estop then followEstop x (levels.getLsbD x.val) s else s := ⟨_, rfl⟩
    rw [List.foldl_cons, ← hu] at h ⊢
    obtain ⟨ls, hls⟩ := ih u h
    have hhalt : ¬ u.halted := by
      rw [hls] at h
      exact h
    refine ⟨ls, hls.trans ?_⟩
    by_cases hx : cfg.lines[x].function = .estop
    · rw [if_pos hx, followEstop, giveCauseIf] at hu
      split at hu
      · rw [hu] at hhalt
        exact absurd (takeCause_stops _ _ _ _ _).1 hhalt
      · rw [hu]
    · rw [hu, if_neg hx]

theorem followEstops_unstopped (levels : Word16) (s : State) (h : ¬ (followEstops levels s).halted) :
    ∃ ls : Vector LineState 16, followEstops levels s = { s with lines := ls } :=
  foldl_followEstop_unstopped levels s.cfg allSixteen s h

theorem giveFollow_unstopped (h : ¬ (giveFollow s).halted) : giveFollow s = s :=
  giveFollow_none fun _ hi => h (giveFollow_stops hi).1.2.1

/-- A boundary that does not leave the station stopped moves the take by the take's step and the pre-roll marks alone. -/
theorem boundary_unstopped (h : ¬ (periodCompute (periodStart levels s)).halted) :
    (∃ ls : Vector LineState 16,
      (periodStart levels s).tkq = (takeStep { s.sampledAt levels with lines := ls }).tkq)
      ∧ (periodCompute (periodStart levels s)).tkq = (judgePreroll (computeAxes (periodStart levels s))).tkq := by
  obtain ⟨v, hv⟩ : ∃ v, v = periodStart levels s := ⟨_, rfl⟩
  rw [← hv] at h ⊢
  have hend := (endEvent_reacts (computeAxes v).judged).unstopped h
  have hx : ¬ (computeAxes v).judged.halted := by
    unfold State.halted at h ⊢
    rw [periodCompute_eq, hend.stop] at h
    exact h
  have hg : ¬ (giveFollow (computeAxes v)).halted := fun hh => hx ((judged_stop _).2.mpr hh)
  have hfollow := giveFollow_unstopped hg
  rw [hfollow] at hg
  have hvhalt : ¬ v.halted := hg
  refine ⟨?_, ?_⟩
  · rw [hv, periodStart_eq] at hvhalt ⊢
    have hplain := (endEvent_reacts (takeStep (followEstops levels (s.sampledAt levels)))).unstopped hvhalt
    have hstop := (takeStep_frame (followEstops levels (s.sampledAt levels))).2.2.2.2
    have hestops : ¬ (followEstops levels (s.sampledAt levels)).halted := by
      unfold State.halted at hvhalt ⊢
      rw [hplain.stop, hstop] at hvhalt
      exact hvhalt
    obtain ⟨ls, hls⟩ := followEstops_unstopped levels (s.sampledAt levels) hestops
    exact ⟨ls, hplain.tkq.trans (by rw [hls])⟩
  · rw [periodCompute_eq, hend.tkq]
    show (judgePreroll (giveFollow (computeAxes v))).tkq = _
    rw [hfollow]

theorem judgePreroll_rests (h : s.tkq.state ≠ .preroll) : judgePreroll s = s := if_neg h

theorem judgePreroll_tkq (h : s.tkq.state = .preroll) : (judgePreroll s).tkq = { s.tkq with
    arrived := s.prerollMarks, state := if allAxes.all fun i => !s.claims i || s.prerollMarks[i] then .ready else .preroll } := by
  rw [judgePreroll, if_pos h]
  rfl

/-! ## Timers and work -/

theorem boundary_fresh (levels : Word16) (i : AxisNo) (s : State) :
    (periodCompute (periodStart levels s)).axes[i].dsl.fresh = min (s.axes[i].dsl.fresh + 1) 65535 := by
  obtain ⟨v, hv⟩ : ∃ v, v = periodStart levels s := ⟨_, rfl⟩
  have hfresh : v.axes[i].dsl.fresh = satInc s.axes[i].dsl.fresh := by
    rw [hv]
    exact (periodStart_position levels i s).2.2
  rw [← hv, (periodCompute_mpr v i).2.2.2]
  obtain ⟨x, hx⟩ := computeAxes_axis v i
  refine Eq.trans ?_ hfresh
  rw [hx]
  by_cases hk : v.cfg.axes[i].kind = .unused
  · rw [axisComputed_unused hk]
  · rw [axisComputed_used hk]

theorem boundary_frame (levels : Word16) (s : State) :
    (periodCompute (periodStart levels s)).time = min (s.time + 1) (2 ^ 48 - 1)
      ∧ (periodCompute (periodStart levels s)).cfg = s.cfg
      ∧ (periodCompute (periodStart levels s)).due = workAt s.cfg (min (s.time + 1) (2 ^ 48 - 1)) := by
  obtain ⟨htime, hcfg, hdue, -⟩ := periodStart_frame levels s
  obtain ⟨htime', hcfg', hdue', -⟩ := periodCompute_frame (periodStart levels s)
  exact ⟨htime'.trans htime, hcfg'.trans hcfg, hdue'.trans hdue⟩

end
end Sys2Proof.Machine
end

section
/-! PROOFS. The take at a boundary, case by case: O16. -/

namespace Sys2Proof.Machine

section
variable {s t p : State} {levels : Word16}

/-- A state in which the take's step starts: the take, the store and the commanded counts as they were, and station time advanced. -/
structure TakeStarts (s p : State) : Prop extends TakesAs s p where
  tkq : p.tkq = s.tkq
  time : p.time = min (s.time + 1) (2 ^ 48 - 1)
  peers : p.peers = s.peers

theorem takeStarts (s : State) (levels : Word16) (ls : Vector LineState 16) :
    TakeStarts s { s.sampledAt levels with lines := ls } where
  cfg := rfl
  tks := rfl
  lens i := (congrArg (·.lens) (sampledAt_axis s levels i)).trans rfl
  count i := (congrArg (·.mpr.count) (sampledAt_axis s levels i)).trans rfl
  number := rfl
  period := rfl
  goal := rfl
  lag := rfl
  claims _ := rfl
  tkq := rfl
  time := rfl
  peers := rfl

theorem TakeStarts.estimate (h : TakeStarts s p) (st : StationNo) :
    p.estimate st = ({ s with time := min (s.time + 1) (2 ^ 48 - 1) } : State).estimate st := by
  unfold State.estimate State.timeSince
  rw [h.time, h.peers]

theorem TakeStarts.holds_iff (h : TakeStarts s p) : p.holds = true ↔ (∃ i : AxisNo, s.claims i = true ∧ s.tkq.lag[i] = true)
    ∨ ∃ st : StationNo, names s.tkq.mask st.val = true ∧ st ≠ s.cfg.own
      ∧ ¬ (s.peers[st].takeState = .ended ∧ s.peers[st].takeNumber = s.tkq.number)
      ∧ ({ s with time := min (s.time + 1) (2 ^ 48 - 1) } : State).estimate st + s.cfg.skewWindow < s.tkq.t := by
  rw [Machine.holds_iff]
  simp only [h.claims, h.tkq, h.peers, h.cfg, h.estimate]

/-- The step of play by the hold test (R174). -/
theorem TakeStarts.play (h : TakeStarts s p) (hr : s.tkq.state = .running ∨ s.tkq.state = .waiting)
    (hm : s.tkq.mode = some .play) :
    (p.holds = true → s.cfg.holdLimit < min (s.tkq.holdTimer + 1) 5001 →
      (takeStep p).tkq = { s.tkq with holdTimer := min (s.tkq.holdTimer + 1) 5001 })
    ∧ (p.holds = true → min (s.tkq.holdTimer + 1) 5001 ≤ s.cfg.holdLimit → (takeStep p).tkq = { s.tkq with
        state := .waiting, holdTimer := min (s.tkq.holdTimer + 1) 5001
        goal := s.takeGoals s.tkq.t, lag := s.takeLags (s.takeGoals s.tkq.t) })
    ∧ (p.holds = false → (takeStep p).tkq = { s.tkq with
        state := .running, holdTimer := 0, t := min (s.tkq.t + 1) 16777215
        goal := s.takeGoals (min (s.tkq.t + 1) 16777215)
        lag := s.takeLags (s.takeGoals (min (s.tkq.t + 1) 16777215)) }) := by
  have hr' : p.tkq.state = .running ∨ p.tkq.state = .waiting := by rw [h.tkq]; exact hr
  have hm' : p.tkq.mode = some .play := by rw [h.tkq]; exact hm
  rw [takeStep_play hr' hm', ← h.tkq, ← h.cfg]
  refine ⟨fun hh hl => playStep_limit hr' hm' hh hl, fun hh hl => ?_, fun hh => ?_⟩
  · obtain ⟨w, hw, htkq⟩ := playStep_waits hr' hm' hh hl
    rw [htkq, hw.takeGoals, hw.takeLags, h.takeGoals, h.takeLags]
  · obtain ⟨w, hw, htkq⟩ := playStep_advances hr' hh
    rw [htkq, hw.takeGoals, hw.takeLags, h.takeGoals, h.takeLags]

/-- A boundary while the station is not operating, out of reset: each channel sends enable 0 and count 0. -/
theorem boundary_idle (levels : Word16) (hr : s.inReset = false) (hl : s.cfl.load ≠ .runReady) :
    exec (.controlPeriodBoundary levels) s = .next (idlePeriod s) := by
  have hop : ¬ s.operating = true := fun h => hl (of_decide_eq_true (Bool.and_eq_true_iff.mp h).2)
  refine congrArg Host.Outcome.next ((if_neg hop).trans (if_neg ?_))
  rw [hr]
  exact Bool.false_ne_true

theorem idlePeriod_axis (s : State) (i : AxisNo) : (idlePeriod s).axes[i]
    = { s.axes[i] with drive := { s.axes[i].drive with word := 0, lastCount := 0 } } := by
  refine (getElem_ofFn_fin ..).trans ?_
  show { s.axes[i] with drive := { s.axes[i].drive with word := setpointWord false 0, lastCount := 0 } } = _
  rw [setpointWord_off]

end
end Sys2Proof.Machine

open Sys2Proof Sys2Proof.Machine

/-- Settles O16: the clock and the work through the frame of each part of the boundary; the take, where no stop comes, through the
take's step and the pre-roll marks, which then alone move it. -/
theorem boundaryAdvancesTime : Obligations.BoundaryAdvancesTime := by
  intro levels s
  refine ⟨fun hop => ?_, fun hr hl => ⟨_, boundary_idle levels hr hl, idlePeriod_axis s, rfl⟩, fun hr => ?_⟩
  · obtain ⟨q, hq⟩ : ∃ q, q = closePeriod s := ⟨_, rfl⟩
    have hexec := exec_boundary hop levels
    have hwork : Run .within s q := hq ▸ closePeriod_run s
    rw [← hq] at hexec ⊢
    obtain ⟨htimeq, hcfgq, -⟩ := hwork.line_timers
    obtain ⟨htime, hcfg, hdue⟩ := boundary_frame levels q
    have hfresh (i : AxisNo) := boundary_fresh levels i q
    obtain ⟨v, hv⟩ : ∃ v, v = periodStart levels q := ⟨_, rfl⟩
    have hunstopped := boundary_unstopped (s := q) (levels := levels)
    have hmpr (i : AxisNo) := (periodCompute_mpr (periodStart levels q) i).1
    rw [← hv] at hexec htime hcfg hdue hunstopped
    simp only [← hv] at hfresh hmpr
    obtain ⟨t, ht⟩ : ∃ t, t = periodCompute v := ⟨_, rfl⟩
    rw [← ht] at hexec htime hcfg hdue hunstopped
    simp only [← ht] at hfresh hmpr
    rw [htimeq] at htime hdue
    rw [hcfgq] at hcfg hdue
    refine ⟨t, hexec, htime, hcfg, fun i => ?_, ?_, ?_, ?_, ?_, fun i => ?_, fun hclose hrun => ?_⟩
    · rw [hfresh, hwork.axis_kept.2.2]
    · rw [hdue, htime]; rfl
    · rw [hdue, htime]; rfl
    · rw [hdue, htime]; rfl
    · rw [hdue, htime]; rfl
    · rw [hdue]
      exact getElem_ofFn_fin ..
    subst hclose
    obtain ⟨⟨ls, hstart⟩, hcompute⟩ := hunstopped fun hh => hh.1 hrun
    have hp := takeStarts q levels ls
    obtain ⟨p, hpdef⟩ : ∃ p : State, p = { q.sampledAt levels with lines := ls } := ⟨_, rfl⟩
    rw [← hpdef] at hp hstart
    have hstep (h : (takeStep p).tkq.state ≠ .preroll) : t.tkq = (takeStep p).tkq := by
      rw [hcompute, judgePreroll_rests]
      · exact hstart
      · show v.tkq.state ≠ .preroll
        rw [hstart]
        exact h
    have hkept (h : q.tkq.state ≠ .running) (h' : q.tkq.state ≠ .waiting) : v.tkq = q.tkq := by
      rw [hstart, takeStep_rests (by rw [hp.tkq]; exact h) (by rw [hp.tkq]; exact h'), hp.tkq]
    refine ⟨fun hr hm => ?_, fun hr hm => ⟨p.holds, ?_, fun hh hl => ?_, fun hh hl => ?_, fun hh => ?_⟩, fun hpre => ?_,
      fun h1 h2 h3 => ?_⟩
    · have htake := takeStep_record (s := p) (by rw [hp.tkq]; exact hr) (by rw [hp.tkq]; exact hm)
      rw [hp.tkq] at htake
      exact (hstep (by rw [htake, hr]; exact nofun)).trans htake
    · rw [htime]
      exact hp.holds_iff
    · have htake := (hp.play hr hm).1 hh hl
      exact (hstep (by rw [htake]; rcases hr with hr | hr <;> rw [hr] <;> exact nofun)).trans htake
    · have htake := (hp.play hr hm).2.1 hh hl
      exact (hstep (by rw [htake]; exact nofun)).trans htake
    · have htake := (hp.play hr hm).2.2 hh
      exact (hstep (by rw [htake]; exact nofun)).trans htake
    · have hvtkq := hkept (by rw [hpre]; exact nofun) (by rw [hpre]; exact nofun)
      have hvcfg : v.cfg = q.cfg := by
        rw [hv]
        exact (periodStart_frame levels q).2.1
      have hclaims (i : AxisNo) : (computeAxes v).claims i = q.claims i := claims_congr hvcfg hvtkq i
      have hmarks : (computeAxes v).prerollMarks
          = Vector.ofFn fun i : AxisNo => q.tkq.arrived[i] || (q.claims i && t.axes[i].mpr.atTarget) := by
        refine congrArg Vector.ofFn (funext fun i => ?_)
        have hat : t.axes[i].mpr.atTarget = (computeAxes v).axes[i].mpr.atTarget := congrArg (·.atTarget) (hmpr i)
        rw [hclaims, hat]
        exact congrArg (fun x : Tkq => x.arrived[i] || _) hvtkq
      have htkq := hcompute.trans (judgePreroll_tkq (s := computeAxes v) ((congrArg Tkq.state hvtkq).trans hpre))
      rw [show (computeAxes v).tkq = q.tkq from hvtkq] at htkq
      have harrived := (congrArg Tkq.arrived htkq).trans hmarks
      refine ⟨_, htkq.trans (by rw [hmarks]), fun hall => if_pos (List.all_eq_true.mpr fun i _ => ?_), fun ⟨i, hc, hno⟩ =>
        if_neg fun hall => ?_⟩
      · rw [hclaims, ← harrived]
        cases hc : q.claims i with
        | false => rfl
        | true => exact hall i hc
      · have hi := List.all_eq_true.mp hall i (mem_allAxes i)
        rw [hclaims, hc, ← harrived, hno] at hi
        exact Bool.false_ne_true hi
    · have hvtkq := hkept h1 h2
      have htake : (takeStep p).tkq = q.tkq := hstart.symm.trans hvtkq
      exact (hstep (by rw [htake]; exact h3)).trans htake
  · have hop : ¬ s.operating = true := fun h => Bool.false_ne_true ((operating_released h).symm.trans hr)
    exact congrArg Host.Outcome.next ((if_neg hop).trans (if_pos hr))
end

section
/-! PROOFS. What handing on a frame leaves of the Line Interface, and that it clears no request flag (R9, R10). -/

namespace Sys2Proof.Machine

/-- What the blocks that take a frame leave: the settings, the Line Interface but for a placed STOP or STATUS, and every flag that is
set. -/
structure Handles (s t : State) : Prop where
  cfg : t.cfg = s.cfg
  lif : t.lif.quiet = s.lif.quiet
  raises : s.Raises t

/-- What the owner of a cue leaves beside: the last-ARM record, and the own entry but for its mirror. -/
structure Hands (s t : State) : Prop extends Handles s t where
  lastArm : t.lastArm = s.lastArm
  own : ∀ st : StationNo, st = s.cfg.own → t.peers[st].quiet = s.peers[st].quiet

section
variable {s t u : State}

theorem Handles.refl (s : State) : Handles s s := ⟨rfl, rfl, .refl s⟩

theorem Handles.trans (h : Handles s t) (h' : Handles t u) : Handles s u :=
  ⟨h'.cfg.trans h.cfg, h'.lif.trans h.lif, h.raises.trans h'.raises⟩

theorem Hands.of_rfl (hcfg : t.cfg = s.cfg) (hlif : t.lif = s.lif) (hlast : t.lastArm = s.lastArm) (hpeers : t.peers = s.peers)
    (hflags : s.Raises t) : Hands s t :=
  ⟨⟨hcfg, congrArg Lif.quiet hlif, hflags⟩, hlast, fun _ _ => by rw [hpeers]⟩

theorem Hands.refl (s : State) : Hands s s := .of_rfl rfl rfl rfl rfl (.refl s)

theorem Hands.trans (h : Hands s t) (h' : Hands t u) : Hands s u :=
  ⟨h.toHandles.trans h'.toHandles, h'.lastArm.trans h.lastArm, fun st hst =>
    (h'.own st (hst.trans (congrArg Settings.own h.cfg.symm))).trans (h.own st hst)⟩

theorem Hands.of_quiet (h : t.quiet = s.quiet) (hr : s.Raises t) : Hands s t :=
  ⟨⟨cfg_of_quiet h, lif_of_quiet h, hr⟩, congrArg (·.lastArm) h, fun st hst => by
    subst hst
    exact ownPeer_of_quiet h⟩

theorem takeCause_hands (loc : Bool) (o : StationNo) (k : Cause) (c : Category) (s : State) :
    Hands s (takeCause loc o k c s) := .of_quiet (takeCause_quiet loc o k c s) (takeCause_raises loc o k c s)

theorem giveCauseIf_hands (b : Bool) (k : Cause) (c : Category) (s : State) : Hands s (giveCauseIf b k c s) :=
  .of_quiet (giveCauseIf_quiet b k c s) (giveCauseIf_raises b k c s)

theorem setTake_hands (q : Tkq) (s : State) : Hands s (setTake q s) := by
  have h := setTake_quiet q s
  have hq : (setTake q s).quiet = ({ s with tkq := q } : State).quiet := h
  have hands : Hands { s with tkq := q } (setTake q s) := .of_quiet hq (setTake_raises q s)
  exact ⟨⟨hands.cfg, hands.lif, hands.raises⟩, hands.lastArm, hands.own⟩

theorem setStore_hands (k : Tks) (s : State) : Hands s (setStore k s) :=
  .of_rfl rfl rfl rfl rfl (setStore_raises k s)

theorem endRecordingNow_hands (complete : Bool) (s : State) : Hands s (endRecordingNow complete s) :=
  setStore_hands _ s

theorem reformZones_hands (f : ZoneNo → Bool) (s : State) : Hands s (reformZones f s) :=
  .of_quiet (reformZones_quiet f s) (setZones_raises _ s)

theorem peerReaders_hands (b : Bool) (st : StationNo) (s : State) : Hands s (peerReaders b st s) :=
  .of_quiet (peerReaders_quiet b st s) (peerReaders_raises b st s)

/-! ## Cues -/

theorem handTargets_hands (s : State) : Hands s (handTargets s) := .of_rfl rfl rfl rfl rfl (.of_flags rfl)

theorem armRecordTake_hands (c : CueMsg) (s : State) : Hands s (armRecordTake c s) := by
  unfold armRecordTake
  split
  · exact .of_rfl rfl rfl rfl rfl (.refl s)
  · exact setTake_hands _ s

theorem armPlayTake_hands (c : CueMsg) (s : State) : Hands s (armPlayTake c s) := by
  unfold armPlayTake
  split
  · exact .of_rfl rfl rfl rfl rfl (.refl s)
  · split
    · exact (setTake_hands _ s).trans (handTargets_hands _)
    · exact setTake_hands _ s

theorem goTake_hands (c : CueMsg) (s : State) : Hands s (goTake c s) := by
  unfold goTake
  split
  · exact .refl s
  · split
    · unfold goRecord
      exact (setTake_hands _ s).trans ((setStore_hands _ _).trans (setTake_hands _ _))
    · unfold goPlay
      split
      · exact (setTake_hands _ s).trans (setTake_hands _ _)
      · exact .of_rfl rfl rfl rfl rfl (.refl s)
    · exact .refl s

theorem haltTake_hands (c : CueMsg) (s : State) : Hands s (haltTake c s) := by
  unfold haltTake haltNow
  split
  · exact (endRecordingNow_hands true s).trans (setTake_hands _ _)
  · exact .refl s

theorem disarmTake_hands (c : CueMsg) (s : State) : Hands s (disarmTake c s) := by
  unfold disarmTake idleTake
  split
  · exact (endRecordingNow_hands true s).trans (setTake_hands _ _)
  · exact .refl s

theorem eraseCue_hands (c : CueMsg) (s : State) : Hands s (eraseCue c s) := by
  unfold eraseCue
  split
  · exact .refl s
  · split
    · exact .of_rfl rfl rfl rfl rfl (.refl s)
    · exact setStore_hands _ s

theorem calibrateAxis_hands (i : AxisNo) (s : State) : Hands s (calibrateAxis i s) := by
  unfold calibrateAxis
  split
  · exact .of_rfl rfl rfl rfl rfl (startSeek_raises i s)
  · exact .of_rfl rfl rfl rfl rfl (.refl s)

theorem calibrateCue_hands (c : CueMsg) (s : State) : Hands s (calibrateCue c s) := by
  unfold calibrateCue
  induction allAxes generalizing s with
  | nil => exact .refl s
  | cons i xs ih =>
    refine Hands.trans ?_ (ih _)
    beta_reduce
    split
    · exact calibrateAxis_hands i s
    · exact .refl s

theorem evaluateResume_hands (s : State) : Hands s (evaluateResume s) := by
  unfold evaluateResume
  split
  · split
    · next k _ =>
      have hmarked : Hands s { s with
          stop := { s.stop with resumeBlocked := true, blocking := some k, seq := s.stop.seq + 1 }
          svp := s.svp.raise flagResumeBlocked } := .of_rfl rfl rfl rfl rfl (.raise rfl)
      exact hmarked.trans (.of_quiet (requestBurst_quiet k _) (.of_flags rfl))
    · have hresuming : Hands s { s with
          stop := { s.stop with
            state := .resuming, category := none, localMarks := [], remoteMarks := [], first := none, origin := none,
            resumeBlocked := false, blocking := none }
          driveOn := .awaited } := .of_rfl rfl rfl rfl rfl (.of_flags rfl)
      exact hresuming.trans (.of_quiet (announce_quiet _) (.of_flags rfl))
  · exact .refl s

/-- What the owner of a new cue leaves. -/
theorem dispatchCue_hands (c : CueMsg) (s : State) : Hands s (dispatchCue c s) := by
  unfold dispatchCue
  split
  · exact armRecordTake_hands c s
  · exact armPlayTake_hands c s
  · exact goTake_hands c s
  · exact haltTake_hands c s
  · exact disarmTake_hands c s
  · exact evaluateResume_hands s
  · exact eraseCue_hands c s
  · exact calibrateCue_hands c s

/-! ## Every frame -/

theorem takeCue_handles (sender : StationNo) (c : CueMsg) (s : State) : Handles s (takeCue sender c s) := by
  have hheard : Handles s { s with
      peers := s.peers.set sender { s.peers[sender] with cueSeq := some c.seq }
      lastArm := armContextAfter sender c s.lastArm } := ⟨rfl, rfl, .refl s⟩
  unfold takeCue
  dsimp only
  split
  · exact hheard.trans (dispatchCue_hands c _).toHandles
  · exact hheard

theorem receiveDemand_handles (sender : StationNo) (m : DemandMsg) (s : State) : Handles s (receiveDemand sender m s) := by
  unfold receiveDemand
  split_ifs <;> exact ⟨rfl, rfl, .refl s⟩

theorem hearDemand_handles (st : StationNo) (i : Fin 4) (m : DemandMsg) (s : State) : Handles s (hearDemand st i m s) := by
  have hheard : Handles s { s with peers := s.peers.set st (s.peers[st].hearDemand i m.seq) } := ⟨rfl, rfl, .refl s⟩
  exact hheard.trans (receiveDemand_handles st m _)

theorem participantSeen_handles (st : StationNo) (m : StatusMsg) (s : State) : Handles s (participantSeen st m s) := by
  have hidle : Handles s (idleTake s) := (setTake_hands _ s).toHandles
  have habort : Handles s (abortWithoutStop s) := ((endRecordingNow_hands false s).trans (setTake_hands _ _)).toHandles
  unfold participantSeen
  split
  · split
    iterate 3
      split
      · exact hidle
      · exact .refl s
    iterate 2
      split
      · exact habort
      · exact .refl s
    exact .refl s
  · exact .refl s

theorem receiveStatus_handles (st : StationNo) (m : StatusMsg) (s : State) : Handles s (receiveStatus st m s) := by
  have hpeer (e : PeerEntry) (changed : Bool) : Handles s (setPeer st e changed s) := ⟨rfl, rfl, .raiseIf rfl⟩
  exact (hpeer _ _).trans (((giveCauseIf_hands _ _ _ _).toHandles.trans (peerReaders_hands _ _ _).toHandles).trans
    (participantSeen_handles st m _))

theorem receiveAxis_handles (st : StationNo) (i : AxisNo) (m : AxisMsg) (s : State) : Handles s (receiveAxis st i m s) := by
  have hreport : Handles s { s with
      peers := s.peers.set st { s.peers[st] with reports := s.peers[st].reports.set i (.of m s.time) } } := ⟨rfl, rfl, .refl s⟩
  exact hreport.trans (reformZones_hands _ _).toHandles

theorem receiveStop_handles (m : StopMsg) (s : State) : Handles s (receiveStop m s) := by
  have hseen : Handles s { s with stopSeen := s.stopSeen.set m.origin (some m.seq) } := ⟨rfl, rfl, .refl s⟩
  unfold receiveStop
  split
  · exact .refl s
  · exact hseen.trans (takeCause_hands _ _ _ _ _).toHandles

/-- What the blocks that take a frame leave. -/
theorem handFrame_handles (f : Frame) (s : State) : Handles s (handFrame f s) := by
  have hstatus : Handles s (match parseStatus f.wire.payload with
      | some m => if f.wire.sender = s.cfg.own then s else receiveStatus f.wire.sender m s
      | none => s) := by
    split
    · split
      · exact .refl s
      · exact receiveStatus_handles _ _ s
    · exact .refl s
  unfold handFrame
  split
  · split
    · exact receiveStop_handles _ s
    · exact .refl s
  · exact hstatus
  · exact hstatus
  · split
    · exact takeCue_handles _ _ s
    · exact .refl s
  · exact hearDemand_handles _ _ _ s
  · split
    · exact .refl s
    · exact receiveAxis_handles _ _ _ s
  · exact .refl s

end
end Sys2Proof.Machine
end

section
/-! PROOFS. The read-back of an own frame (R3, R5, R8), and what the end of an attempt counts (R19, R21). -/

namespace Sys2Proof.Machine

/-! ## The read-back -/

theorem readBack_same (k : Nat) {a : Bool} {sent cells : List Bool} (h : sent ≠ []) :
    readBack k (a :: sent) (a :: cells) = readBack (k + 1) sent cells := by
  obtain ⟨b, more, rfl⟩ := List.exists_cons_of_ne_nil h
  rw [readBack]
  · rw [if_pos rfl]
  · exact nofun

theorem readBack_differs (k : Nat) {a : Bool} {sent cells : List Bool} (h : sent ≠ []) :
    readBack k (a :: sent) ((!a) :: cells) = if 1 ≤ k ∧ k ≤ 8 ∧ a = true then some .lost else some .bitError := by
  obtain ⟨b, more, rfl⟩ := List.exists_cons_of_ne_nil h
  have hne : a ≠ !a := by cases a <;> decide
  rw [readBack]
  · rw [if_neg hne]
  · exact nofun

/-- Cells read back as sent settle nothing. -/
theorem readBack_append (xs : List Bool) {sent : List Bool} (cells : List Bool) (h : sent ≠ []) (k : Nat) :
    readBack k (xs ++ sent) (xs ++ cells) = readBack (k + xs.length) sent cells := by
  induction xs generalizing k with
  | nil => rfl
  | cons x xs ih =>
    refine (readBack_same k (List.append_ne_nil_of_right_ne_nil xs h)).trans ((ih (k + 1)).trans ?_)
    rw [List.length_cons, Nat.add_right_comm, Nat.add_assoc]

theorem frameCells_body (own : StationNo) (f : TxFrame) : frameCells own f = (frameCells own f).dropLast ++ [true] := by
  rw [frameCells, List.dropLast_concat]

theorem frameCells_length (own : StationNo) (f : TxFrame) : (frameCells own f).length = 30 + 8 * f.payload.length := by
  have hbytes : (bytesBits f.payload).length = 8 * f.payload.length := by
    rw [bytesBits, List.length_flatMap]
    simp only [natBits_length, List.map_const', List.sum_replicate, smul_eq_mul, Nat.mul_comm]
  simp only [frameCells, checkedBits, List.length_append, List.length_cons, List.length_nil, natBits_length, hbytes]
  omega

theorem readBack_unacked (own : StationNo) (f : TxFrame) :
    readBack 0 (frameCells own f) (frameCells own f) = some .unacked := by
  rw [frameCells_body]
  exact readBack_append _ _ (List.cons_ne_nil _ _) 0

theorem readBack_acked (own : StationNo) (f : TxFrame) :
    readBack 0 (frameCells own f) ((frameCells own f).dropLast ++ [false]) = some .acked := by
  conv_lhs => rw [frameCells_body own f]
  rw [List.dropLast_concat]
  exact readBack_append _ _ (List.cons_ne_nil _ _) 0

/-- The first cell that differs before the acknowledge cell settles the outcome. -/
theorem readBack_split {own : StationNo} {f : TxFrame} {k : Nat} {b : Bool} (rest : List Bool)
    (hk : (frameCells own f)[k]? = some b) (hlt : k + 1 < (frameCells own f).length) :
    readBack 0 (frameCells own f) ((frameCells own f).take k ++ (!b) :: rest)
      = if 1 ≤ k ∧ k ≤ 8 ∧ b = true then some .lost else some .bitError := by
  obtain ⟨hk', hb⟩ := List.getElem?_eq_some_iff.mp hk
  have hdrop : (frameCells own f).drop (k + 1) ≠ [] := by
    rw [Ne, List.drop_eq_nil_iff]
    omega
  have hsplit : frameCells own f = (frameCells own f).take k ++ b :: (frameCells own f).drop (k + 1) := by
    rw [← hb, List.cons_getElem_drop_succ, List.take_append_drop]
  conv_lhs => rw [hsplit]
  rw [List.take_left' (by rw [List.length_take]; omega)]
  rw [readBack_append _ _ (List.cons_ne_nil _ _), readBack_differs _ hdrop, List.length_take, Nat.min_eq_left hk'.le, Nat.zero_add]

/-- The identifier ends before the acknowledge cell. -/
theorem readBack_lost {own : StationNo} {f : TxFrame} {k : Nat} (rest : List Bool) (h1 : 1 ≤ k) (h8 : k ≤ 8)
    (hk : (frameCells own f)[k]? = some true) :
    readBack 0 (frameCells own f) ((frameCells own f).take k ++ false :: rest) = some .lost := by
  have hlt : k + 1 < (frameCells own f).length := by
    rw [frameCells_length]
    omega
  exact (readBack_split rest hk hlt).trans (if_pos ⟨h1, h8, rfl⟩)

theorem readBack_bitError {own : StationNo} {f : TxFrame} {k : Nat} {b : Bool} (rest : List Bool)
    (hk : (frameCells own f)[k]? = some b) (hlt : k + 1 < (frameCells own f).length) (hno : ¬ (1 ≤ k ∧ k ≤ 8 ∧ b = true)) :
    readBack 0 (frameCells own f) ((frameCells own f).take k ++ (!b) :: rest) = some .bitError :=
  (readBack_split rest hk hlt).trans (if_neg hno)

/-! ## What the end of an attempt counts (R5, R8, R19, R21) -/

/-- Two Line Interfaces with the same failure count and the same counters of the outcomes, the second with no own frame on the line
where the first has none. -/
structure Lif.Tallied (l q : Lif) : Prop where
  onLine : l.onLine = none → q.onLine = none
  bitErrors : q.bitErrors = l.bitErrors
  arbitrationLosses : q.arbitrationLosses = l.arbitrationLosses
  unacknowledged : q.unacknowledged = l.unacknowledged
  failures : q.failures = l.failures

theorem Lif.Tallied.trans {a b c : Lif} (h : a.Tallied b) (h' : b.Tallied c) : a.Tallied c :=
  ⟨h'.onLine ∘ h.onLine, h'.bitErrors.trans h.bitErrors, h'.arbitrationLosses.trans h.arbitrationLosses,
    h'.unacknowledged.trans h.unacknowledged, h'.failures.trans h.failures⟩

theorem Lif.Tallied.refl (l : Lif) : l.Tallied l := ⟨id, rfl, rfl, rfl, rfl⟩

theorem Lif.Tallied.of_quiet {l q : Lif} (h : q.quiet = l.quiet) : l.Tallied q where
  onLine hl := by
    have hline : q.onLine.map _ = l.onLine.map _ := congrArg Lif.onLine h
    rw [hl] at hline
    exact Option.map_eq_none_iff.mp hline
  bitErrors := congrArg (·.bitErrors) h
  arbitrationLosses := congrArg (·.arbitrationLosses) h
  unacknowledged := congrArg (·.unacknowledged) h
  failures := congrArg (·.failures) h

/-- The state once the slot of a frame and the counters have taken the end of its attempt. -/
def State.attempted (s : State) (f : TxFrame) (r : AttemptResult) : State :=
  { s with
    lif := (s.lif.attemptRule f r).countAttempt f r
    svp := s.svp.raiseIf (s.lif.dropsCue f r) flagCueFail }

section
variable {s : State} {f : TxFrame} {r : AttemptResult} {cells : List Bool}

theorem exec_attempt (hop : s.operating = true) (hline : s.lif.onLine = some f)
    (hr : readBack 0 (frameCells s.cfg.own f) cells = some r) :
    exec (.attemptEnd cells) s = .next (endEvent (endAttempt f r cells s)) := by
  refine congrArg Host.Outcome.next ((event_operating hop).trans (congrArg endEvent ?_))
  unfold attemptWork
  rw [hline]
  dsimp only
  rw [hr]

theorem endAttempt_acked (cells : List Bool) (s : State) : endAttempt f .acked cells s
    = handFrame (ownFrame s.cfg.own f) (judgeMute (s.attempted f .acked)) := rfl

theorem endAttempt_bitError (cells : List Bool) (s : State) : endAttempt f .bitError cells s
    = receiveLate cells (judgeMute (s.attempted f .bitError)) := rfl

theorem endAttempt_unacked (cells : List Bool) (s : State) : endAttempt f .unacked cells s
    = judgeMute (s.attempted f .unacked) := rfl

theorem endAttempt_lost (cells : List Bool) (s : State) : endAttempt f .lost cells s = judgeMute (s.attempted f .lost) := rfl

theorem judgeMute_rests (h : s.lif.failures ≠ 16 ∨ s.lif.mute ≠ .off) : judgeMute s = s :=
  if_neg fun hm => h.elim (absurd hm.1) (absurd hm.2)

theorem judgeMute_mutes (hf : s.lif.failures = 16) (hm : s.lif.mute = .off) : judgeMute s
    = giveCause .lineMute .brake { s with
        lif := s.lif.enterLineMute, svp := s.svp.raiseIf (!s.lif.cues.isEmpty) flagCueFail } := if_pos ⟨hf, hm⟩

theorem judgeMute_tallied (s : State) : s.lif.Tallied (judgeMute s).lif := by
  unfold judgeMute
  split
  · have hmute : s.lif.Tallied s.lif.enterLineMute := ⟨id, rfl, rfl, rfl, rfl⟩
    exact hmute.trans (.of_quiet (lif_of_quiet (giveCause_quiet ..)))
  · exact .refl _

theorem judgeMute_raises (s : State) : s.Raises (judgeMute s) := by
  unfold judgeMute
  split
  · refine State.Raises.trans (t := { s with
      lif := s.lif.enterLineMute, svp := s.svp.raiseIf (!s.lif.cues.isEmpty) flagCueFail }) (.raiseIf rfl) ?_
    exact takeCause_raises true _ _ _ _
  · exact .refl s

theorem findDuplicate_tallied (s : State) : s.lif.Tallied (findDuplicate s).lif := by
  unfold findDuplicate
  split
  · exact .refl _
  · have hmute : s.lif.Tallied s.lif.enterPermanentMute := ⟨fun _ => rfl, rfl, rfl, rfl, rfl⟩
    exact hmute.trans (.of_quiet (lif_of_quiet (giveCause_quiet ..)))

theorem findDuplicate_raises (s : State) : s.Raises (findDuplicate s) := by
  unfold findDuplicate
  split
  · exact .refl s
  · refine State.Raises.trans (t := { s with
      lif := s.lif.enterPermanentMute, svp := s.svp.raiseIf (!s.lif.cues.isEmpty) flagCueFail }) (.raiseIf rfl) ?_
    exact takeCause_raises true _ _ _ _

theorem carryOut_kept (g : Frame) (v : Verdict) (s : State) :
    s.lif.Tallied (carryOut g v s).lif ∧ s.Raises (carryOut g v s) := by
  obtain ⟨u, hu⟩ : ∃ u : State, u = { s with
      lif := (s.lif.countVerdict v).countWindow s.cfg.checkThreshold (decide (v = .checkFailure))
      svp := s.svp.raiseIf (decide (v = .checkFailure) && s.lif.checkAlerts s.cfg.checkThreshold) flagCounterAlert } := ⟨_, rfl⟩
  have hlif : s.lif.Tallied u.lif := hu ▸ ⟨id, rfl, rfl, rfl, rfl⟩
  have hflags : s.Raises u := hu ▸ .raiseIf rfl
  by_cases hr : v = .received
  · have heq : carryOut g v s = handFrame g u := by
      subst hr
      exact hu ▸ rfl
    have hands := handFrame_handles g u
    rw [heq]
    exact ⟨hlif.trans (.of_quiet hands.lif), hflags.trans hands.raises⟩
  by_cases hd : v = .duplicate
  · have heq : carryOut g v s = findDuplicate u := by
      subst hd
      exact hu ▸ rfl
    rw [heq]
    exact ⟨hlif.trans (findDuplicate_tallied u), hflags.trans (findDuplicate_raises u)⟩
  · have heq : carryOut g v s = u := by rw [hu, carryOut_counted g s hr hd]
    rw [heq]
    exact ⟨hlif, hflags⟩

theorem receiveLate_kept (cells : List Bool) (s : State) :
    s.lif.Tallied (receiveLate cells s).lif ∧ s.Raises (receiveLate cells s) := by
  have hbuffer : s.lif.Tallied (s.lif.buffer (frameOfCells cells) false) := ⟨id, rfl, rfl, rfl, rfl⟩
  unfold receiveLate
  dsimp only
  split
  · exact ⟨hbuffer, .refl s⟩
  · obtain ⟨htallied, hraises⟩ := carryOut_kept (frameOfCells cells) ‹_› { s with lif := s.lif.buffer (frameOfCells cells) false }
    exact ⟨hbuffer.trans htallied, hraises⟩

/-- What follows from the end of an attempt leaves its counts, and every flag that is set. -/
theorem endAttempt_kept (f : TxFrame) (r : AttemptResult) (cells : List Bool) (s : State) :
    (s.attempted f r).lif.Tallied (endEvent (endAttempt f r cells s)).lif
      ∧ (s.attempted f r).Raises (endEvent (endAttempt f r cells s)) := by
  obtain ⟨u, hu⟩ : ∃ u, u = judgeMute (s.attempted f r) := ⟨_, rfl⟩
  have hmute : (s.attempted f r).lif.Tallied u.lif := hu ▸ judgeMute_tallied _
  have hflags : (s.attempted f r).Raises u := hu ▸ judgeMute_raises _
  have hwork : u.lif.Tallied (endAttempt f r cells s).lif ∧ u.Raises (endAttempt f r cells s) := by
    cases r with
    | acked =>
      rw [endAttempt_acked, ← hu]
      have hands := handFrame_handles (ownFrame s.cfg.own f) u
      exact ⟨.of_quiet hands.lif, hands.raises⟩
    | bitError =>
      rw [endAttempt_bitError, ← hu]
      exact receiveLate_kept cells u
    | unacked =>
      rw [endAttempt_unacked, ← hu]
      exact ⟨.refl _, .refl u⟩
    | lost =>
      rw [endAttempt_lost, ← hu]
      exact ⟨.refl _, .refl u⟩
  exact ⟨hmute.trans (hwork.1.trans (.of_quiet (lif_of_quiet (endEvent_quiet _)))),
    hflags.trans (hwork.2.trans (endEvent_raises _))⟩

/-- A state that an attempt leaves with its failure count below 16 is not muted by it. -/
theorem attempted_unmuted (h : (s.attempted f r).lif.failures ≠ 16 ∨ (s.attempted f r).lif.mute ≠ .off) :
    judgeMute (s.attempted f r) = s.attempted f r := judgeMute_rests h

theorem attempted_svp (h : s.lif.dropsCue f r = false) : s.attempted f r
    = { s with lif := (s.lif.attemptRule f r).countAttempt f r } := by
  rw [State.attempted, h]
  rfl

theorem dropsCue_other (h : f.slot ≠ .cue ∨ r.failed = false) (l : Lif) : l.dropsCue f r = false :=
  Bool.eq_false_iff.mpr fun hd => by
    obtain ⟨hslot, hfailed⟩ := Lif.dropsCue_head hd
    exact h.elim (absurd hslot) fun hf => Bool.false_ne_true (hf.symm.trans hfailed)

end

end Sys2Proof.Machine
end

section
/-! PROOFS. The outcomes of an attempt, and the end of LINE-MUTE (R5, R8, R10, R17, R21, R22): O30. -/

namespace Sys2Proof.Machine

section
variable {s t : State} {f : TxFrame} {r : AttemptResult} {cells : List Bool}

/-! ## Probes (R22) -/

/-- What follows from the end of an attempt that does not mute the line leaves the mute state. -/
theorem endAttempt_mute (hr : r = .acked ∨ r = .unacked)
    (h : (s.attempted f r).lif.failures ≠ 16 ∨ (s.attempted f r).lif.mute ≠ .off) :
    (endEvent (endAttempt f r cells s)).lif.mute = (s.attempted f r).lif.mute := by
  have hkept := attempted_unmuted h
  have hwork : (endAttempt f r cells s).lif.quiet = (s.attempted f r).lif.quiet := by
    rcases hr with rfl | rfl
    · rw [endAttempt_acked, hkept]
      exact (handFrame_handles _ _).lif
    · rw [endAttempt_unacked, hkept]
  exact congrArg (·.mute) ((lif_of_quiet (endEvent_quiet _)).trans hwork)

/-- An own STATUS frame is handed to no block (R26). -/
theorem handFrame_ownStatus (s : State) (own : StationNo) (f : TxFrame) (hown : s.cfg.own = own) (h : f.cls = 1 ∨ f.cls = 5) :
    handFrame (ownFrame own f) s = s := by
  have hstatus : (match parseStatus (ownFrame own f).wire.payload with
      | some m => if (ownFrame own f).wire.sender = s.cfg.own then s else receiveStatus (ownFrame own f).wire.sender m s
      | none => s) = s := by
    split
    · exact if_pos hown.symm
    · rfl
  have hcls : (ownFrame own f).cls = f.cls := rfl
  rcases h with h | h <;> rw [h] at hcls <;> unfold handFrame <;> rw [hcls] <;> exact hstatus

/-! ## The own cue and the own DEMAND handed back (R10) -/

theorem handFrame_ownCue {m : CueMsg} (s : State) (own : StationNo) (hcls : f.cls = 2) (hm : parseCue f.payload = some m) :
    handFrame (ownFrame own f) s = takeCue own m s := by
  unfold handFrame
  rw [show (ownFrame own f).cls = 2 from hcls]
  show (match parseCue f.payload with
    | some c => takeCue own c s
    | none => s) = _
  rw [hm]

theorem handFrame_ownDemand (s : State) (own : StationNo) (hcls : f.cls = 3) :
    handFrame (ownFrame own f) s = hearDemand own f.index (parseDemand f.payload) s := by
  unfold handFrame
  rw [show (ownFrame own f).cls = 3 from hcls]
  rfl

/-- A cue taken on a state that differs in its Line Interface alone. -/
theorem takeCue_lif (w : Wire) (m : CueMsg) (l : Lif) (s : State) : takeCue w.sender m { s with lif := l }
    = if (!decide (s.peers[w.sender].cueSeq = some m.seq) && names m.mask s.cfg.own.val) = true then
        dispatchCue m { s.heardCue w m with lif := l } else { s.heardCue w m with lif := l } := by
  unfold takeCue State.heardCue
  dsimp only
  rw [armContextAfter_eq]

theorem receiveDemand_peers (sender : StationNo) (m : DemandMsg) (s : State) : (receiveDemand sender m s).peers = s.peers := by
  unfold receiveDemand
  split_ifs <;> rfl

/-- Evaluating a RESUME in STOPPED accepts or blocks it (R141, R142). -/
theorem evaluateResume_evaluated (h : s.stop.state = .stopped) :
    (evaluateResume s).stop.state = .resuming ∨ (evaluateResume s).stop.resumeBlocked = true := by
  rcases hp : s.persisting with _ | k
  · rw [evaluateResume_accepted h hp]
    exact .inl rfl
  · rw [evaluateResume_blocked h hp, blockResume]
    refine .inr ?_
    unfold requestBurst
    split <;> rfl

/-- The own cue that ends ACKED: as a received one (R10). -/
theorem endAttempt_cue {m : CueMsg} {w : Wire} {own : StationNo} (hown : own = s.cfg.own) (hcalm : s.calm) (hcls : f.cls = 2)
    (hm : parseCue f.payload = some m) (hw : w.sender = own) :
    (endEvent (endAttempt f .acked cells s)).peers[own].cueSeq = some m.seq
      ∧ (endEvent (endAttempt f .acked cells s)).lastArm = (s.heardCue w m).lastArm
      ∧ (s.peers[own].cueSeq = some m.seq ∨ names m.mask own.val = false → endEvent (endAttempt f .acked cells s)
          = { s.heardCue w m with lif := (endEvent (endAttempt f .acked cells s)).lif })
      ∧ (s.noOwnGates → s.peers[own].cueSeq ≠ some m.seq → names m.mask own.val = true → m.kind = .resume →
          s.stop.state = .stopped → (endEvent (endAttempt f .acked cells s)).stop.state = .resuming
            ∨ (endEvent (endAttempt f .acked cells s)).stop.resumeBlocked = true) := by
  subst hw
  obtain ⟨h, hh⟩ : ∃ h : State, h = { s.heardCue w m with lif := (s.attempted f .acked).lif } := ⟨_, rfl⟩
  have hacts : endAttempt f .acked cells s
      = if (!decide (s.peers[w.sender].cueSeq = some m.seq) && names m.mask s.cfg.own.val) = true then dispatchCue m h else h := by
    obtain ⟨l, hl⟩ : ∃ l, l = (s.attempted f .acked).lif := ⟨_, rfl⟩
    have hattempted : s.attempted f .acked = { s with lif := l } :=
      (attempted_svp (dropsCue_other (.inr rfl) _)).trans (hl ▸ rfl)
    rw [endAttempt_acked, attempted_unmuted (.inl (by exact nofun)), handFrame_ownCue _ _ hcls hm, hh, ← hl, hattempted]
    exact (congrArg (takeCue · m { s with lif := l }) hown.symm).trans (takeCue_lif w m l s)
  have hseq : h.peers[w.sender].cueSeq = some m.seq := by
    rw [hh]
    show (s.peers.set w.sender { s.peers[w.sender] with cueSeq := some m.seq })[w.sender].cueSeq = _
    rw [getElem_set_fin, if_pos rfl]
  have hlast : h.lastArm = (s.heardCue w m).lastArm := hh ▸ rfl
  have hcfg : h.cfg = s.cfg := hh ▸ rfl
  have hhcalm : h.calm := hh ▸ lif_calm _ (heardCue_calm w m hcalm)
  have hands : Hands h (endAttempt f .acked cells s) := by
    rw [hacts]
    split
    · exact dispatchCue_hands m h
    · exact .refl h
  have hend : Hands h (endEvent (endAttempt f .acked cells s)) :=
    hands.trans (.of_quiet (endEvent_quiet _) (endEvent_raises _))
  refine ⟨?_, hend.lastArm.trans hlast, fun hno => ?_, fun hgates hnew hnames hkind hstopped => ?_⟩
  · exact (congrArg (·.cueSeq) (hend.own w.sender (hown.trans (congrArg Settings.own hcfg.symm)))).trans hseq
  · rw [if_neg ?_] at hacts
    · rw [hacts, endEvent_calm hhcalm, hh]
    · rw [← hown]
      rcases hno with hno | hno
      · rw [decide_eq_true hno]
        exact nofun
      · rw [hno, Bool.and_false]
        exact nofun
  · rw [if_pos (by rw [← hown, decide_eq_false hnew, hnames]; rfl), dispatchCue_resume _ hkind] at hacts
    have hcfg' : (endAttempt f .acked cells s).cfg = s.cfg := hands.cfg.trans hcfg
    have hstop := (endEvent_eases (.inr ((noOwnGates_congr hcfg').mpr hgates))).stop
    rw [hstop, hacts]
    exact evaluateResume_evaluated (by rw [hh]; exact hstopped)

/-- The own DEMAND that ends ACKED is recorded in the own entry (R10, R36). -/
theorem endAttempt_demand (hcls : f.cls = 3) : (endEvent (endAttempt f .acked cells s)).peers[s.cfg.own].demandSeq
    = s.peers[s.cfg.own].demandSeq.set f.index (some (parseDemand f.payload).seq) := by
  obtain ⟨u, hu⟩ : ∃ u, u = endAttempt f .acked cells s := ⟨_, rfl⟩
  have hpeers : u.peers = s.peers.set s.cfg.own
      (s.peers[s.cfg.own].hearDemand f.index (parseDemand f.payload).seq) := by
    rw [hu, endAttempt_acked, attempted_unmuted (.inl (by exact nofun)), handFrame_ownDemand _ _ hcls, hearDemand,
      receiveDemand_peers]
    rfl
  have hcfg : u.cfg = s.cfg := by
    rw [hu, endAttempt_acked, attempted_unmuted (.inl (by exact nofun))]
    exact (handFrame_handles _ _).cfg
  have hend : Hands u (endEvent u) := .of_quiet (endEvent_quiet _) (endEvent_raises _)
  rw [← hu]
  refine (congrArg (·.demandSeq) (hend.own s.cfg.own (congrArg Settings.own hcfg.symm))).trans ?_
  show u.peers[s.cfg.own].demandSeq = _
  rw [hpeers, getElem_set_fin, if_pos rfl]
  rfl

end
end Sys2Proof.Machine

open Sys2Proof Sys2Proof.Machine

/-- Settles O30: the outcome through the first cell that differs; its counts through what follows from the end of an attempt, which
leaves them; and what is handed back through what the owners of a frame leave. -/
theorem attemptOutcomesAreCounted : Obligations.AttemptOutcomesAreCounted := by
  intro f s hop hline
  have hunacked := exec_attempt hop hline (readBack_unacked s.cfg.own f)
  have hacked := exec_attempt hop hline (readBack_acked s.cfg.own f)
  have htally (r : AttemptResult) (cells : List Bool) := (endAttempt_kept f r cells s).1
  refine ⟨fun hlt => ⟨?_, ?_, fun k rest h1 h8 hk => ?_, fun k b rest hk hend hno => ?_⟩, fun hslot hmute => ⟨?_, ?_⟩,
    fun x more cells hslot hcues hx hcells => ?_, fun hcalm => ⟨fun m w hcls hm hw => ?_, fun hcls => ?_, fun hlt => ?_,
    fun k rest hlt h1 h8 hk => ?_⟩⟩
  · have ht := htally .unacked (frameCells s.cfg.own f)
    exact ⟨_, hunacked, ht.onLine rfl, ht.unacknowledged, ht.failures.trans (Nat.min_eq_left (Nat.succ_le_succ hlt.le)), ht.bitErrors,
      ht.arbitrationLosses⟩
  · have ht := htally .acked ((frameCells s.cfg.own f).dropLast ++ [false])
    exact ⟨_, hacked, ht.onLine rfl, ht.failures, ht.unacknowledged, ht.bitErrors, ht.arbitrationLosses⟩
  · have ht := htally .lost ((frameCells s.cfg.own f).take k ++ false :: rest)
    exact ⟨_, exec_attempt hop hline (readBack_lost rest h1 h8 hk), ht.onLine rfl, ht.arbitrationLosses, ht.failures,
      ht.unacknowledged, ht.bitErrors⟩
  · have ht := htally .bitError ((frameCells s.cfg.own f).take k ++ (!b) :: rest)
    exact ⟨_, exec_attempt hop hline (readBack_bitError rest hk hend hno), ht.onLine rfl, ht.bitErrors,
      ht.failures.trans (Nat.min_eq_left (Nat.succ_le_succ hlt.le)), ht.unacknowledged, ht.arbitrationLosses⟩
  · have ht := htally .acked ((frameCells s.cfg.own f).dropLast ++ [false])
    refine ⟨_, hacked, ht.onLine rfl, (endAttempt_mute (.inl rfl) (.inl (by exact nofun))).trans (if_pos ⟨rfl, hslot, hmute⟩),
      ht.failures, fun hcalm hcls hrenewed => ?_⟩
    rw [endAttempt_acked, attempted_unmuted (.inl (by exact nofun)), handFrame_ownStatus (s.attempted f .acked) s.cfg.own f rfl hcls,
      attempted_svp (dropsCue_other (.inr rfl) _), endEvent_calm (lif_calm _ hcalm)]
    exact (Lif.attemptRule_status f .acked s.lif).1 ⟨.inr hslot, nofun, hrenewed⟩
  · have ht := htally .unacked (frameCells s.cfg.own f)
    have hstays : (s.attempted f .unacked).lif.mute = .lineMute := 
      (if_neg (by exact nofun) : (if AttemptResult.unacked = .acked ∧ f.slot = .probe ∧ s.lif.mute = .lineMute then .off else s.lif.mute) = s.lif.mute).trans hmute
    exact ⟨_, hunacked, ht.onLine rfl, (endAttempt_mute (.inr rfl) (.inr (by rw [hstays]; exact nofun))).trans hstays,
      ht.failures, ht.unacknowledged⟩
  · have hflag (r : AttemptResult) (hr : r.failed = true) : (endEvent (endAttempt f r cells s)).svp.flags.getLsbD flagCueFail = true := by
      refine (endAttempt_kept f r cells s).2 _ (Svp.raiseIf_set ?_ (by decide) s.svp)
      rw [Lif.dropsCue_cons f r s.lif hslot hcues, hr, hx]
      rfl
    rcases hcells with rfl | ⟨k, b, rest, hk, hend, hno, rfl⟩
    · exact ⟨_, hunacked, hflag _ rfl⟩
    · exact ⟨_, exec_attempt hop hline (readBack_bitError rest hk hend hno), hflag _ rfl⟩
  · exact ⟨_, hacked, endAttempt_cue rfl hcalm hcls hm hw⟩
  · exact ⟨_, hacked, endAttempt_demand hcls⟩
  · refine ⟨_, hunacked, ?_⟩
    have hbelow : (s.attempted f .unacked).lif.failures ≠ 16 := by
      show min (s.lif.failures + 1) 16 ≠ 16
      omega
    rw [endAttempt_unacked, attempted_unmuted (.inl hbelow), endEvent_same (s := s) (t := s.attempted f .unacked) rfl rfl hcalm]
    rfl
  · refine ⟨_, exec_attempt hop hline (readBack_lost rest h1 h8 hk), ?_⟩
    have hbelow : (s.attempted f .lost).lif.failures ≠ 16 := by
      show s.lif.failures ≠ 16
      omega
    rw [endAttempt_lost, attempted_unmuted (.inl hbelow), attempted_svp (dropsCue_other (.inr rfl) _),
      endEvent_calm (lif_calm _ hcalm)]
end

section
/-! PROOFS. The sixteenth failed attempt (R21): O32. -/

namespace Sys2Proof.Machine

/-! ## An own frame that breaks off (R3, R6) -/

/-- The four length cells of an own frame spell the length of its payload. -/
theorem frameCells_lengthCells (own : StationNo) {f : TxFrame} (h8 : f.payload.length ≤ 8) :
    bitsNat (((frameCells own f).drop 9).take 4) = f.payload.length := by
  have hdrop : (frameCells own f).drop 9 = natBits 4 f.payload.length ++ (bytesBits f.payload
      ++ natBits 16 (lineCheck f.cls own f.index f.payload.length f.payload).toNat ++ [true]) := by
    simp only [frameCells, checkedBits, List.append_assoc, List.cons_append]
    exact (List.drop_succ_cons ..).trans (List.drop_left' (natBits_length 8 _))
  rw [hdrop, List.take_left' (natBits_length 4 _)]
  exact bitsNat_natBits_of_lt (by omega)

/-- Cells that end before the acknowledge cell read as a frame with an idle cell inside (R4). -/
theorem frameOfCells_cut (own : StationNo) {f : TxFrame} (h8 : f.payload.length ≤ 8) {k : Nat} (b : Bool)
    (hk : k + 1 < (frameCells own f).length) :
    (frameOfCells ((frameCells own f).take k ++ [b])).wire.idleInside = true := by
  have hlength : ((frameCells own f).take k ++ [b]).length = k + 1 := by
    rw [List.length_append, List.length_take, Nat.min_eq_left (by omega)]
    rfl
  refine decide_eq_true ?_
  rw [hlength]
  rw [frameCells_length] at hk
  rcases Nat.lt_or_ge k 13 with hshort | hlong
  · omega
  · have hcells : (((frameCells own f).take k ++ [b]).drop 9).take 4 = ((frameCells own f).drop 9).take 4 := by
      have htake : ((frameCells own f).take k).length = k := by
        rw [List.length_take, frameCells_length]
        omega
      rw [List.drop_append_of_le_length (by omega), List.take_append_of_le_length (by rw [List.length_drop]; omega), List.drop_take,
        List.take_take, Nat.min_eq_left (by omega)]
    rw [hcells, frameCells_lengthCells own h8]
    exact hk

/-- The rest of such a frame is one more format error (log 16). -/
theorem receiveLate_cut {cells : List Bool} (h : (frameOfCells cells).wire.idleInside = true) (s : State) :
    ∃ l : Lif, receiveLate cells s = { s with lif := l }
      ∧ l.mute = s.lif.mute ∧ l.failures = s.lif.failures ∧ l.cues = s.lif.cues ∧ l.probeTimer = s.lif.probeTimer
      ∧ l.demand = s.lif.demand ∧ l.axis = s.lif.axis ∧ l.droppedCues = s.lif.droppedCues := by
  have hwhole : (frameOfCells cells).whole = false := by
    rw [Frame.whole, h]
    exact Bool.and_false _
  have hjudge : (frameOfCells cells).judgeLate (some s.cfg.own) = some .formatError := by
    rw [Frame.judgeLate, hwhole, Frame.judge_notWhole hwhole]
    rfl
  unfold receiveLate
  dsimp only
  rw [hjudge]
  dsimp only
  rw [carryOut_counted _ _ (by decide) (by decide)]
  exact ⟨_, rfl, rfl, rfl, rfl, rfl, rfl, rfl, rfl⟩

/-! ## LINE-MUTE (R21) -/

/-- A Line Interface in LINE-MUTE by a failure count of 16, with so many cues dropped. -/
structure Lif.LineMuted (dropped : Nat) (l : Lif) : Prop where
  mute : l.mute = .lineMute
  failures : l.failures = 16
  cues : l.cues = []
  probeTimer : l.probeTimer = 0
  slots : ∀ i : Fin 4, l.demand[i] = none ∧ l.axis[i] = none
  droppedCues : l.droppedCues = dropped

theorem Lif.LineMuted.congr {n : Nat} {l q : Lif} (h : l.LineMuted n) (hmute : q.mute = l.mute) (hfailures : q.failures = l.failures)
    (hcues : q.cues = l.cues) (htimer : q.probeTimer = l.probeTimer) (hdemand : q.demand = l.demand) (haxis : q.axis = l.axis)
    (hdropped : q.droppedCues = l.droppedCues) : q.LineMuted n where
  mute := hmute.trans h.mute
  failures := hfailures.trans h.failures
  cues := hcues.trans h.cues
  probeTimer := htimer.trans h.probeTimer
  slots := hdemand ▸ haxis ▸ h.slots
  droppedCues := hdropped.trans h.droppedCues

theorem Lif.LineMuted.of_quiet {n : Nat} {l q : Lif} (h : l.LineMuted n) (hq : q.quiet = l.quiet) : q.LineMuted n :=
  h.congr (congrArg (·.mute) hq) (congrArg (·.failures) hq) (congrArg (·.cues) hq) (congrArg (·.probeTimer) hq)
    (congrArg (·.demand) hq) (congrArg (·.axis) hq) (congrArg (·.droppedCues) hq)

theorem Lif.enterLineMute_muted {l : Lif} (h : l.failures = 16) :
    l.enterLineMute.LineMuted (min (l.droppedCues + l.cues.length) 65535) :=
  ⟨rfl, h, rfl, rfl, fun _ => ⟨Vector.getElem_replicate .., Vector.getElem_replicate ..⟩, rfl⟩

/-- A cue that its failed attempt drops is counted there, and every other one at the mute. -/
theorem Lif.attemptRule_drops (f : TxFrame) {r : AttemptResult} (hr : r.failed = true) (l : Lif) :
    min ((l.attemptRule f r).droppedCues + (l.attemptRule f r).cues.length) 65535
      = min (l.droppedCues + l.cues.length) 65535 := by
  have hne : r ≠ .acked := by
    rintro rfl
    exact Bool.false_ne_true hr
  rw [Lif.attemptRule_droppedCues, Lif.attemptRule_cues]
  by_cases hslot : f.slot = .cue
  · rw [if_pos hslot]
    rcases hcues : l.cues with _ | ⟨c, rest⟩
    · rw [if_neg (by rw [Lif.dropsCue, hcues, Bool.and_false]; exact nofun)]
      rfl
    · rw [Lif.dropsCue_cons f r l hslot hcues, hr, Bool.true_and, cuesAfter, if_neg hne, if_pos hr]
      by_cases hthird : 3 ≤ c.attempts + 1
      · rw [if_pos (decide_eq_true hthird), if_pos hthird, List.length_cons, satInc]
        omega
      · rw [if_neg (by rw [decide_eq_false hthird]; exact nofun), if_neg hthird]
        rfl
  · rw [if_neg hslot, if_neg (by rw [dropsCue_other (.inl hslot)]; exact nofun)]

section
variable {s t : State} {f : TxFrame} {r : AttemptResult} {n : Nat} {cued : Prop}

/-- A station that LINE-MUTE has stopped, with CUE-FAIL set where it dropped a cue (R21). -/
structure State.MutedOut (cued : Prop) (n : Nat) (s : State) : Prop where
  lif : s.lif.LineMuted n
  stop : s.stoppedBy .lineMute .brake
  cueFail : cued → s.svp.flags.getLsbD flagCueFail = true

theorem judgeMute_mutedOut (hf : s.lif.failures = 16) (hm : s.lif.mute = .off) :
    (judgeMute s).MutedOut (s.svp.flags.getLsbD flagCueFail = true ∨ s.lif.cues ≠ [])
      (min (s.lif.droppedCues + s.lif.cues.length) 65535) := by
  rw [judgeMute_mutes hf hm]
  refine ⟨(Lif.enterLineMute_muted hf).of_quiet (lif_of_quiet (giveCause_quiet ..)), takeCause_stoppedBy _ _ _ _, fun hc => ?_⟩
  refine takeCause_raises true _ _ _ _ _ (hc.elim (fun hset => ?_) fun hcues => ?_)
  · exact State.Raises.raiseIf (s := s)
      (t := { s with lif := s.lif.enterLineMute, svp := s.svp.raiseIf (!s.lif.cues.isEmpty) flagCueFail }) rfl _ hset
  · refine Svp.raiseIf_set ?_ (by decide) s.svp
    obtain ⟨c, rest, hcons⟩ := List.exists_cons_of_ne_nil hcues
    rw [hcons]
    rfl

theorem State.MutedOut.endEvent (h : s.MutedOut cued n) : (endEvent s).MutedOut cued n :=
  ⟨h.lif.of_quiet (lif_of_quiet (endEvent_quiet s)), endEvent_stoppedBy h.stop, fun hc => endEvent_flag (h.cueFail hc)⟩

/-- What the sixteenth failed attempt leaves at its end. -/
theorem attempted_mutedOut (hr : r.failed = true) (hf : s.lif.failures = 15) (hm : s.lif.mute = .off) :
    (judgeMute (s.attempted f r)).MutedOut (s.lif.cues ≠ []) (min (s.lif.droppedCues + s.lif.cues.length) 65535) := by
  have hne : r ≠ .acked := by
    rintro rfl
    exact Bool.false_ne_true hr
  have hfailures : (s.attempted f r).lif.failures = 16 := by
    show (if r = .acked then 0 else if r.failed then min (s.lif.failures + 1) 16 else s.lif.failures) = 16
    rw [if_neg hne, if_pos hr, hf, Nat.min_self]
  have hmute : (s.attempted f r).lif.mute = .off := by
    show (if r = .acked ∧ f.slot = .probe ∧ s.lif.mute = .lineMute then .off else s.lif.mute) = Mute.off
    rw [if_neg fun h => hne h.1, hm]
  obtain ⟨hlif, hstop, hflag⟩ := judgeMute_mutedOut hfailures hmute
  refine ⟨Lif.attemptRule_drops f hr s.lif ▸ hlif, hstop, fun hcues => hflag ?_⟩
  by_cases hdrops : s.lif.dropsCue f r = true
  · exact .inl (Svp.raiseIf_set hdrops (by decide) s.svp)
  · refine .inr fun hempty => hcues ?_
    have hcuesAfter : (s.lif.attemptRule f r).cues = [] := hempty
    rw [Lif.attemptRule_cues] at hcuesAfter
    split at hcuesAfter
    case isFalse => exact hcuesAfter
    case isTrue hslot =>
      rcases hc : s.lif.cues with _ | ⟨c, rest⟩
      · rfl
      · rw [Lif.dropsCue_cons f r s.lif hslot hc, hr, Bool.true_and, decide_eq_true_iff] at hdrops
        rw [hc, cuesAfter, if_neg hne, if_pos hr, if_neg hdrops] at hcuesAfter
        exact absurd hcuesAfter (List.cons_ne_nil _ _)

end
end Sys2Proof.Machine

open Sys2Proof Sys2Proof.Machine

/-- Settles O32: the failed attempt mutes the line, and the cells of a frame that broke off add a format error to it. -/
theorem sixteenFailuresMute : Obligations.SixteenFailuresMute := by
  intro f s cells hop hline hf hm hcells
  obtain ⟨t, ht, hmuted⟩ : ∃ t, exec (.attemptEnd cells) s = .next t
      ∧ t.MutedOut (s.lif.cues ≠ []) (min (s.lif.droppedCues + s.lif.cues.length) 65535) := by
    rcases hcells with rfl | ⟨h8, k, b, hk, hend, hno, rfl⟩
    · refine ⟨_, exec_attempt hop hline (readBack_unacked s.cfg.own f), ?_⟩
      rw [endAttempt_unacked]
      exact (attempted_mutedOut rfl hf hm).endEvent
    · refine ⟨_, exec_attempt hop hline (readBack_bitError [] hk hend hno), State.MutedOut.endEvent ?_⟩
      rw [endAttempt_bitError]
      obtain ⟨hlif, hstop, hflag⟩ := attempted_mutedOut (f := f) (r := .bitError) rfl hf hm
      obtain ⟨l, hl, hmute, hfailures, hcues, htimer, hdemand, haxis, hdropped⟩ :=
        receiveLate_cut (frameOfCells_cut s.cfg.own h8 (!b) hend) (judgeMute (s.attempted f .bitError))
      rw [hl]
      exact ⟨hlif.congr hmute hfailures hcues htimer hdemand haxis hdropped, hstop, hflag⟩
  obtain ⟨hlif, ⟨hmarks, ⟨hrun, hresuming⟩, hrank⟩, hflag⟩ := hmuted
  exact ⟨t, ht, hlif.mute, hlif.failures, hlif.cues, hlif.probeTimer, hlif.slots, hlif.droppedCues, hflag, hmarks, hrun, hresuming,
    hrank⟩
end

section
/-! PROOFS. The beginning of a start (R131, R146, R147, R162, R182, R191): O13. -/

namespace Sys2Proof.Machine

theorem getElem_set_fin_same {α : Type} {n : Nat} (v : Vector α n) (i : Fin n) (x : α) : (v.set i x)[i] = x :=
  (getElem_set_fin v i i x).trans (if_pos rfl)

/-! ## One entry at a reset-pin start (R162) -/

section
variable {t : Tks} {i : EntryNo}

/-- An entry that a reset-pin start ends with its blocks as they are: no upload that is still open (R162). -/
def DirEntry.Settled (e : DirEntry) : Prop := e.state = .recording → e.uploaded = false

theorem Tks.truncateEntry_other (h : t.dir[i].state ≠ .recording) : t.truncateEntry i = t := if_pos h

theorem Tks.truncateEntry_recorded (h : t.dir[i].state = .recording) (hu : t.dir[i].uploaded = false) :
    t.truncateEntry i = t.setEntry i { t.dir[i] with state := .truncated } :=
  (if_neg (not_not.mpr h)).trans (if_pos hu)

/-- The samples of an upload that its written blocks hold (R162). -/
def Tks.writtenLength (t : Tks) (e : DirEntry) : Nat :=
  min e.length ((t.upload.map Prod.snd).getD 0 * samplesPerBlock e.axes.length)

/-- An upload of which no block is written is emptied (R162). -/
theorem Tks.truncateEntry_unwritten (h : t.dir[i].state = .recording) (hu : t.dir[i].uploaded = true)
    (hlen : t.writtenLength t.dir[i] = 0) : t.truncateEntry i = (t.release (t.chain t.dir[i])).setEntry i {} := by
  unfold Tks.truncateEntry
  rw [if_neg (not_not.mpr h), if_neg (by rw [hu]; exact nofun)]
  exact if_pos hlen

/-- An upload cut to its first blocks (R162). -/
def Tks.cutEntry (t : Tks) (i : EntryNo) (length keep : Nat) : Tks :=
  { t.release ((t.chain t.dir[i]).drop keep) with
    links := drop (((t.chain t.dir[i]).drop keep).foldl drop t.links) ((t.chain t.dir[i]).getD (keep - 1) 0)
    dir := t.dir.set i { t.dir[i] with
      state := .truncated, length := length, blocks := keep, last := some ((t.chain t.dir[i]).getD (keep - 1) 0),
      stats := t.statsOver t.dir[i] length } }

theorem Tks.truncateEntry_written (h : t.dir[i].state = .recording) (hu : t.dir[i].uploaded = true)
    (hlen : t.writtenLength t.dir[i] ≠ 0) : t.truncateEntry i
      = t.cutEntry i (t.writtenLength t.dir[i]) (blocksFor (t.writtenLength t.dir[i]) t.dir[i].axes.length) := by
  unfold Tks.truncateEntry
  rw [if_neg (not_not.mpr h), if_neg (by rw [hu]; exact nofun)]
  exact if_neg hlen

/-- An entry keeps its place in the directory, the upload, and the take memory; an entry without an open upload keeps the blocks
of the store too. -/
theorem Tks.truncateEntry_frame (t : Tks) (i : EntryNo) :
    (∀ j, j ≠ i → (t.truncateEntry i).dir[j] = t.dir[j]) ∧ (t.truncateEntry i).upload = t.upload
      ∧ (t.dir[i].Settled → t.truncateEntry i = { t with dir := (t.truncateEntry i).dir }) := by
  by_cases hrec : t.dir[i].state = .recording
  · rcases hu : t.dir[i].uploaded with _ | _
    · rw [Tks.truncateEntry_recorded hrec hu]
      exact ⟨fun j hj => by exact (getElem_set_fin ..).trans (if_neg (Ne.symm hj)), rfl, fun _ => rfl⟩
    · have hopen : ¬ t.dir[i].Settled := fun h => Bool.false_ne_true ((h hrec).symm.trans hu)
      by_cases hlen : t.writtenLength t.dir[i] = 0
      · rw [Tks.truncateEntry_unwritten hrec hu hlen]
        exact ⟨fun j hj => by exact (getElem_set_fin ..).trans (if_neg (Ne.symm hj)), rfl, fun h => absurd h hopen⟩
      · rw [Tks.truncateEntry_written hrec hu hlen]
        exact ⟨fun j hj => by exact (getElem_set_fin ..).trans (if_neg (Ne.symm hj)), rfl, fun h => absurd h hopen⟩
  · rw [Tks.truncateEntry_other hrec]
    exact ⟨fun _ _ => rfl, rfl, fun _ => rfl⟩

/-! ## The whole directory (R162) -/

theorem Tks.truncateAll_other {l : List EntryNo} (h : i ∉ l) (t : Tks) : (l.foldl Tks.truncateEntry t).dir[i] = t.dir[i] := by
  induction l generalizing t with
  | nil => rfl
  | cons x l ih =>
    have hx : i ≠ x := fun hix => h (hix ▸ List.mem_cons_self)
    exact (ih (fun hl => h (List.mem_cons_of_mem x hl)) _).trans ((t.truncateEntry_frame x).1 i hx)

theorem Tks.truncateAll_upload (l : List EntryNo) (t : Tks) : (l.foldl Tks.truncateEntry t).upload = t.upload := by
  induction l generalizing t with
  | nil => rfl
  | cons x l ih => exact (ih _).trans (t.truncateEntry_frame x).2.1

/-- Entries without an open upload keep the blocks of the store. -/
theorem Tks.truncateAll_settled {l : List EntryNo} (hl : l.Nodup) (h : ∀ j ∈ l, t.dir[j].Settled) :
    l.foldl Tks.truncateEntry t = { t with dir := (l.foldl Tks.truncateEntry t).dir } := by
  induction l generalizing t with
  | nil => rfl
  | cons x l ih =>
    obtain ⟨hx, hnodup⟩ := List.nodup_cons.mp hl
    obtain ⟨hdir, -, hblocks⟩ := t.truncateEntry_frame x
    have hstep := hblocks (h x List.mem_cons_self)
    refine (ih hnodup fun j hj => ?_).trans ?_
    · rw [hdir j fun hjx => hx (hjx ▸ hj)]
      exact h j (List.mem_cons_of_mem x hj)
    · rw [List.foldl_cons, hstep]

theorem Tks.statsOver_dir (t : Tks) (d : Vector DirEntry 16) (e : DirEntry) (n : Nat) :
    ({ t with dir := d } : Tks).statsOver e n = t.statsOver e n := by
  induction n with
  | zero => rfl
  | succ n ih => exact congrArg (statsAfter n _) ih

/-- A reset-pin start ends an entry on a store in which every other entry is ended already or still as it was, and where no other
upload is open, on the blocks as they were. -/
theorem Tks.pinStart_entry (t : Tks) (i : EntryNo) : ∃ u : Tks, u.dir[i] = t.dir[i] ∧ u.upload = t.upload
    ∧ t.pinStart.dir[i] = (u.truncateEntry i).dir[i]
    ∧ ((∀ j, j ≠ i → t.dir[j].Settled) → u = { t with dir := u.dir }
      ∧ t.pinStart.free = (u.truncateEntry i).free ∧ t.pinStart.links = (u.truncateEntry i).links) := by
  obtain ⟨before, after, hsplit⟩ := List.append_of_mem (mem_allSixteen i)
  have hnodup : (before ++ i :: after).Nodup := hsplit ▸ (by decide)
  have hbefore : i ∉ before := fun h => (List.nodup_append.mp hnodup).2.2 i h i List.mem_cons_self rfl
  obtain ⟨hafter, hnodupAfter⟩ := List.nodup_cons.mp (List.nodup_append.mp hnodup).2.1
  obtain ⟨u, hu⟩ : ∃ u, u = before.foldl Tks.truncateEntry t := ⟨_, rfl⟩
  have hall : allSixteen.foldl Tks.truncateEntry t = after.foldl Tks.truncateEntry (u.truncateEntry i) := by
    rw [hsplit, List.foldl_append, hu]
    rfl
  have hi : u.dir[i] = t.dir[i] := hu ▸ Tks.truncateAll_other hbefore t
  obtain ⟨q, hq⟩ : ∃ q, q = after.foldl Tks.truncateEntry (u.truncateEntry i) := ⟨_, rfl⟩
  have hstart : t.pinStart = { q with upload := none, eraseIgnored := 0 } := by rw [Tks.pinStart, hall, hq]
  refine ⟨u, hi, hu ▸ Tks.truncateAll_upload before t, ?_, fun hsettled => ?_⟩
  · rw [hstart]
    exact (congrArg (fun q : Tks => q.dir[i]) hq).trans (Tks.truncateAll_other hafter _)
  · have hne : ∀ j ∈ before, j ≠ i := fun j hj h => hbefore (h ▸ hj)
    have hkept := Tks.truncateAll_settled (List.nodup_append.mp hnodup).1 fun j hj => hsettled j (hne j hj)
    have hrest : ∀ j ∈ after, (u.truncateEntry i).dir[j].Settled := fun j hj => by
      have hji : j ≠ i := fun h => hafter (h ▸ hj)
      have hjb : j ∉ before := fun h => (List.nodup_append.mp hnodup).2.2 j h j (List.mem_cons_of_mem i hj) rfl
      rw [(u.truncateEntry_frame i).1 j hji, hu, Tks.truncateAll_other hjb]
      exact hsettled j hji
    have hend := hq.trans (Tks.truncateAll_settled hnodupAfter hrest)
    rw [hstart]
    exact ⟨hu ▸ hkept, congrArg (·.free) hend, congrArg (·.links) hend⟩

theorem Tks.pinStart_settled (h : ∀ i : EntryNo, t.dir[i].Settled) : t.pinStart.free = t.free ∧ t.pinStart.links = t.links := by
  have hall := Tks.truncateAll_settled (l := allSixteen) (by decide) fun j _ => h j
  rw [Tks.pinStart, hall]
  exact ⟨rfl, rfl⟩

theorem Tks.pinStart_other (h : t.dir[i].state ≠ .recording) : t.pinStart.dir[i] = t.dir[i] := by
  obtain ⟨u, hi, -, hdir, -⟩ := t.pinStart_entry i
  rw [hdir, Tks.truncateEntry_other (hi ▸ h), hi]

theorem Tks.pinStart_recorded (h : t.dir[i].state = .recording) (hu : t.dir[i].uploaded = false) :
    t.pinStart.dir[i] = { t.dir[i] with state := .truncated } := by
  obtain ⟨u, hi, -, hdir, -⟩ := t.pinStart_entry i
  rw [hdir, Tks.truncateEntry_recorded (hi ▸ h) (hi ▸ hu), hi]
  exact (getElem_set_fin_same _ _ _)

/-- An upload at a reset-pin start, the only one that is open (R162). -/
theorem Tks.pinStart_upload (h : t.dir[i].state = .recording) (hu : t.dir[i].uploaded = true)
    (hothers : ∀ j, j ≠ i → t.dir[j].Settled) :
    (t.writtenLength t.dir[i] = 0 → t.pinStart.dir[i] = {} ∧ t.pinStart.free = t.free ++ t.chain t.dir[i]
      ∧ ∀ b, look t.pinStart.links b = if b ∈ t.chain t.dir[i] then none else look t.links b)
    ∧ ∀ keep, keep = blocksFor (t.writtenLength t.dir[i]) t.dir[i].axes.length → t.writtenLength t.dir[i] ≠ 0 →
      t.pinStart.dir[i] = { t.dir[i] with
        state := .truncated, length := t.writtenLength t.dir[i], blocks := keep,
        last := some ((t.chain t.dir[i]).getD (keep - 1) 0), stats := t.statsOver t.dir[i] (t.writtenLength t.dir[i]) }
      ∧ t.pinStart.free = t.free ++ (t.chain t.dir[i]).drop keep
      ∧ ∀ b, look t.pinStart.links b
          = if b ∈ (t.chain t.dir[i]).drop keep ∨ b = (t.chain t.dir[i]).getD (keep - 1) 0 then none else look t.links b := by
  obtain ⟨u, hi, hupload, hdir, hblocks⟩ := t.pinStart_entry i
  obtain ⟨hsame, hfree, hlinks⟩ := hblocks hothers
  have hlength : u.writtenLength u.dir[i] = t.writtenLength t.dir[i] := by rw [Tks.writtenLength, hupload, hi, Tks.writtenLength]
  have hufree : u.free = t.free := by rw [hsame]
  have hulinks : u.links = t.links := by rw [hsame]
  have hchain : u.chain u.dir[i] = t.chain t.dir[i] := by rw [hi, Tks.chain, hulinks, Tks.chain]
  have hstats (n : Nat) : u.statsOver u.dir[i] n = t.statsOver t.dir[i] n := by
    rw [hi]
    conv_lhs => rw [hsame]
    exact Tks.statsOver_dir t u.dir t.dir[i] n
  refine ⟨fun hlen => ?_, fun keep hkeep hlen => ?_⟩
  · rw [Tks.truncateEntry_unwritten (hi ▸ h) (hi ▸ hu) (hlength.trans hlen)] at hdir hfree hlinks
    refine ⟨hdir.trans (getElem_set_fin_same _ _ _), hfree.trans ?_, fun b => ?_⟩
    · rw [← hchain, ← hufree]
      rfl
    · rw [hlinks, ← hchain, ← hulinks]
      exact look_dropAll _ _ _
  · rw [Tks.truncateEntry_written (hi ▸ h) (hi ▸ hu) (by rw [hlength]; exact hlen), hlength, hi, ← hkeep] at hdir hfree hlinks
    refine ⟨hdir.trans ?_, hfree.trans ?_, fun b => ?_⟩
    · refine (getElem_set_fin_same _ _ _).trans ?_
      rw [hchain, hstats]
      dsimp only
      rw [hi]
    · rw [← hchain, ← hufree]
      rfl
    · rw [hlinks, ← hchain, ← hulinks]
      refine (look_drop _ _ _).trans ?_
      rw [look_dropAll]
      by_cases hlast : b = (u.chain u.dir[i]).getD (keep - 1) 0
      · rw [if_pos hlast.symm, if_pos (.inr hlast)]
      · rw [if_neg (Ne.symm hlast)]
        exact if_congr (or_iff_left hlast).symm rfl rfl
end

theorem Tks.pinStartChanges_iff (t : Tks) : t.pinStartChanges = true ↔ ∃ i : EntryNo, t.dir[i].state = .recording := by
  rw [Tks.pinStartChanges, List.any_eq_true]
  exact ⟨fun ⟨i, _, hi⟩ => ⟨i, of_decide_eq_true hi⟩, fun ⟨i, hi⟩ => ⟨i, mem_allSixteen i, decide_eq_true hi⟩⟩

/-- The flags at a reset-pin start: START, and TAKE-CHANGE where an entry was RECORDING (R162, R191). -/
theorem pinStart_flags (changes : Bool) : (({} : Svp).raiseIf changes flagTakeChange).flags.getLsbD flagStart = true
    ∧ ((({} : Svp).raiseIf changes flagTakeChange).flags.getLsbD flagTakeChange = true ↔ changes = true)
    ∧ ∀ k : Nat, k ≠ flagStart → k ≠ flagTakeChange →
        (({} : Svp).raiseIf changes flagTakeChange).flags.getLsbD k = false := by
  refine ⟨by cases changes <;> decide, by cases changes <;> decide, fun k hstart htake => ?_⟩
  rw [Svp.raiseIf_other (Ne.symm htake)]
  exact (BitVec.getLsbD_one (w := 16)).trans (by rw [decide_eq_false (show k ≠ 0 from hstart), Bool.and_false])

end Sys2Proof.Machine

open Sys2Proof Sys2Proof.Machine

/-- Settles O13: a power-on start by its definition, and a reset-pin start through what it does to each entry. -/
theorem releaseBeginsAStart : Obligations.ReleaseBeginsAStart := by
  intro s hreset
  refine ⟨_, congrArg Host.Outcome.next (releaseReset_of_inReset hreset), ?_⟩
  unfold beginStart
  rcases hrose : s.hold.supplyRose with _ | _
  · rw [if_neg Bool.false_ne_true]
    refine ⟨rfl, nofun, fun _ => ?_⟩
    obtain ⟨hstart, htake, hother⟩ := pinStart_flags s.tks.pinStartChanges
    refine ⟨rfl, hstart, htake.trans s.tks.pinStartChanges_iff, hother, Tks.pinStart_mem _, rfl, rfl, fun i hi => Tks.pinStart_other hi,
      fun i hi hu => Tks.pinStart_recorded hi hu, fun h => Tks.pinStart_settled h, ?_⟩
    rintro i e number written spb length keep rfl hrec hu hothers hupload rfl rfl rfl
    have hlength : s.tks.writtenLength s.tks.dir[i]
        = min s.tks.dir[i].length (written * (64 / s.tks.dir[i].axes.length)) := by
      rw [Tks.writtenLength, hupload]
      rfl
    obtain ⟨hunwritten, hwritten⟩ := Tks.pinStart_upload hrec hu hothers
    rw [hlength] at hunwritten hwritten
    exact ⟨hunwritten, hwritten _ rfl⟩
  · rw [if_pos rfl]
    exact ⟨rfl, fun _ => rfl, nofun⟩
end

section
/-! PROOFS. The end of a load (R131, R146, R186): O14. -/

namespace Sys2Proof.Machine

/-! ## The origin of own causes (R130) -/

theorem takeCause_origin (loc : Bool) (o : StationNo) (k : Cause) (c : Category) (s : State) :
    (takeCause loc o k c s).stop.origin = some o ∨ (takeCause loc o k c s).stop.origin = s.stop.origin := by
  rcases takeCause_cases loc o k c s with ⟨-, h⟩ | ⟨-, -, h⟩ | ⟨-, -, h⟩ <;> rw [h]
  · exact .inl (by simp [beginStop, judgeStopped, StopRecord.begin])
  · exact .inl rfl
  · exact .inr rfl

section
variable {s t : State}

/-- The stop record names the own station as its origin. -/
def State.ownOrigin (s : State) : Prop := s.stop.origin = some s.cfg.own

theorem ownOrigin_congr (hcfg : t.cfg = s.cfg) (hstop : t.stop = s.stop) (h : s.ownOrigin) : t.ownOrigin := by
  rw [State.ownOrigin, hstop, hcfg]
  exact h

theorem giveCauseIf_ownOrigin (b : Bool) (k : Cause) (c : Category) (h : s.ownOrigin) : (giveCauseIf b k c s).ownOrigin := by
  unfold giveCauseIf
  split
  · have hcfg : (giveCause k c s).cfg = s.cfg := cfg_of_quiet (giveCause_quiet ..)
    rw [State.ownOrigin, hcfg]
    exact (takeCause_origin true s.cfg.own k c s).elim id fun hsame => hsame.trans h
  · exact h

theorem setZones_ownOrigin (new : Vector ZoneState 8) (h : s.ownOrigin) : (setZones new s).ownOrigin := by
  have hall (zs : List ZoneNo) (u : State) (hu : u.ownOrigin) : (zs.foldl (fun t z =>
      giveCauseIf (new[z].breached && !s.zones[z].breached) .zoneBreach .brake t) u).ownOrigin := by
    induction zs generalizing u with
    | nil => exact hu
    | cons z zs ih => exact ih _ (giveCauseIf_ownOrigin _ _ _ hu)
  exact hall allEight _ h

theorem settleWord_ownOrigin (h : s.ownOrigin) : (settleWord s).ownOrigin := by
  unfold settleWord
  exact setZones_ownOrigin _ (ownOrigin_congr (s := s) (announce_cfg _) (announce_stop _) h)

theorem settle_ownOrigin (n : Nat) (h : s.ownOrigin) : (settle n s).ownOrigin := by
  induction n generalizing s with
  | zero => exact h
  | succ n ih =>
    unfold settle
    split
    · exact h
    · exact ih (settleWord_ownOrigin h)

/-- What an event ends with gives own causes alone. -/
theorem endEvent_ownOrigin (h : s.ownOrigin) : (endEvent s).ownOrigin := by
  obtain ⟨t, ht⟩ : ∃ t, t = settle 4 (formOwners s) := ⟨_, rfl⟩
  have hsettled : t.ownOrigin := ht ▸ settle_ownOrigin 4 (s := formOwners s) h
  unfold endEvent
  rw [← ht]
  split
  · have hcfg : (formOutputs (formOwners (formCrew t))).cfg = t.cfg := by simp only [formOutputs_cfg, formOwners_cfg, formCrew_cfg]
    have hstop : (formOutputs (formOwners (formCrew t))).stop = t.stop := by
      simp only [formOutputs_stop, formOwners_stop, formCrew_stop]
    exact ownOrigin_congr (formAttention_cfg _) (formAttention_stop _) (ownOrigin_congr hcfg hstop hsettled)
  · exact ownOrigin_congr (formAttention_cfg _) (formAttention_stop _) h

theorem followEstops_ownOrigin (levels : Word16) (h : s.ownOrigin) : (followEstops levels s).ownOrigin := by
  unfold followEstops
  generalize s.cfg = cfg
  induction allSixteen generalizing s with
  | nil => exact h
  | cons k ks ih =>
    refine ih ?_
    beta_reduce
    split
    · exact giveCauseIf_ownOrigin _ _ _ (ownOrigin_congr (s := s) rfl rfl h)
    · exact h

/-! ## The first control period of operation -/

theorem followEstops_zones (levels : Word16) (s : State) : (followEstops levels s).zones = s.zones := by
  unfold followEstops
  generalize s.cfg = cfg
  induction allSixteen generalizing s with
  | nil => rfl
  | cons k ks ih =>
    refine (ih _).trans ?_
    beta_reduce
    split
    · unfold followEstop giveCauseIf
      split
      · exact (takeCause_board ..).2.2.1
      · rfl
    · rfl

theorem Reacts.raises (h : Reacts s t) : s.Raises t := by
  induction h with
  | refl => exact .refl s
  | tail _ hstep ih =>
    rcases hstep with hplain | ⟨loc, o, k, c, rfl⟩
    · exact ih.trans (.of_flags hplain.flags)
    · exact ih.trans (takeCause_raises loc o k c _)

/-- The state whose ESTOP lines the first sample follows. -/
def State.firstSampled (s : State) (levels : Word16) : State :=
  { reformZones (fun _ => true) (reformGates (fun _ => true) s) with
    lines := Vector.ofFn fun k => (reformZones (fun _ => true) (reformGates (fun _ => true) s)).lines[k].sample
      (reformZones (fun _ => true) (reformGates (fun _ => true) s)).cfg.lines[k] (levels.getLsbD k.val) }

theorem firstPeriod_eq (levels : Word16) (s : State) : firstPeriod levels s = followEstops levels (s.firstSampled levels) := rfl

theorem firstPeriod_reacts (levels : Word16) (s : State) : Reacts s (firstPeriod levels s) := by
  obtain ⟨u, hu⟩ : ∃ u, u = reformZones (fun _ => true) (reformGates (fun _ => true) s) := ⟨_, rfl⟩
  have hzones : Reacts s u := hu ▸ (reformGates_plain _ s).reacts.trans (setZones_reacts _ _)
  have hsampled : Reacts s (s.firstSampled levels) := by
    unfold State.firstSampled
    rw [← hu]
    refine hzones.trans (Plain.reacts (Plain.of_axes ?_ ?_ ?_ ?_ ?_)) <;> rfl
  rw [firstPeriod_eq]
  exact hsampled.trans (followEstops_reacts levels _)

theorem firstPeriod_quiet (levels : Word16) (s : State) :
    ∃ ls : Vector LineState 16, (firstPeriod levels s).quiet = { s.quiet with lines := ls } := by
  obtain ⟨u, hu⟩ : ∃ u, u = reformZones (fun _ => true) (reformGates (fun _ => true) s) := ⟨_, rfl⟩
  have hquiet : u.quiet = s.quiet := by
    rw [hu]
    exact (reformZones_quiet _ _).trans (reformGates_quiet _ _)
  rw [firstPeriod_eq]
  obtain ⟨ls, hls⟩ := followEstops_quiet levels (s.firstSampled levels)
  have hsampled : ∃ ls' : Vector LineState 16, (s.firstSampled levels).quiet = { u.quiet with lines := ls' } := by
    rw [State.firstSampled, ← hu]
    exact ⟨_, rfl⟩
  obtain ⟨ls', hls'⟩ := hsampled
  refine ⟨ls, hls.trans ?_⟩
  rw [hls', hquiet]

theorem firstPeriod_ownOrigin (levels : Word16) (h : s.ownOrigin) : (firstPeriod levels s).ownOrigin := by
  obtain ⟨u, hu⟩ : ∃ u, u = reformZones (fun _ => true) (reformGates (fun _ => true) s) := ⟨_, rfl⟩
  have hzones : u.ownOrigin := hu ▸ setZones_ownOrigin _ (ownOrigin_congr (s := s) rfl rfl h)
  rw [firstPeriod_eq, State.firstSampled, ← hu]
  exact followEstops_ownOrigin levels (ownOrigin_congr (s := u) rfl rfl hzones)

/-- A zone without a qualifier and a gate is active from the first evaluation on (R114). -/
theorem firstPeriod_zone (levels : Word16) {z : ZoneNo} (hu : s.cfg.zones[z].inUse = true) (hq : s.cfg.zones[z].qualifier = none)
    (hg : s.cfg.zones[z].gateLine = none) : (firstPeriod levels s).zones[z].active = true := by
  obtain ⟨u, hdef⟩ : ∃ u, u = reformGates (fun _ => true) s := ⟨_, rfl⟩
  have hcfg : u.cfg = s.cfg := hdef ▸ rfl
  have hsampled : (s.firstSampled levels).zones = (reformZones (fun _ => true) u).zones := by rw [hdef, State.firstSampled]
  have hzones : (firstPeriod levels s).zones[z] = u.zoneNow z := by
    rw [firstPeriod_eq, followEstops_zones, hsampled, reformZones_zone, if_pos rfl]
  rw [hzones, zoneNow_used (by rw [hcfg]; exact hu), ZoneState.evaluate_active, gateReading_ungated (by rw [hcfg]; exact hg)]
  have hreading : u.qualReading u.cfg.zones[z] = .noQualifier := by
    rw [State.qualReading, hcfg, hq]
  rw [hreading]
  rfl

theorem peers_own_congr {own own' : StationNo} (h : own' = own)
    (hp : ∀ st : StationNo, t.peers[st].quiet = s.peers[st].quiet) : t.peers[own'].quiet = s.peers[own].quiet := by
  subst h
  exact hp own'

/-- The read has begun (R183). -/
theorem loadingRead_begun (hreset : s.inReset = false) (hload : s.cfl.load = .loading) (hsent : s.cfl.sent ≠ []) :
    s.loadingRead true = true := by
  obtain ⟨b, rest, hcons⟩ := List.exists_cons_of_ne_nil hsent
  rw [State.loadingRead, hreset, decide_eq_true hload, hcons]
  rfl

/-- What the first evaluations and the end of the event leave of a state in which operation begins. -/
structure Begun (s t : State) : Prop where
  cfg : t.cfg = s.cfg
  cfl : t.cfl = s.cfl
  time : t.time = s.time
  lif : t.lif.quiet = s.lif.quiet
  peers : ∀ st : StationNo, t.peers[st].quiet = s.peers[st].quiet
  peer : ∀ st : StationNo, st ≠ s.cfg.own → t.peers[st] = s.peers[st]
  axes : ∀ i : AxisNo, t.axes[i].quiet = s.axes[i].quiet
  raises : s.Raises t
  ownOrigin : s.ownOrigin → t.ownOrigin
  first : s.halted → t.stop.first = s.stop.first
  zone : s.operating = true → ∀ z : ZoneNo, s.cfg.zones[z].inUse = true → s.cfg.zones[z].qualifier = none →
    s.cfg.zones[z].gateLine = none → t.zones[z].active = true

theorem firstPeriod_begun (levels : Word16) (s : State) : Begun s (endEvent (firstPeriod levels s)) := by
  obtain ⟨ls, hls⟩ := firstPeriod_quiet levels s
  have hfirst := firstPeriod_reacts levels s
  have howned := firstPeriod_ownOrigin (s := s) levels
  have hzoned (z : ZoneNo) := firstPeriod_zone (s := s) levels (z := z)
  obtain ⟨p, hp⟩ : ∃ p, p = firstPeriod levels s := ⟨_, rfl⟩
  rw [← hp] at hls hfirst howned ⊢
  simp only [← hp] at hzoned
  obtain ⟨c, hc⟩ : ∃ c : State, c = { s with lines := ls } := ⟨_, rfl⟩
  have hpc : p.quiet = c.quiet := hls.trans (hc ▸ rfl)
  have hends : (endEvent p).quiet = c.quiet := (endEvent_quiet p).trans hpc
  have hreacts : Reacts s (endEvent p) := Relation.ReflTransGen.trans hfirst (endEvent_reacts p)
  have hcfg : c.cfg = s.cfg := hc ▸ rfl
  exact {
    cfg := (cfg_of_quiet hends).trans hcfg
    cfl := (congrArg (·.cfl) hends).trans (hc ▸ rfl)
    time := (time_of_quiet hends).trans (hc ▸ rfl)
    lif := (lif_of_quiet hends).trans (hc ▸ rfl)
    peers := fun st => (peerQuiet_of_quiet hends st).trans (hc ▸ rfl)
    peer := fun st hst => (peer_of_quiet hends (hcfg ▸ hst)).trans (hc ▸ rfl)
    axes := fun i => (axisQuiet_of_quiet hends i).trans (hc ▸ rfl)
    raises := Reacts.raises hreacts
    ownOrigin := fun h => endEvent_ownOrigin (howned h)
    first := fun hs => (Reacts.grows hreacts hs).first
    zone := fun hop z hu hq hg => by
      have hpcfg : p.cfg = s.cfg := (cfg_of_quiet hpc).trans hcfg
      have hop' : p.operating = true := (operating_of_quiet hpc).trans (hc ▸ hop)
      rw [endEvent_zone hop' (zonesOfOwnWord_ungated (by rw [hpcfg]; exact hg))]
      exact hzoned z hu hq hg }

theorem operating_begun {image : List Byte} (h : s.inReset = false) : (beginOperation image s).operating = true := by
  have hreset : (beginOperation image s).inReset = false := h
  rw [State.operating, hreset]
  rfl

theorem exec_readDone_passed {image : List Byte} (levels : Word16) (hreset : s.inReset = false) (hload : s.cfl.load = .loading)
    (hsent : s.cfl.sent ≠ []) (hlength : image.length = 1024) (hfault : firstFault image = none) :
    exec (.configReadDone image levels) s = .next (endEvent (firstPeriod levels (beginOperation image s))) := by
  have htake : image.take 1024 = image := List.take_of_length_le hlength.le
  refine congrArg Host.Outcome.next ?_
  unfold readDone
  rw [if_pos (loadingRead_begun hreset hload hsent), htake, hfault]

end
end Sys2Proof.Machine

open Sys2Proof Sys2Proof.Machine

/-- Settles O14: what operation begins with, which the first evaluations and the end of the event leave. -/
theorem loadEndsInRunReady : Obligations.LoadEndsInRunReady := by
  intro image levels s hreset hload hsent hlength hfault
  obtain ⟨b, hb⟩ : ∃ b, b = beginOperation image s := ⟨_, rfl⟩
  have hexec : exec (.configReadDone image levels) s = .next (endEvent (firstPeriod levels b)) :=
    hb ▸ exec_readDone_passed levels hreset hload hsent hlength hfault
  have hbegun := firstPeriod_begun levels b
  obtain ⟨t, ht⟩ : ∃ t, t = endEvent (firstPeriod levels b) := ⟨_, rfl⟩
  rw [← ht] at hexec hbegun
  have hcfg := hbegun.cfg
  have hbcfg : b.cfg = imageSettings image := hb ▸ rfl
  have hown : t.peers[t.cfg.own].quiet = b.peers[b.cfg.own].quiet := peers_own_congr (congrArg Settings.own hcfg) hbegun.peers
  have hbown : b.peers[b.cfg.own] = { s.peers[b.cfg.own] with presence := .present, count := 3 } := by
    subst hb
    exact getElem_set_fin_same _ _ _
  have hpresence := congrArg (·.presence) hown
  have hcount := congrArg (·.count) hown
  rw [hbown] at hpresence hcount
  have haxis (i : AxisNo) : b.axes[i] = s.axes[i].atLoad b.cfg.axes[i] := by
    subst hb
    exact getElem_ofFn_fin ..
  have hop : b.operating = true := by
    subst hb
    exact operating_begun hreset
  have hrate : b.lif.quiet.slowRate = b.cfg.slowRate := by
    subst hb
    rfl
  have hflags : b.svp = (s.svp.raise flagPeerChange).raise flagStopEnter := hb ▸ rfl
  refine ⟨t, hexec, hbegun.cfl.trans (hb ▸ rfl), hbegun.time.trans (hb ▸ rfl), hcfg.trans hbcfg, ?_,
    hpresence, hcount, fun st hst => ?_, hbegun.raises _ ?_, hbegun.raises _ ?_, hbegun.ownOrigin (by subst hb; rfl),
    fun k o x hstate hfirst => ?_, fun i => ⟨?_, ?_⟩, fun z hu hq hg => ?_⟩
  · rw [hcfg]
    exact (congrArg (·.slowRate) hbegun.lif).trans hrate
  · rw [hcfg] at hst
    refine (hbegun.peer st hst).trans ?_
    subst hb
    exact (getElem_set_fin ..).trans (if_neg (Ne.symm hst))
  · rw [hflags]
    exact State.Raises.raise (s := { s with svp := s.svp.raise flagPeerChange })
      (t := { s with svp := (s.svp.raise flagPeerChange).raise flagStopEnter }) rfl _ (Svp.raise_set (by decide) _)
  · rw [hflags]
    exact Svp.raise_set (by decide) _
  · have hstop : b.stop = { s.stop with first := s.stop.first.map fun f => (f.1, b.cfg.own, f.2.2), origin := some b.cfg.own } :=
      hb ▸ rfl
    have hhalted : b.halted := by
      rw [State.halted, hstop]
      rcases hstate with h | h <;> exact ⟨by rw [h]; exact nofun, by rw [h]; exact nofun⟩
    rw [hbegun.first hhalted, hstop, hfirst, hcfg]
    rfl
  · rw [hcfg]
    refine (congrArg (·.link.delay) (hbegun.axes i)).trans ?_
    show b.axes[i].link.delay = _
    rw [haxis i]
    rfl
  · rw [hcfg]
    refine (congrArg (·.lens.table) (hbegun.axes i)).trans ?_
    show b.axes[i].lens.table = _
    rw [haxis i]
    rfl
  · rw [hcfg] at hu hq hg
    exact hbegun.zone hop z hu hq hg
end

section
/-! PROOFS. The first check that fails (R184, R185). -/

namespace Sys2Proof.Machine

/-! ## A list of checks in ascending order -/

/-- A check that gives its number as fault reason, with an item from check 8 on (R185). -/
def Numbered (n : Nat) (c : Option FaultReason) : Prop := ∀ r, c = some r → r.1 = n ∧ (r.2 = none ↔ n ≤ 7)

/-- A check that passes, for item k at least. -/
def Passes (n k : Nat) (c : Option FaultReason) : Prop := c = none ∨ ∃ j, c = some (n, some j) ∧ k < j

/-- The checks before number n have passed and, where it is check n that fails, its items before item k + 1 too. -/
def PassesUpTo (n k : Nat) (first : Option FaultReason) : Prop :=
  first = none ∨ (∃ m item, first = some (m, item) ∧ n < m) ∨ ∃ j, first = some (n, some j) ∧ k < j

section
variable {n k m : Nat} {ok : Bool}

theorem checkOne_numbered (h : n ≤ 7) (ok : Bool) : Numbered n (checkOne n ok) := by
  intro r hr
  cases ok with
  | true => cases hr
  | false =>
    obtain rfl := Option.some.inj hr
    exact ⟨rfl, iff_of_true rfl h⟩

theorem checkEach_some {items : List (Fin m)} {test : Fin m → Bool} {r : FaultReason} (h : checkEach n items test = some r) :
    ∃ i ∈ items, r = (n, some i.val) ∧ test i = false := by
  obtain ⟨i, hi, hr⟩ := List.exists_of_findSome?_eq_some h
  cases ht : test i with
  | true =>
    rw [ht] at hr
    cases hr
  | false =>
    rw [ht] at hr
    exact ⟨i, hi, (Option.some.inj hr).symm, ht⟩

theorem checkEach_numbered (h : 7 < n) (items : List (Fin m)) (test : Fin m → Bool) :
    Numbered n (checkEach n items test) := by
  intro r hr
  obtain ⟨i, -, rfl, -⟩ := checkEach_some hr
  exact ⟨rfl, iff_of_false nofun (by omega)⟩

theorem checkOne_of_passes (h : Passes n k (checkOne n ok)) : ok = true := by
  cases ok with
  | true => rfl
  | false => rcases h with h | ⟨j, h, -⟩ <;> cases h

/-- A check of items in ascending order passes for every item up to k. -/
theorem checkEach_of_passes {items : List (Fin m)} {test : Fin m → Bool} (h : Passes n k (checkEach n items test))
    (hitems : items.Pairwise (· < ·)) {i : Fin m} (hi : i ∈ items) (hk : i.val = k) : test i = true := by
  induction items with
  | nil => cases hi
  | cons x xs ih =>
    obtain ⟨hx, hxs⟩ := List.pairwise_cons.mp hitems
    have hcons : checkEach n (x :: xs) test = if test x then checkEach n xs test else some (n, some x.val) := by
      rw [checkEach, List.findSome?_cons]
      cases test x <;> rfl
    rw [hcons] at h
    rcases List.mem_cons.mp hi with rfl | hi
    · by_contra hfails
      rw [if_neg hfails] at h
      rcases h with h | ⟨j, h, hj⟩ <;> cases h
      omega
    · by_cases hpass : test x = true
      · rw [if_pos hpass] at h
        exact ih h hxs hi
      · rw [if_neg hpass] at h
        have hlt : x.val < i.val := hx i hi
        rcases h with h | ⟨j, h, hj⟩ <;> cases h
        omega

/-- The first of a list of numbered checks that fails. -/
theorem findSome_numbered {ns : List Nat} {cs : List (Option FaultReason)} (h : List.Forall₂ Numbered ns cs) {r : FaultReason}
    (hr : cs.findSome? id = some r) : r.1 ∈ ns ∧ (r.2 = none ↔ r.1 ≤ 7) := by
  induction h with
  | nil => cases hr
  | @cons n c ns cs hc _ ih =>
    rw [List.findSome?_cons] at hr
    rcases c with _ | q
    · obtain ⟨hmem, hitem⟩ := ih hr
      exact ⟨List.mem_cons_of_mem n hmem, hitem⟩
    · obtain rfl := Option.some.inj hr
      obtain ⟨hnumber, hitem⟩ := hc _ rfl
      exact ⟨hnumber ▸ List.mem_cons_self, hnumber ▸ hitem⟩

/-- A check whose number does not come after the one that fails passes, or it fails at a later item. -/
theorem passes_of_first {ns : List Nat} {cs : List (Option FaultReason)} (h : List.Forall₂ Numbered ns cs)
    (hns : ns.Pairwise (· < ·)) {c : Option FaultReason} (hc : (n, c) ∈ ns.zip cs) (hfirst : PassesUpTo n k (cs.findSome? id)) :
    Passes n k c := by
  induction h with
  | nil => cases hc
  | @cons n' c' ns cs hc' _ ih =>
    obtain ⟨hafter, hns⟩ := List.pairwise_cons.mp hns
    rw [List.findSome?_cons] at hfirst
    rw [List.zip_cons_cons] at hc
    rcases c' with _ | r
    · rcases List.mem_cons.mp hc with hhead | htail
      · exact .inl (congrArg Prod.snd hhead)
      · exact ih hns htail hfirst
    · have hnumber : r.1 = n' := (hc' r rfl).1
      rcases List.mem_cons.mp hc with hhead | htail
      · obtain ⟨rfl, rfl⟩ := Prod.mk.inj hhead
        rcases hfirst with hnone | ⟨m, item, hm, hlt⟩ | hj
        · cases hnone
        · obtain rfl := Option.some.inj hm
          exact absurd hnumber hlt.ne'
        · exact .inr hj
      · have hlt : r.1 < n := hnumber ▸ hafter n (List.of_mem_zip htail).1
        rcases hfirst with hnone | ⟨m, item, hm, hlt'⟩ | ⟨j, hj, -⟩
        · cases hnone
        · obtain rfl := Option.some.inj hm
          exact absurd hlt' hlt.asymm
        · obtain rfl := Option.some.inj hj
          exact absurd hlt (lt_irrefl _)

end

/-! ## The checks of a load (R184) -/

/-- The checks of R184, in their order. -/
def loadChecks (img : List Byte) : List (Option FaultReason) := stationChecks img ++ axisChecks img ++ lineChecks img

/-- The numbers of the checks of R184. -/
def checkNumbers : List Nat := [1, 2, 3, 4, 5, 6, 7, 8, 9, 10, 11, 12, 13, 14, 15, 16, 17, 18, 19, 20, 21, 22]

section
variable (img : List Byte)

theorem stationChecks_numbered : List.Forall₂ Numbered [1, 2, 3, 4, 5, 6, 7] (stationChecks img) :=
  .cons (checkOne_numbered (by decide) _) <| .cons (checkOne_numbered (by decide) _) <|
    .cons (checkOne_numbered (by decide) _) <| .cons (checkOne_numbered (by decide) _) <|
    .cons (checkOne_numbered (by decide) _) <| .cons (checkOne_numbered (by decide) _) <|
    .cons (checkOne_numbered (by decide) _) .nil

theorem axisChecks_numbered : List.Forall₂ Numbered [8, 9, 10, 11, 12, 13, 14, 15, 16] (axisChecks img) :=
  .cons (checkEach_numbered (by decide) _ _) <| .cons (checkEach_numbered (by decide) _ _) <|
    .cons (checkEach_numbered (by decide) _ _) <| .cons (checkEach_numbered (by decide) _ _) <|
    .cons (checkEach_numbered (by decide) _ _) <| .cons (checkEach_numbered (by decide) _ _) <|
    .cons (checkEach_numbered (by decide) _ _) <| .cons (checkEach_numbered (by decide) _ _) <|
    .cons (checkEach_numbered (by decide) _ _) .nil

theorem lineChecks_numbered : List.Forall₂ Numbered [17, 18, 19, 20, 21, 22] (lineChecks img) :=
  .cons (checkEach_numbered (by decide) _ _) <| .cons (checkEach_numbered (by decide) _ _) <|
    .cons (checkEach_numbered (by decide) _ _) <| .cons (checkEach_numbered (by decide) _ _) <|
    .cons (checkEach_numbered (by decide) _ _) <| .cons (checkEach_numbered (by decide) _ _) .nil

theorem loadChecks_numbered : List.Forall₂ Numbered checkNumbers (loadChecks img) :=
  List.rel_append (List.rel_append (stationChecks_numbered img) (axisChecks_numbered img)) (lineChecks_numbered img)

variable {img : List Byte} {n k : Nat}

/-- The number and the item of a fault reason (R185). -/
theorem firstFault_number {item : Option Nat} (h : firstFault img = some (n, item)) : 1 ≤ n ∧ n ≤ 22 ∧ (item = none ↔ n ≤ 7) := by
  obtain ⟨hmem, hitem⟩ := findSome_numbered (loadChecks_numbered img) h
  have hrange : ∀ x ∈ checkNumbers, 1 ≤ x ∧ x ≤ 22 := by decide
  obtain ⟨h1, h22⟩ := hrange n hmem
  exact ⟨h1, h22, hitem⟩

/-- A check that has passed before the one that fails. -/
theorem passes_check {c : Option FaultReason} (h : PassesUpTo n k (firstFault img))
    (hc : (n, c) ∈ checkNumbers.zip (loadChecks img)) : Passes n k c :=
  passes_of_first (loadChecks_numbered img) (by decide) hc h

/-- The checks before one that has passed have passed for every item. -/
theorem PassesUpTo.earlier (h : PassesUpTo n k (firstFault img)) {m : Nat} (hm : m < n) (j : Nat) :
    PassesUpTo m j (firstFault img) := by
  rcases h with h | ⟨q, item, h, hq⟩ | ⟨q, h, -⟩
  · exact .inl h
  · exact .inr (.inl ⟨q, item, h, hm.trans hq⟩)
  · exact .inr (.inl ⟨n, some q, h, hm⟩)

end
end Sys2Proof.Machine
end

section
/-! PROOFS. The settings that pass the checks of a load (R184). -/

namespace Sys2Proof.Machine

theorem within_iff {x lo hi : Nat} : within x lo hi = true ↔ lo ≤ x ∧ x ≤ hi := by
  rw [within, Bool.and_eq_true, decide_eq_true_iff, decide_eq_true_iff]

theorem inCounts_iff {x : Int} : inCounts x = true ↔ -(2 ^ 30) ≤ x ∧ x ≤ 2 ^ 30 := by
  rw [inCounts, Bool.and_eq_true, decide_eq_true_iff, decide_eq_true_iff]

section
variable {img : List Byte} {n k : Nat}

/-! ## The station (checks 3 to 7) -/

theorem imageOwn_val (h : within (imageByte img 1) 0 7 = true) : (imageSettings img).own.val = imageByte img 1 :=
  Nat.mod_eq_of_lt (Nat.lt_succ_of_le (within_iff.mp h).2)

theorem passes_own (h : PassesUpTo 3 k (firstFault img)) :
    within (imageByte img 1) 0 7 = true ∧ names (imageSettings img).roster (imageSettings img).own.val = true := by
  have hpass := checkOne_of_passes (passes_check h (List.mem_of_getElem? (i := 2) rfl))
  obtain ⟨hwithin, hnames⟩ := Bool.and_eq_true_iff.mp hpass
  exact ⟨hwithin, by rw [imageOwn_val hwithin]; exact hnames⟩

theorem periodMs_mem (base : Nat) {code : Nat} (h : code ≤ 2) : periodMs base code ∈ [base, base * 2, base * 4] := by
  unfold periodMs
  interval_cases code <;> simp

theorem passes_periods (h : PassesUpTo 4 k (firstFault img)) : (imageSettings img).statusPeriod ∈ [4, 8, 16]
    ∧ (imageSettings img).axisPeriod ∈ [2, 4, 8] ∧ (imageSettings img).demandPeriod ∈ [2, 4] := by
  have hpass := checkOne_of_passes (passes_check h (List.mem_of_getElem? (i := 3) rfl))
  simp only [Bool.and_eq_true, within_iff] at hpass
  obtain ⟨⟨⟨-, hstatus⟩, ⟨-, haxis⟩⟩, ⟨-, hdemand⟩⟩ := hpass
  refine ⟨periodMs_mem 4 hstatus, periodMs_mem 2 haxis, ?_⟩
  show periodMs 2 (imageByte img 5) ∈ [2, 4]
  rcases Nat.le_one_iff_eq_zero_or_eq_one.mp hdemand with h | h <;> rw [h] <;> decide

theorem passes_liveness (h : PassesUpTo 5 k (firstFault img)) : 12 ≤ (imageSettings img).liveness
    ∧ (imageSettings img).liveness ≤ 200 ∧ 3 * (imageSettings img).statusPeriod ≤ (imageSettings img).liveness := by
  have hpass := checkOne_of_passes (passes_check h (List.mem_of_getElem? (i := 4) rfl))
  simp only [Bool.and_eq_true, within_iff, decide_eq_true_eq] at hpass
  obtain ⟨⟨hlow, hhigh⟩, hstatus⟩ := hpass
  exact ⟨hlow, hhigh, hstatus⟩

theorem passes_limits (h : PassesUpTo 6 k (firstFault img)) : (imageSettings img).skewWindow ≤ 50
    ∧ 100 ≤ (imageSettings img).holdLimit ∧ (imageSettings img).holdLimit ≤ 5000 := by
  have hpass := checkOne_of_passes (passes_check h (List.mem_of_getElem? (i := 5) rfl))
  simp only [Bool.and_eq_true, within_iff] at hpass
  obtain ⟨⟨-, hskew⟩, hhold⟩ := hpass
  exact ⟨hskew, hhold⟩

/-- A category code of 1 or 2 is no CUT. -/
theorem categoryOr_ne_cut {code : Nat} (h : 1 ≤ code ∧ code ≤ 2) (d : Category) : categoryOr d code ≠ .cut := by
  obtain ⟨h1, h2⟩ := h
  interval_cases code <;> exact nofun

theorem passes_categories (h : PassesUpTo 7 k (firstFault img)) : (imageSettings img).estopCategory ≠ .hold
    ∧ (imageSettings img).peerLossCategory ≠ .cut ∧ ∀ g : GroupNo, (imageSettings img).groupCategory[g] ≠ .cut := by
  have hpass := checkOne_of_passes (passes_check h (List.mem_of_getElem? (i := 6) rfl))
  simp only [Bool.and_eq_true, within_iff] at hpass
  obtain ⟨⟨⟨⟨⟨⟨hestop2, hestop3⟩, hpeer⟩, hg0⟩, hg1⟩, hg2⟩, hg3⟩ := hpass
  refine ⟨?_, categoryOr_ne_cut hpeer _, fun g => ?_⟩
  · show categoryOr .cut (imageByte img 10) ≠ .hold
    rcases Nat.le_iff_lt_or_eq.mp hestop2 with hlt | heq
    · rw [le_antisymm hestop3 hlt]
      exact nofun
    · rw [← heq]
      exact nofun
  · have hgroup : (imageSettings img).groupCategory[g] = categoryOr .brake (imageByte img (12 + g.val)) :=
      getElem_ofFn_fin ..
    rw [hgroup]
    fin_cases g
    · exact categoryOr_ne_cut hg0 _
    · exact categoryOr_ne_cut hg1 _
    · exact categoryOr_ne_cut hg2 _
    · exact categoryOr_ne_cut hg3 _

/-! ## The axes (checks 9 to 16) -/

theorem imageSettings_axis (img : List Byte) (i : AxisNo) : (imageSettings img).axes[i] = imageAxis img i := getElem_ofFn_fin ..

/-- A check of the used axes that has passed. -/
theorem used_passes {c : AxisCfg} {ok : Bool} (h : (decide (c.kind = .unused) || ok) = true) (hu : c.kind ≠ .unused) : ok = true := by
  rwa [decide_eq_false hu, Bool.false_or] at h

theorem lens_passes {c : AxisCfg} {ok : Bool} (h : (decide (c.kind ≠ .lens) || ok) = true) (hl : c.kind = .lens) : ok = true := by
  rwa [decide_eq_false (not_not.mpr hl), Bool.false_or] at h

/-- A check of one axis that has passed for it. -/
theorem passes_axisCheck {test : AxisNo → Bool} {i : AxisNo} (hi : i.val = k) (h : PassesUpTo n k (firstFault img))
    (hc : (n, checkEach n allAxes test) ∈ checkNumbers.zip (loadChecks img)) : test i = true :=
  checkEach_of_passes (passes_check h hc) (by decide) (mem_allAxes i) hi

theorem passes_axis {i : AxisNo} (hi : i.val = k) (h : PassesUpTo n k (firstFault img)) (hu : (imageAxis img i).kind ≠ .unused) :
    axisPasses (imageAxis img i) n := by
  unfold axisPasses
  split
  · have hpass := used_passes (passes_axisCheck hi h (List.mem_of_getElem? (i := 8) rfl)) hu
    simp only [Bool.and_eq_true, decide_eq_true_eq, inCounts_iff] at hpass
    obtain ⟨⟨hlt, hlow⟩, hhigh⟩ := hpass
    exact ⟨hlt, hlow.1, hhigh.2⟩
  · have hpass := used_passes (passes_axisCheck hi h (List.mem_of_getElem? (i := 9) rfl)) hu
    simp only [Bool.and_eq_true, within_iff] at hpass
    obtain ⟨⟨hvmax, ha⟩, had⟩ := hpass
    exact ⟨hvmax.1, hvmax.2, ha.1, had.1, had.2⟩
  · have hpass := used_passes (passes_axisCheck hi h (List.mem_of_getElem? (i := 10) rfl)) hu
    simp only [Bool.and_eq_true, within_iff] at hpass
    obtain ⟨⟨⟨⟨⟨⟨hcrew, hpreroll⟩, hcal⟩, hdeadband⟩, htimeout⟩, htolerance⟩, hfollow⟩ := hpass
    exact ⟨hcrew.2, hpreroll.2, hcal.2, hdeadband.2, htimeout.1, htimeout.2, htolerance.1, htolerance.2, hfollow.1, hfollow.2⟩
  · have hpass := used_passes (passes_axisCheck hi h (List.mem_of_getElem? (i := 12) rfl)) hu
    simp only [Bool.and_eq_true, within_iff] at hpass
    obtain ⟨⟨⟨⟨hbits, horigin⟩, hclock⟩, hfloor⟩, hbad⟩ := hpass
    exact ⟨hbits.1, hbits.2, horigin.2, hclock.2, hfloor.2, hbad.2⟩
  · have hpass := used_passes (passes_axisCheck hi h (List.mem_of_getElem? (i := 13) rfl)) hu
    exact (within_iff.mp hpass).2
  · intro hl
    have hpass := lens_passes (passes_axisCheck hi h (List.mem_of_getElem? (i := 14) rfl)) hl
    exact (Bool.and_eq_true_iff.mp hpass).2
  · intro hl
    have hpass := lens_passes (passes_axisCheck hi h (List.mem_of_getElem? (i := 15) rfl)) hl
    simp only [Bool.and_eq_true, within_iff, decide_eq_true_eq] at hpass
    obtain ⟨⟨⟨⟨hstall, hguard⟩, hmin⟩, hband⟩, hmax⟩ := hpass
    exact ⟨hstall.1, hstall.2, hguard, hmin.2, hband.2, hmax.2⟩
  · trivial

/-! ## The zones and the lines (checks 17 and 18) -/

/-- An axis number of the image whose kind code is MOTION or LENS. -/
theorem namesUsedAxis_kind {a : Nat} (h : namesUsedAxis img a = true) :
    (imageAxis img (Fin.ofNat 4 a)).kind ≠ .unused ∧ a < 4 := by
  obtain ⟨hle, hcode⟩ := Bool.and_eq_true_iff.mp h
  have hlt : a < 4 := Nat.lt_succ_of_le (of_decide_eq_true hle)
  have hat : axisAt (Fin.ofNat 4 a) = 32 + 128 * a := congrArg (32 + 128 * ·) (Nat.mod_eq_of_lt hlt)
  have hkind : kindOf (imageByte img (32 + 128 * a)) ≠ .unused := by
    obtain ⟨h1, h2⟩ := within_iff.mp hcode
    rcases Nat.le_iff_lt_or_eq.mp h2 with hlt2 | heq
    · rw [le_antisymm (Nat.le_of_lt_succ hlt2) h1]
      exact nofun
    · rw [heq]
      exact nofun
  refine ⟨?_, hlt⟩
  unfold imageAxis
  rw [hat, if_neg hkind]
  exact hkind

theorem imageSettings_kind {a : Nat} (h : namesUsedAxis img a = true) :
    (imageSettings img).axes[(Fin.ofNat 4 a : AxisNo)].kind ≠ .unused := by
  rw [imageSettings_axis]
  exact (namesUsedAxis_kind h).1

theorem passes_zone (h : PassesUpTo 17 k (firstFault img)) (z : ZoneNo) (hz : z.val = k) :
    zonePasses (imageSettings img) (imageSettings img).zones[z] := by
  have hpass := checkEach_of_passes (passes_check h (List.mem_of_getElem? (i := 16) rfl)) (by decide) (mem_allEight z) hz
  have hown := (passes_own (h.earlier (m := 3) (by decide) 0)).1
  have hzone : (imageSettings img).zones[z] = imageZone img z := getElem_ofFn_fin ..
  rw [hzone]
  intro hu
  simp only [hu, Bool.not_true, Bool.false_or, Bool.and_eq_true, decide_eq_true_eq, inCounts_iff] at hpass
  obtain ⟨⟨⟨⟨⟨haxis, hle⟩, hlo⟩, hhi⟩, hqualifier⟩, -⟩ := hpass
  refine ⟨imageSettings_kind haxis, hle, hlo.1, hhi.2, fun q hq => ?_⟩
  have hsome : (if imageByte img (zoneAt z + 10) = 255 then none else
      some ({ station := Fin.ofNat 8 (imageByte img (zoneAt z + 10)), axis := Fin.ofNat 4 (imageByte img (zoneAt z + 11)),
              qlo := imageInt img (zoneAt z + 12) 4, qhi := imageInt img (zoneAt z + 16) 4 } : Qualifier)) = some q := hq
  split at hsome
  case isTrue => cases hsome
  case isFalse hne =>
    obtain rfl := Option.some.inj hsome
    rw [beq_eq_false_iff_ne.mpr hne, Bool.false_or] at hqualifier
    simp only [Bool.and_eq_true, within_iff, decide_eq_true_eq, Bool.or_eq_true, bne_iff_ne] at hqualifier
    obtain ⟨⟨⟨⟨-, hstation⟩, -⟩, hrange⟩, hsame⟩ := hqualifier
    refine ⟨hrange, fun heq => imageSettings_kind (hsame.resolve_left fun hne => hne ?_)⟩
    have hval : imageByte img (zoneAt z + 10) % 8 = (imageSettings img).own.val := congrArg Fin.val heq
    rwa [Nat.mod_eq_of_lt (by omega), imageOwn_val hown] at hval

theorem passes_line (h : PassesUpTo 18 k (firstFault img)) (j : LineNo) (hj : j.val = k) :
    (∀ i highEnd, (imageSettings img).lines[j].function = .limit i highEnd → (imageSettings img).axes[i].kind ≠ .unused)
      ∧ ∀ i, (imageSettings img).lines[j].function = .driveFault i → (imageSettings img).axes[i].kind ≠ .unused := by
  have hpass := checkEach_of_passes (passes_check h (List.mem_of_getElem? (i := 17) rfl)) (by decide) (mem_allSixteen j) hj
  have hline : (imageSettings img).lines[j] = imageLine img j := getElem_ofFn_fin ..
  rw [hline]
  simp only [Bool.and_eq_true] at hpass
  obtain ⟨⟨⟨-, hfunction⟩, -⟩, -⟩ := hpass
  have hkind (i : AxisNo) (hi : namesUsedAxis img i.val = true) : (imageSettings img).axes[i].kind ≠ .unused := by
    have hi' : (Fin.ofNat 4 i.val : AxisNo) = i := Fin.ofNat_val_eq_self i
    rw [imageSettings_axis, ← hi']
    exact (namesUsedAxis_kind hi).1
  refine ⟨fun i highEnd hf => hkind i ?_, fun i hf => hkind i ?_⟩
  · have hf' : lineFunctionOf (imageByte img (lineAt j)) = .limit i highEnd := hf
    rwa [hf'] at hfunction
  · have hf' : lineFunctionOf (imageByte img (lineAt j)) = .driveFault i := hf
    rwa [hf'] at hfunction

/-- The settings that an image spells meet what the checks that have passed ask (R184). -/
theorem settingsPass_of_passes (h : PassesUpTo n k (firstFault img)) : settingsPass (imageSettings img) n k := by
  unfold settingsPass
  split
  · exact (passes_own h).2
  · exact passes_periods h
  · exact passes_liveness h
  · exact passes_limits h
  · exact passes_categories h
  · exact passes_zone h
  · exact passes_line h
  · intro i hi hu
    rw [imageSettings_axis] at hu ⊢
    exact passes_axis hi h hu

/-! ## The image check and the line rate (checks 1 and 2) -/

theorem imageNat_lt (img : List Byte) (a : Nat) : imageNat img a 2 < 2 ^ 16 := by
  have hbytes (bytes : List Byte) : bytesNat bytes < 256 ^ bytes.length := by
    induction bytes with
    | nil => decide
    | cons b bytes ih =>
      rw [bytesNat_cons, List.length_cons, pow_succ']
      have hb : b.toNat * 256 ^ bytes.length ≤ 255 * 256 ^ bytes.length := Nat.mul_le_mul_right _ (by have := b.isLt; omega)
      omega
  have hlength : ((img.drop a).take 2).length ≤ 2 := by
    rw [List.length_take]
    exact Nat.min_le_left _ _
  exact (hbytes _).trans_le (Nat.pow_le_pow_right (by decide) hlength)

theorem firstFault_cons (img : List Byte) : firstFault img
    = (checkOne 1 (crc16 (bytesBits (img.take 1022)) == BitVec.ofNat 16 (imageNat img 1022 2))).or
        ((checkOne 2 (within (imageByte img 0) 0 1)).or ((loadChecks img).drop 2 |>.findSome? id)) := by
  have hfind (c : Option FaultReason) (cs : List (Option FaultReason)) : (c :: cs).findSome? id = c.or (cs.findSome? id) := by
    cases c <;> rfl
  exact (hfind _ _).trans (congrArg _ (hfind _ _))

/-- The image check compares the line check of the image with its last two bytes (R184). -/
theorem imageCheck_iff (img : List Byte) : (crc16 (bytesBits (img.take 1022)) == BitVec.ofNat 16 (imageNat img 1022 2)) = true
    ↔ (crc16 (bytesBits (img.take 1022))).toNat = imageNat img 1022 2 := by
  rw [beq_iff_eq, ← BitVec.toNat_inj, BitVec.toNat_ofNat, Nat.mod_eq_of_lt (imageNat_lt img 1022)]

theorem firstFault_imageCheck (h : (crc16 (bytesBits (img.take 1022))).toNat ≠ imageNat img 1022 2) :
    firstFault img = some (1, none) := by
  rw [firstFault_cons, Bool.eq_false_iff.mpr (mt (imageCheck_iff img).mp h)]
  rfl

theorem firstFault_lineRate (h : (crc16 (bytesBits (img.take 1022))).toNat = imageNat img 1022 2) (hrate : 1 < imageByte img 0) :
    firstFault img = some (2, none) := by
  have hwithin : within (imageByte img 0) 0 1 = false := Bool.eq_false_iff.mpr fun hw => by
    have := (within_iff.mp hw).2
    omega
  rw [firstFault_cons, (imageCheck_iff img).mpr h, hwithin]
  rfl

end
end Sys2Proof.Machine

open Sys2Proof Sys2Proof.Machine

/-- Settles O15: the read and the fault by the load's definition, and the ranges through the first of the numbered checks that
fails. -/
theorem loadReadsAndFaults : Obligations.LoadReadsAndFaults := by
  refine ⟨fun s hreset hload hsent => ?_, fun image levels s r hreset hload hsent hlength => ⟨fun hfault => ?_,
    firstFault_imageCheck, firstFault_lineRate⟩, fun image => ⟨fun n item h => firstFault_number h, fun n k h =>
    settingsPass_of_passes h⟩⟩
  · have hread : s.loadingRead false = true := by
      rw [State.loadingRead, hreset, decide_eq_true hload, hsent]
      rfl
    refine congrArg Host.Outcome.next ?_
    unfold readStart
    rw [if_pos hread]
    rfl
  · have htake : image.take 1024 = image := List.take_of_length_le hlength.le
    refine congrArg Host.Outcome.next ?_
    unfold readDone
    rw [if_pos (loadingRead_begun hreset hload hsent), htake, hfault]
    rfl
end
